-- ==== Sys2Proof/Word.lean ====
section
/-! DEFINITION. Words of the link: a byte and a set of sixteen entitlement flags. -/

namespace Sys2Proof

/-- One byte of a frame (R173). -/
abbrev Byte := BitVec 8

/-- A set of the sixteen entitlement flags: bit k is flag k (03, section 3.2; 11, opening). -/
abbrev Flags := BitVec 16

end Sys2Proof
end

