-- ==== Sys2Proof/Config.lean ====
section
/-! DEFINITION. What is fixed in the part: the capacities of 00_scope.md and the ranges of its
conventions.  The spec states every result, so there is no free value here. -/

namespace Sys2Proof.Config

/-- Basket contexts (00, Capacities). -/
@[simp] def contexts : Nat := 20
/-- Park list places (R6). -/
@[simp] def parkPlaces : Nat := 8
/-- Live lines per basket (R9). -/
@[simp] def liveLines : Nat := 64
/-- Line numbers per basket (R9). -/
@[simp] def lineNumbers : Nat := 255
/-- Coupons per basket (R12). -/
@[simp] def coupons : Nat := 8
/-- Reduction entries per line in a plan (R85). -/
@[simp] def lineEntries : Nat := 4
/-- Basket-level entries per plan (R93). -/
@[simp] def basketEntries : Nat := 8
/-- Distinct offers used per plan (R87). -/
@[simp] def usedOffers : Nat := 32
/-- Places of a held-offer list (R100). -/
@[simp] def heldOffers : Nat := 32
/-- Offer slots (R22). -/
@[simp] def slots : Nat := 512
/-- Slots of one sector (R22). -/
@[simp] def sectorSlots : Nat := 64
/-- Waiting SECTOR ERASE requests per sector (R34). -/
@[simp] def sectorWaiting : Nat := 4
/-- Item group ranges (R47). -/
@[simp] def ranges : Nat := 256
/-- Override records in the table (R105). -/
@[simp] def overrides : Nat := 96
/-- Override records of one basket (R105). -/
@[simp] def basketOverrides : Nat := 8
/-- The highest keying sequence number (R107). -/
@[simp] def keyings : Nat := 65535
/-- Presented notices per desk (R123). -/
@[simp] def deskNotices : Nat := 8
/-- Account entries (R142). -/
@[simp] def accounts : Nat := 256
/-- Holds per account (R143). -/
@[simp] def holds : Nat := 4
/-- Journal records (R160). -/
@[simp] def journal : Nat := 128
/-- Request queue places (R176). -/
@[simp] def requestQueue : Nat := 32
/-- Transmit queue places (R179). -/
@[simp] def transmitQueue : Nat := 64
/-- The highest extended price, basket total and override limit (00, Money). -/
@[simp] def maxMoney : Nat := 99999999
/-- The highest unit price (00, Money). -/
@[simp] def maxPrice : Nat := 9999999
/-- The highest account balance (00, Points). -/
@[simp] def maxBalance : Nat := 99999999
/-- The most points one basket may earn (00, Points). -/
@[simp] def maxEarned : Nat := 999999
/-- The highest item code (00, Identifiers). -/
@[simp] def maxItem : Nat := 999999999
/-- The highest account number (00, Identifiers). -/
@[simp] def maxAccount : Nat := 9999999999
/-- Where the link's 16-bit counts stay (R175, R176). -/
@[simp] def countCeiling : Nat := 65535

end Sys2Proof.Config
end

