-- ==== Sys2Proof/Syntax.lean ====
section
/-! DEFINITION. The commands of the part: one constructor for each row of spec/opcode_table.json.
A request carries the lane byte and the tag of its header and the payload fields of section 11.8;
coded bytes stay numbers, because a code outside its list is refused by the request's own rule (R189). -/

namespace Sys2Proof

/-- The lane byte and the tag of a request's header (R173). -/
structure Header where
  lane : Byte
  tag : Byte
deriving DecidableEq, Repr

/-- A date of an offer record: year, month, day (11, opening). -/
structure Date where
  year : Nat
  month : Nat
  day : Nat
deriving DecidableEq, Repr

/-- The offer record of section 11.4, field by field as sent. -/
structure OfferRecord where
  number : Nat
  kind : Nat
  stacking : Nat
  priority : Nat
  group : Nat
  couponKey : Nat
  required : Flags
  limit : Nat
  form : Nat
  /-- Window enables: bit 0 start date, bit 1 end date, bit 2 weekday set, bit 3 time of day. -/
  enables : Byte
  value : Nat
  threshold : Nat
  buy : Nat
  pay : Nat
  extra : Nat
  /-- Weekday set: bit d for weekday d. -/
  weekdays : Byte
  startDate : Date
  endDate : Date
  fromMinute : Nat
  toMinute : Nat
  /-- 24 bytes that take no part in anything but OFFER READ. -/
  label : BitVec 192
deriving DecidableEq, Repr

/-- The levels of the BAUD1 and BAUD0 straps (00, Pins). -/
structure Straps where
  baud1 : Bool
  baud0 : Bool
deriving DecidableEq, Repr

/-- The outcome of a program or erase (02, section 2.4). -/
inductive StoreOutcome
  | success
  | failure
deriving DecidableEq, Repr

/-- The commands. -/
inductive Instr
  | powerOn (straps : Straps)
  | pinReset (straps : Straps)
  | frameReceived (bytes : List Byte)
  | messageSent
  | heldMessageJoin
  | laneOpen (h : Header)
  | laneClose (h : Header)
  | laneProfile (h : Header) (laneClass maskEntry floorLimit basketLimit : Nat)
  | basketOpen (h : Header)
  | lineAdd (h : Header) (basket item quantity price : Nat) (measured concession earn : Bool)
  | lineQuantity (h : Header) (basket line quantity : Nat)
  | lineVoid (h : Header) (basket line : Nat)
  | couponPresent (h : Header) (basket key : Nat)
  | couponWithdraw (h : Header) (basket key : Nat)
  | accountAttach (h : Header) (basket account : Nat)
  | accountDetach (h : Header) (basket : Nat)
  | total (h : Header) (basket : Nat)
  | planLines (h : Header) (basket start : Nat)
  | park (h : Header) (basket : Nat)
  | basketRecall (h : Header) (basket : Nat)
  | cancel (h : Header) (basket : Nat)
  | overrideKey (h : Header) (basket line price reason : Nat)
  | overrideWithdraw (h : Header) (basket line : Nat)
  | redeem (h : Header) (basket points : Nat)
  | redeemRelease (h : Header) (basket : Nat)
  | settle (h : Header) (basket expected : Nat)
  | authorise (h : Header) (desk : Nat) (tag : Byte) (operator : Nat)
  | decline (h : Header) (desk : Nat) (tag : Byte) (operator : Nat)
  | deskDuty (h : Header) (desk duty : Nat)
  | deskRecall (h : Header) (code : Nat)
  | deskStatus (h : Header) (desk : Nat)
  | routeSet (h : Header) (desk mode code : Nat)
  | routeMask (h : Header) (setting : Nat)
  | accountLoad (h : Header) (account tier : Nat) (flags : Flags) (balance : Nat)
  | accountEvict (h : Header) (account : Nat)
  | accountRead (h : Header) (account : Nat)
  | offerWrite (h : Header) (slot : Nat) (record : OfferRecord)
  | offerRetire (h : Header) (slot : Nat)
  | offerRead (h : Header) (slot : Nat)
  | sectorErase (h : Header) (sector : Nat)
  | eraseSuspend (h : Header)
  | eraseResume (h : Header)
  | storeStatus (h : Header)
  | storeClearFault (h : Header)
  | groupRangeAdd (h : Header) (first last group : Nat) (concession earn : Bool)
  | groupRangeRemove (h : Header) (first : Nat)
  | groupTableClear (h : Header)
  | maskWrite (h : Header) (target : Nat) (flags : Flags) (through : Nat)
  | maskRead (h : Header) (entry : Nat)
  | tierSet (h : Header) (tier rate : Nat)
  | limitsSet (h : Header) (holdLifetime noticeLimit presentations parkLifetime gatherWindow threshold pointValue : Nat)
  | storeIdentity (h : Header) (number : Nat)
  | calendarSet (h : Header) (year month day hour minute second : Nat)
  | calendarRead (h : Header)
  | minuteMark (h : Header)
  | tradingStart (h : Header)
  | tradingStop (h : Header)
  | restart (h : Header)
  | engineStatus (h : Header) (clear : Nat)
  | journalTake (h : Header)
  | journalCount (h : Header)
  | parkTimerExpiry (basket : Nat)
  | holdTimerExpiry (basket : Nat)
  | noticeTimerExpiry (lane : Nat)
  | gatherTimerExpiry
  | secondEvent
  | evaluationCompletion (unit : Nat)
  | offerProgramCompletion (outcome : StoreOutcome)
  | retireProgramCompletion (outcome : StoreOutcome)
  | eraseCompletion (outcome : StoreOutcome)
  | suspendCompletion
deriving DecidableEq, Repr

/-- The request kinds of the message catalogue (section 10.4, codes in section 11.2). -/
inductive RequestKind
  | laneOpen | laneClose | laneProfile | basketOpen | lineAdd | lineQuantity | lineVoid
  | couponPresent | couponWithdraw | accountAttach | accountDetach | total | planLines
  | park | basketRecall | cancel | overrideKey | overrideWithdraw | redeem | redeemRelease | settle
  | deskDuty | routeSet | routeMask | authorise | decline | deskRecall | deskStatus
  | accountLoad | accountEvict | accountRead | offerWrite | offerRetire | offerRead
  | sectorErase | eraseSuspend | eraseResume | storeStatus | storeClearFault
  | groupRangeAdd | groupRangeRemove | groupTableClear | maskWrite | maskRead | tierSet
  | limitsSet | storeIdentity | calendarSet | calendarRead | minuteMark | tradingStart
  | tradingStop | restart | engineStatus | journalTake | journalCount
deriving DecidableEq, Repr

/-- The notices (R180, codes in section 11.2). -/
inductive NoticeKind
  | engineStarted | deskNotice | noticeWithdrawn | overrideOutcome | planStale | holdLapsed
  | parkExpired | journalWaiting
deriving DecidableEq, Repr

end Sys2Proof
end

