-- ==== Sys2Proof/WellFormed.lean ====
section
/-! DEFINITION. Which commands can be written on the link: every operand of a request fits the size that
section 11.8 gives its field.  Ranges narrower than the field are the requests' own checks (BAD_FIELD) and
not asked here.  Events name a unit, lane or basket that exists. -/

namespace Sys2Proof

/-- `v` fits in `k` bytes. -/
abbrev fits (k v : Nat) : Bool := decide (v < 256 ^ k)

/-- The date fields fit their bytes (11, opening). -/
def Date.wellFormed (d : Date) : Bool := fits 2 d.year && fits 1 d.month && fits 1 d.day

/-- The fields of an offer record fit section 11.4. -/
def OfferRecord.wellFormed (r : OfferRecord) : Bool :=
  fits 2 r.number && fits 1 r.kind && fits 1 r.stacking && fits 1 r.priority && fits 1 r.group
  && fits 4 r.couponKey && fits 2 r.limit && fits 1 r.form && fits 4 r.value && fits 4 r.threshold
  && fits 1 r.buy && fits 1 r.pay && fits 1 r.extra && r.startDate.wellFormed && r.endDate.wellFormed
  && fits 2 r.fromMinute && fits 2 r.toMinute

/-- A command that can occur on the part's pins and link (R189, section 11.8). -/
def Instr.wellFormed : Instr → Bool
  | .powerOn _ => true
  | .pinReset _ => true
  | .frameReceived _ => true
  | .messageSent => true
  | .heldMessageJoin => true
  | .laneOpen _ => true
  | .laneClose _ => true
  | .laneProfile _ c m f b => fits 1 c && fits 1 m && fits 4 f && fits 4 b
  | .basketOpen _ => true
  | .lineAdd _ n item q p _ _ _ => fits 2 n && fits 4 item && fits 2 q && fits 4 p
  | .lineQuantity _ n l q => fits 2 n && fits 1 l && fits 2 q
  | .lineVoid _ n l => fits 2 n && fits 1 l
  | .couponPresent _ n k => fits 2 n && fits 4 k
  | .couponWithdraw _ n k => fits 2 n && fits 4 k
  | .accountAttach _ n a => fits 2 n && fits 5 a
  | .accountDetach _ n => fits 2 n
  | .total _ n => fits 2 n
  | .planLines _ n i => fits 2 n && fits 1 i
  | .park _ n => fits 2 n
  | .basketRecall _ n => fits 2 n
  | .cancel _ n => fits 2 n
  | .overrideKey _ n l p r => fits 2 n && fits 1 l && fits 4 p && fits 1 r
  | .overrideWithdraw _ n l => fits 2 n && fits 1 l
  | .redeem _ n p => fits 2 n && fits 4 p
  | .redeemRelease _ n => fits 2 n
  | .settle _ n p => fits 2 n && fits 4 p
  | .authorise _ d _ o => fits 1 d && fits 2 o
  | .decline _ d _ o => fits 1 d && fits 2 o
  | .deskDuty _ d u => fits 1 d && fits 1 u
  | .deskRecall _ c => fits 2 c
  | .deskStatus _ d => fits 1 d
  | .routeSet _ d m c => fits 1 d && fits 1 m && fits 1 c
  | .routeMask _ m => fits 1 m
  | .accountLoad _ a t _ b => fits 5 a && fits 1 t && fits 4 b
  | .accountEvict _ a => fits 5 a
  | .accountRead _ a => fits 5 a
  | .offerWrite _ k r => fits 2 k && r.wellFormed
  | .offerRetire _ k => fits 2 k
  | .offerRead _ k => fits 2 k
  | .sectorErase _ k => fits 1 k
  | .eraseSuspend _ => true
  | .eraseResume _ => true
  | .storeStatus _ => true
  | .storeClearFault _ => true
  | .groupRangeAdd _ f l g _ _ => fits 4 f && fits 4 l && fits 1 g
  | .groupRangeRemove _ f => fits 4 f
  | .groupTableClear _ => true
  | .maskWrite _ t _ u => fits 1 t && fits 1 u
  | .maskRead _ e => fits 1 e
  | .tierSet _ t r => fits 1 t && fits 1 r
  | .limitsSet _ a b c d e f g => fits 2 a && fits 2 b && fits 1 c && fits 2 d && fits 2 e && fits 1 f && fits 2 g
  | .storeIdentity _ n => fits 2 n
  | .calendarSet _ y mo d h mi se => fits 2 y && fits 1 mo && fits 1 d && fits 1 h && fits 1 mi && fits 1 se
  | .calendarRead _ => true
  | .minuteMark _ => true
  | .tradingStart _ => true
  | .tradingStop _ => true
  | .restart _ => true
  | .engineStatus _ c => fits 1 c
  | .journalTake _ => true
  | .journalCount _ => true
  | .parkTimerExpiry n => fits 2 n
  | .holdTimerExpiry n => fits 2 n
  | .noticeTimerExpiry l => decide (l < 16)
  | .gatherTimerExpiry => true
  | .secondEvent => true
  | .evaluationCompletion u => decide (u < 4)
  | .offerProgramCompletion _ => true
  | .retireProgramCompletion _ => true
  | .eraseCompletion _ => true
  | .suspendCompletion => true

end Sys2Proof
end

