-- ==== Sys2Proof/Decode.lean ====
section
/-! DEFINITION. Bytes to commands: byte order, the kind codes and payload lengths of section 11.2, and a request
read from and written to its payload by the fields of section 11.8.  No row of the table has bits (log 24). -/

namespace Sys2Proof

/-! ### Byte order (11, opening) -/

/-- A number in `k` bytes, least significant byte first. -/
def le : Nat → Nat → List Byte
  | 0, _ => []
  | k + 1, n => BitVec.ofNat 8 n :: le k (n / 256)

/-- The number in a list of bytes, least significant byte first. -/
def leNat : List Byte → Nat
  | [] => 0
  | b :: rest => b.toNat + 256 * leNat rest

/-- The field of `k` bytes at an offset. -/
def field (bytes : List Byte) (offset k : Nat) : Nat := leNat ((bytes.drop offset).take k)

/-- The byte at an offset. -/
def byteAt (bytes : List Byte) (offset : Nat) : Byte := BitVec.ofNat 8 (field bytes offset 1)

/-- A bit of a flag byte. -/
def flagAt (bytes : List Byte) (offset bit : Nat) : Bool := (byteAt bytes offset).getLsbD bit

/-! ### Kind codes (section 11.2) -/

/-- The kind code of a request. -/
def RequestKind.code : RequestKind → Byte
  | .laneOpen => 0x01
  | .laneClose => 0x02
  | .laneProfile => 0x03
  | .basketOpen => 0x04
  | .lineAdd => 0x05
  | .lineQuantity => 0x06
  | .lineVoid => 0x07
  | .couponPresent => 0x08
  | .couponWithdraw => 0x09
  | .accountAttach => 0x0A
  | .accountDetach => 0x0B
  | .total => 0x0C
  | .planLines => 0x0D
  | .park => 0x0E
  | .basketRecall => 0x0F
  | .cancel => 0x10
  | .overrideKey => 0x11
  | .overrideWithdraw => 0x12
  | .redeem => 0x13
  | .redeemRelease => 0x14
  | .settle => 0x15
  | .deskDuty => 0x16
  | .routeSet => 0x17
  | .routeMask => 0x18
  | .authorise => 0x19
  | .decline => 0x1A
  | .deskRecall => 0x1B
  | .deskStatus => 0x1C
  | .accountLoad => 0x1D
  | .accountEvict => 0x1E
  | .accountRead => 0x1F
  | .offerWrite => 0x20
  | .offerRetire => 0x21
  | .offerRead => 0x22
  | .sectorErase => 0x23
  | .eraseSuspend => 0x24
  | .eraseResume => 0x25
  | .storeStatus => 0x26
  | .storeClearFault => 0x27
  | .groupRangeAdd => 0x28
  | .groupRangeRemove => 0x29
  | .groupTableClear => 0x2A
  | .maskWrite => 0x2B
  | .maskRead => 0x2C
  | .tierSet => 0x2D
  | .limitsSet => 0x2E
  | .storeIdentity => 0x2F
  | .calendarSet => 0x30
  | .calendarRead => 0x31
  | .minuteMark => 0x32
  | .tradingStart => 0x33
  | .tradingStop => 0x34
  | .restart => 0x35
  | .engineStatus => 0x36
  | .journalTake => 0x37
  | .journalCount => 0x38

/-- The request kinds in code order. -/
def RequestKind.all : List RequestKind :=
  [.laneOpen, .laneClose, .laneProfile, .basketOpen, .lineAdd, .lineQuantity, .lineVoid, .couponPresent,
   .couponWithdraw, .accountAttach, .accountDetach, .total, .planLines, .park, .basketRecall, .cancel]
  ++ [.overrideKey, .overrideWithdraw, .redeem, .redeemRelease, .settle, .deskDuty, .routeSet, .routeMask,
   .authorise, .decline, .deskRecall, .deskStatus, .accountLoad, .accountEvict, .accountRead, .offerWrite]
  ++ [.offerRetire, .offerRead, .sectorErase, .eraseSuspend, .eraseResume, .storeStatus, .storeClearFault,
   .groupRangeAdd, .groupRangeRemove, .groupTableClear, .maskWrite, .maskRead, .tierSet, .limitsSet,
   .storeIdentity, .calendarSet]
  ++ [.calendarRead, .minuteMark, .tradingStart, .tradingStop, .restart, .engineStatus, .journalTake,
   .journalCount]

/-- The request kind of a code; every other code is none (R176). -/
def RequestKind.ofCode (c : Byte) : Option RequestKind := RequestKind.all.find? fun k => decide (k.code = c)

/-- The payload length of a request kind, in bytes. -/
def RequestKind.payloadLength : RequestKind → Nat
  | .laneProfile => 10
  | .lineAdd => 13
  | .lineQuantity => 5
  | .lineVoid => 3
  | .couponPresent => 6
  | .couponWithdraw => 6
  | .accountAttach => 7
  | .accountDetach => 2
  | .total => 2
  | .planLines => 3
  | .park => 2
  | .basketRecall => 2
  | .cancel => 2
  | .overrideKey => 8
  | .overrideWithdraw => 3
  | .redeem => 6
  | .redeemRelease => 2
  | .settle => 6
  | .deskDuty => 2
  | .routeSet => 3
  | .routeMask => 1
  | .authorise => 4
  | .decline => 4
  | .deskRecall => 2
  | .deskStatus => 1
  | .accountLoad => 12
  | .accountEvict => 5
  | .accountRead => 5
  | .offerWrite => 66
  | .offerRetire => 2
  | .offerRead => 2
  | .sectorErase => 1
  | .groupRangeAdd => 10
  | .groupRangeRemove => 4
  | .maskWrite => 4
  | .maskRead => 1
  | .tierSet => 2
  | .limitsSet => 12
  | .storeIdentity => 2
  | .calendarSet => 7
  | .engineStatus => 1
  | .laneOpen | .laneClose | .basketOpen => 0
  | .eraseSuspend | .eraseResume | .storeStatus | .storeClearFault => 0
  | .groupTableClear | .calendarRead | .minuteMark => 0
  | .tradingStart | .tradingStop | .restart | .journalTake | .journalCount => 0

/-- The kind code of a notice. -/
def NoticeKind.code : NoticeKind → Byte
  | .engineStarted => 0x70
  | .deskNotice => 0x71
  | .noticeWithdrawn => 0x72
  | .overrideOutcome => 0x73
  | .planStale => 0x74
  | .holdLapsed => 0x75
  | .parkExpired => 0x76
  | .journalWaiting => 0x77

/-! ### The offer record (section 11.4) -/

/-- A date: year (2), month, day. -/
def dateBytes (d : Date) : List Byte := le 2 d.year ++ le 1 d.month ++ le 1 d.day

def dateAt (p : List Byte) (offset : Nat) : Date :=
  { year := field p offset 2, month := field p (offset + 2) 1, day := field p (offset + 3) 1 }

/-- The 64 bytes of an offer record. -/
def recordBytes (r : OfferRecord) : List Byte :=
  (le 2 r.number ++ le 1 r.kind ++ le 1 r.stacking ++ le 1 r.priority ++ le 1 r.group ++ le 4 r.couponKey
    ++ le 2 r.required.toNat ++ le 2 r.limit)
  ++ (le 1 r.form ++ le 1 r.enables.toNat ++ le 4 r.value ++ le 4 r.threshold ++ le 1 r.buy ++ le 1 r.pay
    ++ le 1 r.extra ++ le 1 r.weekdays.toNat)
  ++ (dateBytes r.startDate ++ dateBytes r.endDate ++ le 2 r.fromMinute ++ le 2 r.toMinute ++ le 24 r.label.toNat)

/-- The offer record at an offset. -/
def recordAt (p : List Byte) (o : Nat) : OfferRecord :=
  { number := field p o 2, kind := field p (o + 2) 1, stacking := field p (o + 3) 1, priority := field p (o + 4) 1
    group := field p (o + 5) 1, couponKey := field p (o + 6) 4, required := BitVec.ofNat 16 (field p (o + 10) 2)
    limit := field p (o + 12) 2, form := field p (o + 14) 1, enables := byteAt p (o + 15)
    value := field p (o + 16) 4, threshold := field p (o + 20) 4, buy := field p (o + 24) 1
    pay := field p (o + 25) 1, extra := field p (o + 26) 1, weekdays := byteAt p (o + 27)
    startDate := dateAt p (o + 28), endDate := dateAt p (o + 32), fromMinute := field p (o + 36) 2
    toMinute := field p (o + 38) 2, label := BitVec.ofNat 192 (field p (o + 40) 24) }

/-! ### Request payloads (section 11.8) -/

/-- The request a header and a payload of the kind's length spell.  Unnamed bits of a flag byte are not read
(R189). -/
def decodeRequest (k : RequestKind) (h : Header) (p : List Byte) : Instr :=
  match k with
  | .laneOpen => .laneOpen h
  | .laneClose => .laneClose h
  | .laneProfile => .laneProfile h (field p 0 1) (field p 1 1) (field p 2 4) (field p 6 4)
  | .basketOpen => .basketOpen h
  | .lineAdd =>
    .lineAdd h (field p 0 2) (field p 2 4) (field p 6 2) (field p 8 4) (flagAt p 12 0) (flagAt p 12 1) (flagAt p 12 2)
  | .lineQuantity => .lineQuantity h (field p 0 2) (field p 2 1) (field p 3 2)
  | .lineVoid => .lineVoid h (field p 0 2) (field p 2 1)
  | .couponPresent => .couponPresent h (field p 0 2) (field p 2 4)
  | .couponWithdraw => .couponWithdraw h (field p 0 2) (field p 2 4)
  | .accountAttach => .accountAttach h (field p 0 2) (field p 2 5)
  | .accountDetach => .accountDetach h (field p 0 2)
  | .total => .total h (field p 0 2)
  | .planLines => .planLines h (field p 0 2) (field p 2 1)
  | .park => .park h (field p 0 2)
  | .basketRecall => .basketRecall h (field p 0 2)
  | .cancel => .cancel h (field p 0 2)
  | .overrideKey => .overrideKey h (field p 0 2) (field p 2 1) (field p 3 4) (field p 7 1)
  | .overrideWithdraw => .overrideWithdraw h (field p 0 2) (field p 2 1)
  | .redeem => .redeem h (field p 0 2) (field p 2 4)
  | .redeemRelease => .redeemRelease h (field p 0 2)
  | .settle => .settle h (field p 0 2) (field p 2 4)
  | .deskDuty => .deskDuty h (field p 0 1) (field p 1 1)
  | .routeSet => .routeSet h (field p 0 1) (field p 1 1) (field p 2 1)
  | .routeMask => .routeMask h (field p 0 1)
  | .authorise => .authorise h (field p 0 1) (byteAt p 1) (field p 2 2)
  | .decline => .decline h (field p 0 1) (byteAt p 1) (field p 2 2)
  | .deskRecall => .deskRecall h (field p 0 2)
  | .deskStatus => .deskStatus h (field p 0 1)
  | .accountLoad =>
    .accountLoad h (field p 0 5) (field p 5 1) (BitVec.ofNat 16 (field p 6 2)) (field p 8 4)
  | .accountEvict => .accountEvict h (field p 0 5)
  | .accountRead => .accountRead h (field p 0 5)
  | .offerWrite => .offerWrite h (field p 0 2) (recordAt p 2)
  | .offerRetire => .offerRetire h (field p 0 2)
  | .offerRead => .offerRead h (field p 0 2)
  | .sectorErase => .sectorErase h (field p 0 1)
  | .eraseSuspend => .eraseSuspend h
  | .eraseResume => .eraseResume h
  | .storeStatus => .storeStatus h
  | .storeClearFault => .storeClearFault h
  | .groupRangeAdd => .groupRangeAdd h (field p 0 4) (field p 4 4) (field p 8 1) (flagAt p 9 0) (flagAt p 9 1)
  | .groupRangeRemove => .groupRangeRemove h (field p 0 4)
  | .groupTableClear => .groupTableClear h
  | .maskWrite => .maskWrite h (field p 0 1) (BitVec.ofNat 16 (field p 1 2)) (field p 3 1)
  | .maskRead => .maskRead h (field p 0 1)
  | .tierSet => .tierSet h (field p 0 1) (field p 1 1)
  | .limitsSet =>
    .limitsSet h (field p 0 2) (field p 2 2) (field p 4 1) (field p 5 2) (field p 7 2) (field p 9 1) (field p 10 2)
  | .storeIdentity => .storeIdentity h (field p 0 2)
  | .calendarSet =>
    .calendarSet h (field p 0 2) (field p 2 1) (field p 3 1) (field p 4 1) (field p 5 1) (field p 6 1)
  | .calendarRead => .calendarRead h
  | .minuteMark => .minuteMark h
  | .tradingStart => .tradingStart h
  | .tradingStop => .tradingStop h
  | .restart => .restart h
  | .engineStatus => .engineStatus h (field p 0 1)
  | .journalTake => .journalTake h
  | .journalCount => .journalCount h

/-- A bit of a flag byte, as the byte's number. -/
def bitValue (b : Bool) (k : Nat) : Nat := if b then 2 ^ k else 0

/-- The kind, header and payload that spell a request; an event has none. -/
def encodeRequest : Instr → Option (RequestKind × Header × List Byte)
  | .powerOn _ | .pinReset _ | .frameReceived _ | .messageSent | .heldMessageJoin => none
  | .laneOpen h => some (.laneOpen, h, [])
  | .laneClose h => some (.laneClose, h, [])
  | .laneProfile h c m f b => some (.laneProfile, h, le 1 c ++ le 1 m ++ le 4 f ++ le 4 b)
  | .basketOpen h => some (.basketOpen, h, [])
  | .lineAdd h n i q u m c e =>
    some (.lineAdd, h, le 2 n ++ le 4 i ++ le 2 q ++ le 4 u ++ le 1 (bitValue m 0 + bitValue c 1 + bitValue e 2))
  | .lineQuantity h n l q => some (.lineQuantity, h, le 2 n ++ le 1 l ++ le 2 q)
  | .lineVoid h n l => some (.lineVoid, h, le 2 n ++ le 1 l)
  | .couponPresent h n k => some (.couponPresent, h, le 2 n ++ le 4 k)
  | .couponWithdraw h n k => some (.couponWithdraw, h, le 2 n ++ le 4 k)
  | .accountAttach h n a => some (.accountAttach, h, le 2 n ++ le 5 a)
  | .accountDetach h n => some (.accountDetach, h, le 2 n)
  | .total h n => some (.total, h, le 2 n)
  | .planLines h n i => some (.planLines, h, le 2 n ++ le 1 i)
  | .park h n => some (.park, h, le 2 n)
  | .basketRecall h n => some (.basketRecall, h, le 2 n)
  | .cancel h n => some (.cancel, h, le 2 n)
  | .overrideKey h n l u r => some (.overrideKey, h, le 2 n ++ le 1 l ++ le 4 u ++ le 1 r)
  | .overrideWithdraw h n l => some (.overrideWithdraw, h, le 2 n ++ le 1 l)
  | .redeem h n x => some (.redeem, h, le 2 n ++ le 4 x)
  | .redeemRelease h n => some (.redeemRelease, h, le 2 n)
  | .settle h n x => some (.settle, h, le 2 n ++ le 4 x)
  | .authorise h d t o => some (.authorise, h, le 1 d ++ le 1 t.toNat ++ le 2 o)
  | .decline h d t o => some (.decline, h, le 1 d ++ le 1 t.toNat ++ le 2 o)
  | .deskDuty h d u => some (.deskDuty, h, le 1 d ++ le 1 u)
  | .deskRecall h c => some (.deskRecall, h, le 2 c)
  | .deskStatus h d => some (.deskStatus, h, le 1 d)
  | .routeSet h d m c => some (.routeSet, h, le 1 d ++ le 1 m ++ le 1 c)
  | .routeMask h m => some (.routeMask, h, le 1 m)
  | .accountLoad h a t f b => some (.accountLoad, h, le 5 a ++ le 1 t ++ le 2 f.toNat ++ le 4 b)
  | .accountEvict h a => some (.accountEvict, h, le 5 a)
  | .accountRead h a => some (.accountRead, h, le 5 a)
  | .offerWrite h k r => some (.offerWrite, h, le 2 k ++ recordBytes r)
  | .offerRetire h k => some (.offerRetire, h, le 2 k)
  | .offerRead h k => some (.offerRead, h, le 2 k)
  | .sectorErase h k => some (.sectorErase, h, le 1 k)
  | .eraseSuspend h => some (.eraseSuspend, h, [])
  | .eraseResume h => some (.eraseResume, h, [])
  | .storeStatus h => some (.storeStatus, h, [])
  | .storeClearFault h => some (.storeClearFault, h, [])
  | .groupRangeAdd h f l g c e =>
    some (.groupRangeAdd, h, le 4 f ++ le 4 l ++ le 1 g ++ le 1 (bitValue c 0 + bitValue e 1))
  | .groupRangeRemove h f => some (.groupRangeRemove, h, le 4 f)
  | .groupTableClear h => some (.groupTableClear, h, [])
  | .maskWrite h t f u => some (.maskWrite, h, le 1 t ++ le 2 f.toNat ++ le 1 u)
  | .maskRead h e => some (.maskRead, h, le 1 e)
  | .tierSet h t r => some (.tierSet, h, le 1 t ++ le 1 r)
  | .limitsSet h a b c d e f g =>
    some (.limitsSet, h, le 2 a ++ le 2 b ++ le 1 c ++ le 2 d ++ le 2 e ++ le 1 f ++ le 2 g)
  | .storeIdentity h n => some (.storeIdentity, h, le 2 n)
  | .calendarSet h y mo d ho mi se =>
    some (.calendarSet, h, le 2 y ++ le 1 mo ++ le 1 d ++ le 1 ho ++ le 1 mi ++ le 1 se)
  | .calendarRead h => some (.calendarRead, h, [])
  | .minuteMark h => some (.minuteMark, h, [])
  | .tradingStart h => some (.tradingStart, h, [])
  | .tradingStop h => some (.tradingStop, h, [])
  | .restart h => some (.restart, h, [])
  | .engineStatus h c => some (.engineStatus, h, le 1 c)
  | .journalTake h => some (.journalTake, h, [])
  | .journalCount h => some (.journalCount, h, [])
  | .parkTimerExpiry _ | .holdTimerExpiry _ | .noticeTimerExpiry _ | .gatherTimerExpiry | .secondEvent => none
  | .evaluationCompletion _ | .offerProgramCompletion _ | .retireProgramCompletion _ => none
  | .eraseCompletion _ | .suspendCompletion => none

/-- The command that a word spells by the table's bits: no row of the table gives bits, so no word spells one
(log 24). -/
def decodeTableWord (_nbits _w : Nat) : Option Instr := none

end Sys2Proof
end

