-- ==== Sys2Proof/Machine/State.lean ====
section
/-! DEFINITION. The state of the part: what each of the ten blocks owns (00_scope.md, Block overview),
as plain data, and its values after power-on.  Money, points, counts and numbers are naturals; the counts
that run round (generation, presentation tag, desk totals) and the flag sets are bit vectors. -/

namespace Sys2Proof.Machine

/-- No meaning of this model ends in a fault: the spec gives every step an effect in every state. -/
inductive Fault
deriving DecidableEq, Repr

/-- Reasons a command has no meaning. -/
inductive Refusal
  /-- Raised by an arm of exec that has no meaning yet (none in this model); safe: the model stops. -/
  | notModelled (mnemonic : String)
deriving DecidableEq, Repr

/-- The ten blocks (00, Block overview). -/
inductive Block
  | link | basketTable | evaluator | store | calendar | tables | overrides | router | accounts | settlement
deriving DecidableEq, Repr

/-! ### Calendar and stamps -/

/-- A calendar stamp: the seven fields (04, section 4.5). -/
structure Stamp where
  year : Nat
  month : Nat
  day : Nat
  weekday : Nat
  hour : Nat
  minute : Nat
  second : Nat
deriving DecidableEq, Repr

inductive CalendarState
  | unset
  | running
deriving DecidableEq, Repr

/-- The Store Calendar (R60). -/
structure Calendar where
  state : CalendarState
  now : Stamp
  /-- Position within the present second, in ms of the model's time base, and 1000 for each second event that stays
  due (log 20). -/
  phase : Nat
deriving DecidableEq, Repr

/-- The five loyalty tiers (00, Terms). -/
inductive Tier
  | retail
  | tradeA
  | tradeB
  | tradeC
  | staff
deriving DecidableEq, Repr

/-! ### Basket Table -/

inductive LaneState
  | closed
  | opened
deriving DecidableEq, Repr

inductive LaneClass
  | staffed
  | selfService
  | tradeCounter
  | yard
deriving DecidableEq, Repr

/-- A lane record (section 1.1). -/
structure Lane where
  state : LaneState
  laneClass : LaneClass
  maskEntry : Nat
  floorLimit : Nat
  basketLimit : Nat
  active : Option Nat
deriving DecidableEq, Repr

/-- A line record (section 1.2). -/
structure Line where
  number : Nat
  item : Nat
  group : Nat
  quantity : Nat
  price : Nat
  measured : Bool
  concession : Bool
  earn : Bool
deriving DecidableEq, Repr

inductive OfferKind
  | unitCut
  | quantityBreak
  | multiBuy
  | basketCoupon
  | pointsBoost
deriving DecidableEq, Repr

/-- A plan's line entry: line, net and the pairs of offer number and amount (R97). -/
structure LineEntry where
  line : Nat
  net : Nat
  pairs : List (Nat × Nat)
deriving DecidableEq, Repr

/-- A basket-level entry: offer, its kind, amount or points (R97). -/
structure BasketEntry where
  offer : Nat
  kind : OfferKind
  amount : Nat
deriving DecidableEq, Repr

/-- A used offer (R97). -/
structure UsedOffer where
  offer : Nat
  slot : Nat
  kind : OfferKind
  applications : Nat
  total : Nat
deriving DecidableEq, Repr

/-- The plan record (R97). -/
structure Plan where
  basket : Nat
  seq : Nat
  stamp : Stamp
  gross : Nat
  lineConcessions : Nat
  overrideReductions : Nat
  basketConcessions : Nat
  payable : Nat
  points : Nat
  pendingOverrides : Nat
  lines : List LineEntry
  entries : List BasketEntry
  used : List UsedOffer
  coupons : List Nat
deriving DecidableEq, Repr

/-- The states of a context that holds a basket; a FREE context is not listed (log 15). -/
inductive BasketState
  | opened
  | totalling
  | totalled
  | parked
deriving DecidableEq, Repr

/-- A basket in its context (section 1.2).  The keying count is the Override Table's (R107). -/
structure Basket where
  number : Nat
  state : BasketState
  lane : Option Nat
  generation : BitVec 16
  lines : List Line
  nextLine : Nat
  coupons : List Nat
  account : Option Nat
  plan : Option Plan
  current : Bool
  planSeq : Nat
  heldOffers : List Nat
  parkTime : Option Stamp
  /-- The park timer: ms left, absent when stopped. -/
  parkTimer : Option Nat
  expired : Bool
  /-- The outstanding TOTAL: the lane byte and tag its reply will carry (R103). -/
  outstanding : Option Header
  keyingCount : Nat
deriving DecidableEq, Repr

structure BasketTable where
  lanes : Vector Lane 16
  /-- The contexts that are not FREE, at most 20. -/
  baskets : List Basket
  nextNumber : Nat
  /-- Basket numbers, oldest parking first. -/
  parkList : List Nat
deriving DecidableEq, Repr

/-! ### Override Table -/

inductive Reason
  | priceMatch
  | damaged
  | quote
  | goodwill
deriving DecidableEq, Repr

/-- Who granted an override (section 6.1). -/
inductive Authority
  | lane
  | desk (number operator : Nat)
deriving DecidableEq, Repr

/-- PENDING with its presentation count and presented mark, or GRANTED with its authority (R105). -/
inductive OverrideState
  | pending (count : Nat) (presented : Bool)
  | granted (authority : Authority) (authorised : Nat)
deriving DecidableEq, Repr

structure OverrideRecord where
  basket : Nat
  line : Nat
  seq : Nat
  price : Nat
  reason : Reason
  reduction : Nat
  state : OverrideState
deriving DecidableEq, Repr

/-! ### Concession Evaluator -/

/-- An override record as the snapshot holds it: line, state and requested unit price (R80). -/
structure SnapOverride where
  line : Nat
  granted : Bool
  price : Nat
deriving DecidableEq, Repr

/-- A candidate offer with the slot it was read from (R80). -/
structure Candidate where
  slot : Nat
  record : OfferRecord
deriving DecidableEq, Repr

/-- What the snapshot holds of an attached account (R80). -/
structure SnapAccount where
  tier : Tier
  flags : Flags
  rate : Nat
deriving DecidableEq, Repr

/-- The snapshot (R80). -/
structure Snapshot where
  basket : Nat
  generation : BitVec 16
  lines : List Line
  coupons : List Nat
  heldOffers : List Nat
  overrides : List SnapOverride
  mask : Flags
  account : Option SnapAccount
  stamp : Stamp
  candidates : List Candidate
deriving DecidableEq, Repr

/-- A running evaluation unit (section 5.1). -/
structure RunningUnit where
  basket : Nat
  snapshot : Snapshot
  discard : Bool
deriving DecidableEq, Repr

structure Evaluator where
  queue : List Nat
  /-- The four units; an idle unit holds none. -/
  units : Vector (Option RunningUnit) 4
deriving DecidableEq, Repr

/-! ### Offer Store -/

/-- A slot that is not ERASED (section 2.1); only a LIVE slot has an active mark to set (R28). -/
inductive Slot
  | live (record : OfferRecord) (active : Bool)
  | retired (record : OfferRecord)
  | damaged
deriving DecidableEq, Repr

/-- The offer array: (slot, content) pairs in canonical form; an unlisted slot is ERASED. -/
abbrev OfferArray := List (Nat × Slot)

inductive ControllerState
  | ready
  | programming
  | gathering
  | erasing
  | suspending
  | suspended
  | programmingInSuspend
  | fault
deriving DecidableEq, Repr

/-- What a program in flight writes (section 2.4). -/
inductive ProgramJob
  | offer (record : OfferRecord)
  | retire
deriving DecidableEq, Repr

structure Program where
  slot : Nat
  job : ProgramJob
  request : Header
deriving DecidableEq, Repr

structure OfferStore where
  slots : OfferArray
  /-- The slot that carries the withdrawing mark; at most one does (R26). -/
  withdrawing : Option Nat
  condemned : Vector Bool 8
  controller : ControllerState
  /-- The waiting SECTOR ERASE requests of each sector; a sector is in the erase set when it has one (log 21). -/
  waiting : Vector (List Header) 8
  inProgress : Option Nat
  /-- The gather timer: ms left, absent when stopped. -/
  gatherTimer : Option Nat
  program : Option Program
  suspend : Option Header
deriving DecidableEq, Repr

/-! ### Reference Tables -/

/-- An item group range (section 3.1). -/
structure GroupRange where
  first : Nat
  last : Nat
  group : Nat
  concession : Bool
  earn : Bool
deriving DecidableEq, Repr

/-- The seven engine limits (R57). -/
structure Limits where
  holdLifetime : Nat
  noticeLimit : Nat
  presentations : Nat
  parkLifetime : Nat
  gatherWindow : Nat
  threshold : Nat
  pointValue : Nat
deriving DecidableEq, Repr

structure Tables where
  ranges : List GroupRange
  /-- The variable mask entries 1 to 15, entry e at index e - 1 (R51). -/
  masks : Vector Flags 15
  /-- Earn rates of RETAIL, TRADE_A, TRADE_B, TRADE_C, STAFF. -/
  rates : Vector Nat 5
  limits : Limits
  identity : Option Nat
deriving DecidableEq, Repr

/-! ### Authorisation Router -/

inductive RouteMode
  | single
  | persistent
deriving DecidableEq, Repr

/-- A presentation: the presented record, the presented desk and the running notice timer (R123). -/
structure Presentation where
  basket : Nat
  line : Nat
  seq : Nat
  desk : Nat
  /-- ms left on the notice timer. -/
  timer : Nat
deriving DecidableEq, Repr

structure Route where
  /-- The desk, absent for ANY. -/
  desk : Option Nat
  mode : RouteMode
  masked : Bool
  code : Nat
  presented : Option Presentation
  tag : BitVec 8
deriving DecidableEq, Repr

structure Desk where
  onDuty : Bool
  openCount : Nat
  presentedTotal : BitVec 16
  decidedTotal : BitVec 16
deriving DecidableEq, Repr

structure Router where
  routes : Vector Route 16
  desks : Vector Desk 4
deriving DecidableEq, Repr

/-- Why a presentation or a record ended (R139, R140; codes in section 11.2). -/
inductive Cause
  | routeClosed
  | deskDeclined
  | recalled
  | deskOff
  | timedOut
  | lane
deriving DecidableEq, Repr

/-- Outcomes of an override (section 11.2). -/
inductive OverrideOutcome
  | granted
  | pending
  | declined
  | lapsed
deriving DecidableEq, Repr

/-! ### Account Table -/

/-- A point hold (section 8.1). -/
structure Hold where
  basket : Nat
  lane : Nat
  points : Nat
  /-- ms left on the hold timer. -/
  timer : Nat
deriving DecidableEq, Repr

structure Account where
  number : Nat
  tier : Tier
  flags : Flags
  balance : Nat
  holds : List Hold
  refs : Nat
deriving DecidableEq, Repr

structure AccountTable where
  entries : List Account
  /-- Account numbers of the idle entries, oldest at the head (R144). -/
  idle : List Nat
deriving DecidableEq, Repr

/-! ### Settlement Unit and Journal -/

inductive CancelCause
  | host
  | parkExpired
deriving DecidableEq, Repr

/-- A granted override in a SETTLED record (R166). -/
structure JournalOverride where
  line : Nat
  reason : Reason
  price : Nat
  reduction : Nat
  authority : Authority
deriving DecidableEq, Repr

/-- A SETTLED record (R166). -/
structure SettledRecord where
  identity : Nat
  basket : Nat
  lane : Nat
  laneClass : LaneClass
  account : Option Nat
  stamp : Stamp
  planSeq : Nat
  planStamp : Stamp
  gross : Nat
  lineConcessions : Nat
  overrideReductions : Nat
  basketConcessions : Nat
  payable : Nat
  redeemed : Nat
  redemptionValue : Nat
  amountDue : Nat
  /-- Points earned, balance after, points lost to the cap; absent with no account. -/
  credit : Option (Nat × Nat × Nat)
  offers : List UsedOffer
  overrides : List JournalOverride
  coupons : List Nat
deriving DecidableEq, Repr

/-- A CANCELLED record (R167). -/
structure CancelledRecord where
  identity : Nat
  basket : Nat
  lane : Option (Nat × LaneClass)
  account : Option Nat
  stamp : Stamp
  cause : CancelCause
  parkTime : Option Stamp
deriving DecidableEq, Repr

inductive JournalRecord
  | settled (record : SettledRecord)
  | cancelled (record : CancelledRecord)
deriving DecidableEq, Repr

structure Settlement where
  journal : List JournalRecord
  /-- The expired-parked waiting count (R169). -/
  waiting : Nat
deriving DecidableEq, Repr

/-! ### Messages -/

/-- The status codes (section 10.5, codes in section 11.3). -/
inductive Status
  | ok
  | unknownKind | badLength | queueFull | badField | wrongMode | restarted
  | laneClosed | laneBusy | noBasket | noSlot | basketState | evaluating
  | linesFull | lineNumbersUsed | noLine | duplicate | couponsFull | noCoupon
  | parkFull | notParked | cancelled | empty
  | notLoaded | accountAttached | noAccount | holdActive | insufficient | holdsFull | holdsExceed
  | tableFull | inUse | redeemExceeds
  | planStale | overridePending | holdLapsed | redemptionMismatch | journalFull | journalEmpty
  | notReduction | overrideLimit | overridesFull | noOverride
  | routeBusy | tooLate
  | storeBusy | notBlank | notLive | sectorErasing | storeFault | failed | abandoned | duplicateOffer
  | notErasing | notSuspended | alreadySuspended
  | overlap | noRange | readOnly | alreadySet | calendarUnset | noIdentity
deriving DecidableEq, Repr

inductive Mode
  | maintenance
  | trading
  | quiescing
deriving DecidableEq, Repr

inductive ResetCause
  | power
  | pin
deriving DecidableEq, Repr

/-- The slot states as OFFER READ reports them (section 11.9). -/
inductive SlotState
  | erased
  | live
  | retired
  | damaged
deriving DecidableEq, Repr

/-- Counts of slots in each state (R45, R187). -/
structure SlotCounts where
  erased : Nat
  live : Nat
  retired : Nat
  damaged : Nat
deriving DecidableEq, Repr

/-- A notice place of a DESK STATUS reply (section 11.9). -/
structure DeskNoticePlace where
  lane : Nat
  tag : BitVec 8
  basket : Nat
  line : Nat
  seconds : Nat
deriving DecidableEq, Repr

/-- A hold place of an ACCOUNT READ reply (section 11.9). -/
structure HoldPlace where
  basket : Nat
  lane : Nat
  points : Nat
  seconds : Nat
deriving DecidableEq, Repr

/-- The payload of DESK NOTICE (section 11.7). -/
structure DeskNotice where
  desk : Nat
  tag : BitVec 8
  code : Nat
  line : Nat
  basket : Nat
  seq : Nat
  item : Nat
  quantity : Nat
  shelfPrice : Nat
  price : Nat
  reason : Reason
  count : Nat
  reduction : Nat
deriving DecidableEq, Repr

/-- The payload of OVERRIDE OUTCOME (section 11.10). -/
structure OutcomeNotice where
  basket : Nat
  line : Nat
  outcome : OverrideOutcome
  seq : Nat
  cause : Option Cause
  desk : Option Nat
  operator : Nat
  authorised : Nat
  count : Nat
deriving DecidableEq, Repr

/-- The payload of an ENGINE STATUS reply (R188). -/
structure EngineReport where
  mode : Mode
  calendar : CalendarState
  controller : ControllerState
  identity : Option Nat
  cause : ResetCause
  openLanes : Nat
  baskets : Nat
  parked : Nat
  expired : Nat
  queued : Nat
  running : Nat
  overrides : Nat
  notices : Nat
  accounts : Nat
  holds : Nat
  journal : Nat
  waiting : Nat
  requests : Nat
  transmit : Nat
  frameErrors : Nat
  refusalsLost : Nat
deriving DecidableEq, Repr

/-- The payload of a STORE STATUS reply (R45). -/
structure StoreReport where
  controller : ControllerState
  inProgress : Option Nat
  /-- Waiting requests of sectors 0 to 7; the erase set is the sectors with one or more. -/
  waiting : List Nat
  condemned : List Bool
  withdrawing : Option Nat
  programming : Option Nat
  counts : SlotCounts
  active : Nat
deriving DecidableEq, Repr

/-- The payload of an OK reply to SETTLE (R164). -/
structure SettleReport where
  basket : Nat
  planSeq : Nat
  payable : Nat
  redeemed : Nat
  redemptionValue : Nat
  amountDue : Nat
  points : Nat
  /-- The balance after the commit, absent with no account. -/
  balance : Option Nat
  records : Nat
deriving DecidableEq, Repr

/-- The payload of an OK reply to ACCOUNT READ (R149). -/
structure AccountReport where
  account : Account
  heldTotal : Nat
  available : Nat
  idlePosition : Option Nat
  entries : Nat
  idleEntries : Nat
  holds : List HoldPlace
deriving DecidableEq, Repr

/-- The payloads of replies and notices (sections 11.5 to 11.10). -/
inductive Payload
  | none
  /-- A single one-byte number. -/
  | byte (n : Nat)
  /-- A single two-byte number. -/
  | half (n : Nat)
  /-- A single four-byte number. -/
  | word (n : Nat)
  | lineAdded (line group : Nat)
  | sideNote (withdrawn : Bool)
  | planSummary (plan : Plan)
  | planLines (seq : Nat) (current : Bool) (count : Nat) (entries : List LineEntry) (heldOffers : List Nat)
  | recalled (basket : Nat) (generation : BitVec 16)
  | overrideKeyed (outcome : OverrideOutcome) (seq reduction : Nat)
  | redeemed (points value lifetime available : Nat)
  | settled (report : SettleReport)
  | settleExceeds (payable value : Nat)
  | decided (basket line seq : Nat)
  | tooLate (tag : Option (BitVec 8))
  | deskDuty (onDuty : Bool) (recalled : Nat)
  | deskStatus (onDuty : Bool) (openCount : Nat) (presentedTotal decidedTotal : BitVec 16) (places : List DeskNoticePlace)
  | routeMask (masked inProgress : Bool)
  | accountLoaded (created : Bool) (evicted : Option Nat) (available refs : Nat)
  | accountRead (report : AccountReport)
  | offerRead (state : SlotState) (withdrawing active condemned programming : Bool) (record : Option OfferRecord)
  | storeStatus (report : StoreReport)
  | rangeAdded (position held : Nat)
  | rangeRemoved (last group : Nat) (concession earn : Bool) (left : Nat)
  | flags (value : Flags)
  | maskRead (value : Flags) (fixed : Bool) (lanes active : Nat)
  | rates (rates : List Nat)
  | limits (limits : Limits)
  | stamp (stamp : Stamp)
  | calendarRead (state : CalendarState) (stamp : Stamp) (minuteOfDay : Nat)
  | minuteMark (stamp : Stamp) (before : Nat)
  | tradingStarted (identity openLanes : Nat)
  | tradingStopped (mode : Mode) (baskets parked expired : Nat)
  | restarted (cleared parked totals : Nat)
  | engineStatus (report : EngineReport)
  | journalTaken (count waiting : Nat) (record : JournalRecord)
  | journalCount (count settled cancelled free waiting threshold : Nat)
  | engineStarted (cause : ResetCause) (mode : Mode) (counts : SlotCounts)
  | deskNotice (notice : DeskNotice)
  | noticeWithdrawn (desk : Nat) (tag : BitVec 8) (line : Nat) (cause : Cause) (basket : Nat)
  | overrideOutcome (notice : OutcomeNotice)
  | planStale (basket : Nat) (generation : BitVec 16) (seq : Nat)
  | holdLapsed (basket account points : Nat)
  | parkExpired (basket : Nat) (account : Option Nat) (parkTime : Option Stamp)
  | journalWaiting (count waiting threshold : Nat)
deriving DecidableEq, Repr

/-- What a message is: a reply, a notice, or a refusal by the link of a frame with the kind byte it had. -/
inductive MessageKind
  | reply (kind : RequestKind)
  | notice (kind : NoticeKind)
  | linkRefusal (code : Byte)
deriving DecidableEq, Repr

/-- A message of the transmit queue (R173, R178, R180). -/
structure Message where
  kind : MessageKind
  lane : Byte
  tag : Byte
  status : Status
  payload : Payload
deriving DecidableEq, Repr

/-- A message held for want of a place on the transmit queue, and the block that waits for it (R179). -/
structure HeldMessage where
  owner : Block
  message : Message
deriving DecidableEq, Repr

structure LinkController where
  mode : Mode
  /-- The bytes of the frame being collected, from its sync byte on; none while hunting (R174). -/
  receiver : List Byte
  requests : List Instr
  transmit : List Message
  held : List HeldMessage
  /-- The events that stay due with a waiting block, in the order they fell due (R179). -/
  due : List Instr
  frameErrors : Nat
  refusalsLost : Nat
  resetCause : ResetCause
  straps : Straps
  /-- The last frame sent on TXD, the model's own record of its output (log 19). -/
  lastFrame : List Byte
deriving DecidableEq, Repr

/-- The whole part, and the model's queue of waiting commands. -/
structure State where
  link : LinkController
  basketTable : BasketTable
  evaluator : Evaluator
  store : OfferStore
  calendar : Calendar
  tables : Tables
  overrides : List OverrideRecord
  router : Router
  accounts : AccountTable
  settlement : Settlement
  pending : List Instr
deriving DecidableEq, Repr

/-! ### Values after power-on -/

/-- A lane record after power-on (section 1.1). -/
def Lane.powerOn : Lane :=
  { state := .closed, laneClass := .staffed, maskEntry := 0, floorLimit := 0, basketLimit := 0, active := none }

/-- The Basket Table after power-on (R1, R5). -/
def BasketTable.powerOn : BasketTable :=
  { lanes := Vector.replicate 16 Lane.powerOn, baskets := [], nextNumber := 1, parkList := [] }

/-- The Concession Evaluator after power-on (R77). -/
def Evaluator.powerOn : Evaluator := { queue := [], units := Vector.replicate 4 none }

/-- The Store Calendar after power-on (R60). -/
def Calendar.powerOn : Calendar :=
  { state := .unset
    now := { year := 2000, month := 1, day := 1, weekday := 6, hour := 0, minute := 0, second := 0 }
    phase := 0 }

/-- The default engine limits (R46). -/
def Limits.powerOn : Limits :=
  { holdLifetime := 600, noticeLimit := 90, presentations := 3, parkLifetime := 1800, gatherWindow := 40
    threshold := 96, pointValue := 100 }

/-- The Reference Tables after power-on (R46). -/
def Tables.powerOn : Tables :=
  { ranges := [], masks := Vector.replicate 15 0xFFFF#16, rates := #v[1, 1, 2, 3, 0], limits := Limits.powerOn
    identity := none }

/-- The route of a lane after power-on (section 7.1): its code is the lane number. -/
def Route.powerOn (lane : Nat) : Route :=
  { desk := none, mode := .persistent, masked := true, code := lane, presented := none, tag := 0 }

/-- A desk record after power-on (section 7.1). -/
def Desk.powerOn : Desk := { onDuty := false, openCount := 0, presentedTotal := 0, decidedTotal := 0 }

/-- The Authorisation Router after power-on (R122). -/
def Router.powerOn : Router :=
  { routes := ⟨⟨(List.range 16).map Route.powerOn⟩, by simp⟩, desks := Vector.replicate 4 Desk.powerOn }

/-- The Account Table after power-on (R142). -/
def AccountTable.powerOn : AccountTable := { entries := [], idle := [] }

/-- The journal after power-on (R160). -/
def Settlement.powerOn : Settlement := { journal := [], waiting := 0 }

/-- The Offer Store's controller after power-on over an array as classified (R23). -/
def OfferStore.powerOn (slots : OfferArray) : OfferStore :=
  { slots := slots, withdrawing := none, condemned := Vector.replicate 8 false, controller := .ready
    waiting := Vector.replicate 8 [], inProgress := none, gatherTimer := none, program := none, suspend := none }

/-- The part right after its first power-on: every slot ERASED (log 6), both straps low (log 7), and ENGINE
STARTED on the transmit queue (R187). -/
def State.reset : State :=
  { link :=
      { mode := .maintenance, receiver := [], requests := []
        transmit := [{ kind := .notice .engineStarted, lane := 0xFF#8, tag := 0, status := .ok,
                       payload := .engineStarted .power .maintenance
                         { erased := 512, live := 0, retired := 0, damaged := 0 } }]
        held := [], due := [], frameErrors := 0, refusalsLost := 0, resetCause := .power
        straps := { baud1 := false, baud0 := false }, lastFrame := [] }
    basketTable := BasketTable.powerOn
    evaluator := Evaluator.powerOn
    store := OfferStore.powerOn []
    calendar := Calendar.powerOn
    tables := Tables.powerOn
    overrides := []
    router := Router.powerOn
    accounts := AccountTable.powerOn
    settlement := Settlement.powerOn
    pending := [] }

end Sys2Proof.Machine
end

