-- ==== Sys2Proof/Machine/Ops.lean ====
section
/-! DEFINITION. The named operations over the state: messages and their places, lanes,
baskets and the change of R15, the offer array, the journal and the end of QUIESCING, the request queue, timers and the
events that stay due. -/

namespace Sys2Proof.Machine

/-! ### One setter for each block -/

def State.withLink (s : State) (x : LinkController) : State := { s with link := x }
def State.withBasketTable (s : State) (x : BasketTable) : State := { s with basketTable := x }
def State.withEvaluator (s : State) (x : Evaluator) : State := { s with evaluator := x }
def State.withStore (s : State) (x : OfferStore) : State := { s with store := x }
def State.withCalendar (s : State) (x : Calendar) : State := { s with calendar := x }
def State.withTables (s : State) (x : Tables) : State := { s with tables := x }
def State.withOverrides (s : State) (x : List OverrideRecord) : State := { s with overrides := x }
def State.withRouter (s : State) (x : Router) : State := { s with router := x }
def State.withAccounts (s : State) (x : AccountTable) : State := { s with accounts := x }
def State.withSettlement (s : State) (x : Settlement) : State := { s with settlement := x }
def State.withPending (s : State) (x : List Instr) : State := { s with pending := x }

/-- The engine mode set (section 10.6). -/
def State.withMode (s : State) (m : Mode) : State := s.withLink { s.link with mode := m }
/-- The list of non-free contexts replaced. -/
def State.withBaskets (s : State) (bs : List Basket) : State :=
  s.withBasketTable { s.basketTable with baskets := bs }

/-! ### Effects and messages -/

/-- What an event does: the state it leaves and the messages it places, in the order of its rule (R179). -/
structure Effect where
  state : State
  sent : List Message
deriving DecidableEq, Repr

/-- The lane byte of a message: the lane, or 0xFF for none (R173). -/
def laneByte : Option Nat → Byte
  | some n => BitVec.ofNat 8 n
  | none => 0xFF#8

/-- The lane a header names, when it names one of 0 to 15 (R173). -/
def laneOf (h : Header) : Option Nat := if h.lane.toNat < 16 then some h.lane.toNat else none

/-- A reply: the request's kind, lane byte and tag (R178). -/
def replyTo (k : RequestKind) (h : Header) (status : Status) (payload : Payload) : Message :=
  { kind := .reply k, lane := h.lane, tag := h.tag, status := status, payload := payload }

/-- A notice: tag 0 and status OK (R180). -/
def noticeTo (k : NoticeKind) (lane : Option Nat) (payload : Payload) : Message :=
  { kind := .notice k, lane := laneByte lane, tag := 0, status := .ok, payload := payload }

/-- An event that leaves `s` and answers its request. -/
def answer (k : RequestKind) (h : Header) (status : Status) (payload : Payload) (s : State) : Effect :=
  { state := s, sent := [replyTo k h status payload] }

/-- A refusal: the state as it was, the status and no payload. -/
def refuse (k : RequestKind) (h : Header) (status : Status) (s : State) : Effect := answer k h status .none s

/-- An event that changes nothing and says nothing. -/
def nothing (s : State) : Effect := { state := s, sent := [] }

/-- One part of an event after another: the messages follow in order. -/
def Effect.andThen (e : Effect) (f : State → Effect) : Effect :=
  { state := (f e.state).state, sent := e.sent ++ (f e.state).sent }

/-- Messages that come before those of an effect. -/
def Effect.after (e : Effect) (ms : List Message) : Effect := { e with sent := ms ++ e.sent }

/-! ### Lanes and baskets -/

/-- The basket in a non-free context with this number (R4). -/
def findBasket (n : Nat) (s : State) : Option Basket := s.basketTable.baskets.find? fun b => decide (b.number = n)

/-- The list of baskets with `f` applied to those that bear the number. -/
def mapBasket (n : Nat) (f : Basket → Basket) (s : State) : State :=
  s.withBaskets (s.basketTable.baskets.map fun b => if b.number = n then f b else b)

/-- A lane's record changed. -/
def mapLane (l : Nat) (f : Lane → Lane) (s : State) : State :=
  s.withBasketTable { s.basketTable with
    lanes := match s.basketTable.lanes[l]? with
      | some r => s.basketTable.lanes.setIfInBounds l (f r)
      | none => s.basketTable.lanes }

/-- The active basket of a lane. -/
def activeBasket (l : Nat) (s : State) : Option Basket :=
  match s.basketTable.lanes[l]? with
  | some r => r.active.bind fun n => findBasket n s
  | none => none

/-- The lanes in ascending order. -/
def allLanes : List Nat := List.range 16

/-- What a change counted by R14 does to a basket, by its state (R15). -/
def Basket.raised (b : Basket) : Basket :=
  if b.state = .totalled then { b with generation := b.generation + 1, state := .opened, current := false }
  else { b with generation := b.generation + 1 }

/-- PLAN STALE for a basket after the change (R15). -/
def planStaleNotice (b : Basket) : Message :=
  noticeTo .planStale b.lane (.planStale b.number b.generation b.planSeq)

/-- A change that the basket's own request makes: no notice (R15). -/
def ownChange (n : Nat) (s : State) : State := mapBasket n Basket.raised s

/-- The PLAN STALE notices of a claim, in ascending lane order (R15, R53, R147, log 8). -/
def staleNotices (ns : List Nat) (s : State) : List Message :=
  allLanes.flatMap fun l =>
    (s.basketTable.baskets.filter fun b => ns.contains b.number && decide (b.state = .totalled) && decide (b.lane = some l)).map
      fun b => planStaleNotice b.raised

/-- A stale claim naming baskets, applied to each non-free one once (R14, R15). -/
def staleClaim (ns : List Nat) (s : State) : Effect :=
  { state := s.withBaskets (s.basketTable.baskets.map fun b => if ns.contains b.number then b.raised else b)
    sent := staleNotices ns s }

/-- The mode becomes MAINTENANCE when the last non-free basket is freed in QUIESCING (R6, R184). -/
def endQuiescing (s : State) : State :=
  if s.link.mode = .quiescing ∧ s.basketTable.baskets = [] then s.withMode .maintenance else s

/-- A context becomes FREE: its basket leaves its lane and the park list, and its lists and plan go with it
(R18, R21, R76, R164). -/
def freeBasket (n : Nat) (s : State) : State :=
  endQuiescing (s.withBasketTable { s.basketTable with
    baskets := s.basketTable.baskets.filter fun b => decide (b.number ≠ n)
    lanes := s.basketTable.lanes.map fun r => if r.active = some n then { r with active := none } else r
    parkList := s.basketTable.parkList.filter fun m => decide (m ≠ n) })

/-- The extended price of a line. -/
def Line.extended (l : Line) : Nat := l.quantity * l.price

/-- The sum of extended prices over a line list (R9). -/
def linesTotal (ls : List Line) : Nat := (ls.map Line.extended).sum

/-! ### The offer array -/

/-- The content of a slot; none is ERASED. -/
def OfferArray.read (a : OfferArray) (k : Nat) : Option Slot :=
  (a.find? fun p => decide (p.1 = k)).map Prod.snd

/-- The array with a content at slot `k`, in slot order. -/
def OfferArray.put (k : Nat) (c : Slot) : OfferArray → OfferArray
  | [] => [(k, c)]
  | (j, d) :: rest =>
    if k < j then (k, c) :: (j, d) :: rest
    else if k = j then (k, c) :: rest
    else (j, d) :: OfferArray.put k c rest

/-- Every slot of a sector ERASED: nothing of it is listed (R37). -/
def OfferArray.eraseSector (k : Nat) (a : OfferArray) : OfferArray := a.filter fun p => decide (p.1 / 64 ≠ k)

/-- Every slot of a sector DAMAGED (R38, R42). -/
def OfferArray.damageSector (k : Nat) (a : OfferArray) : OfferArray :=
  (List.range 64).foldl (fun b i => OfferArray.put (64 * k + i) .damaged b) a

/-- Every listed content changed by `f`. -/
def OfferArray.mapSlots (f : Slot → Slot) (a : OfferArray) : OfferArray := a.map fun p => (p.1, f p.2)

/-- The canonical form: slots strictly rising, each of 0 to 511 (R22). -/
def OfferArray.wf (a : OfferArray) : Bool :=
  decide (a.Pairwise fun p q => p.1 < q.1) && a.all fun p => decide (p.1 < 512)

/-- The state of a content (section 2.1). -/
def slotState : Option Slot → SlotState
  | none => .erased
  | some (.live _ _) => .live
  | some (.retired _) => .retired
  | some .damaged => .damaged

/-- How many slots are in each state; together 512 (R45). -/
def OfferArray.counts (a : OfferArray) : SlotCounts :=
  { erased := Config.slots - a.length
    live := (a.filter fun p => decide (slotState (some p.2) = .live)).length
    retired := (a.filter fun p => decide (slotState (some p.2) = .retired)).length
    damaged := (a.filter fun p => decide (slotState (some p.2) = .damaged)).length }

/-! ### The journal (R161, R162) -/

/-- A record joins the tail of the journal. -/
def appendRecord (r : JournalRecord) (s : State) : State :=
  s.withSettlement { s.settlement with journal := s.settlement.journal ++ [r] }

/-- JOURNAL WAITING, when the append has brought the count up to the threshold (R162). -/
def journalWaitingNotice (s : State) : List Message :=
  if s.settlement.journal.length = s.tables.limits.threshold then
    [noticeTo .journalWaiting none
      (.journalWaiting s.settlement.journal.length s.settlement.waiting s.tables.limits.threshold)]
  else []

/-- The redemption value of points at the point value in force (00, Points; R165). -/
def redemptionValue (points : Nat) (s : State) : Nat := points * s.tables.limits.pointValue / 100

/-- Whole seconds left on a timer, rounded down (R141, R149). -/
def wholeSeconds (ms : Nat) : Nat := ms / 1000

/-! ### The request queue (R176, R177) -/

/-- The header of a request; an event that is no request has none. -/
def headerOf (c : Instr) : Option Header := (encodeRequest c).map fun e => e.2.1

/-- The block that takes an event (the owners of section 10.4; a timer's or operation's own block).  Resets
and the link's own work on frames and messages are taken at once and have no owner here (R179). -/
def ownerOf : Instr → Option Block
  | .powerOn _ | .pinReset _ | .frameReceived _ | .messageSent | .heldMessageJoin => none
  | .laneOpen _ | .laneClose _ | .laneProfile _ _ _ _ _ | .basketOpen _ => some .basketTable
  | .lineAdd _ _ _ _ _ _ _ _ | .lineQuantity _ _ _ _ | .lineVoid _ _ _ => some .basketTable
  | .couponPresent _ _ _ | .couponWithdraw _ _ _ => some .basketTable
  | .accountAttach _ _ _ | .accountDetach _ _ => some .basketTable
  | .total _ _ | .planLines _ _ _ | .park _ _ | .basketRecall _ _ | .cancel _ _ => some .basketTable
  | .overrideKey _ _ _ _ _ | .overrideWithdraw _ _ _ => some .overrides
  | .redeem _ _ _ | .redeemRelease _ _ => some .accounts
  | .settle _ _ _ => some .settlement
  | .authorise _ _ _ _ | .decline _ _ _ _ | .deskDuty _ _ _ | .deskRecall _ _ | .deskStatus _ _ => some .router
  | .routeSet _ _ _ _ | .routeMask _ _ => some .router
  | .accountLoad _ _ _ _ _ | .accountEvict _ _ | .accountRead _ _ => some .accounts
  | .offerWrite _ _ _ | .offerRetire _ _ | .offerRead _ _ | .sectorErase _ _ => some .store
  | .eraseSuspend _ | .eraseResume _ | .storeStatus _ | .storeClearFault _ => some .store
  | .groupRangeAdd _ _ _ _ _ _ | .groupRangeRemove _ _ | .groupTableClear _ => some .tables
  | .maskWrite _ _ _ _ | .maskRead _ _ | .tierSet _ _ _ => some .tables
  | .limitsSet _ _ _ _ _ _ _ _ | .storeIdentity _ _ => some .tables
  | .calendarSet _ _ _ _ _ _ _ | .calendarRead _ | .minuteMark _ => some .calendar
  | .tradingStart _ | .tradingStop _ | .restart _ | .engineStatus _ _ => some .link
  | .journalTake _ | .journalCount _ => some .settlement
  | .parkTimerExpiry _ => some .basketTable
  | .holdTimerExpiry _ => some .accounts
  | .noticeTimerExpiry _ => some .router
  | .gatherTimerExpiry => some .store
  | .secondEvent => some .calendar
  | .evaluationCompletion _ => some .evaluator
  | .offerProgramCompletion _ | .retireProgramCompletion _ => some .store
  | .eraseCompletion _ | .suspendCompletion => some .store

/-- A request of a header's delivery stream: the same lane, or both of the unlaned stream (R177). -/
def sameStream (h : Header) (c : Instr) : Bool :=
  match headerOf c with
  | some g => decide (laneOf h = laneOf g)
  | none => false

/-- A request overtakes its stream when another request of the stream stands before it on the request queue
(R177). -/
def overtakes (c : Instr) (s : State) : Bool :=
  match headerOf c with
  | none => false
  | some h =>
    match s.link.requests.find? (sameStream h) with
    | none => false
    | some r => decide (r ≠ c)

/-- A request that is taken leaves the request queue (R177); an event is on none. -/
def leaveQueue (c : Instr) (s : State) : State := s.withLink { s.link with requests := s.link.requests.erase c }

/-- A count of the link up by 1, staying at 65,535 (R175, R176). -/
def countUp (n : Nat) : Nat := min (n + 1) Config.countCeiling

/-- A link refusal joins the transmit queue, or is lost and counted when the queue holds 64 (R176, log 5). -/
def refuseFrame (code : Byte) (h : Header) (status : Status) (s : State) : State :=
  if s.link.transmit.length < Config.transmitQueue then
    s.withLink { s.link with
      transmit := s.link.transmit ++
        [{ kind := .linkRefusal code, lane := h.lane, tag := h.tag, status := status, payload := .none }] }
  else s.withLink { s.link with refusalsLost := countUp s.link.refusalsLost }

/-- A request that is not taken now waits on the request queue: where it stands, or at the tail; one that comes to a
queue of 32 is refused as its frame would be (R176, R177, log 3). -/
def waitOnQueue (c : Instr) (s : State) : State :=
  match encodeRequest c with
  | none => s
  | some (k, h, _) =>
    if c ∈ s.link.requests then s
    else if s.link.requests.length < Config.requestQueue then
      s.withLink { s.link with requests := s.link.requests ++ [c] }
    else refuseFrame k.code h .queueFull s

/-! ### Timers and operations in course -/

/-- The time left on the running timer that an expiry belongs to. -/
def timerLeft (c : Instr) (s : State) : Option Nat :=
  match c with
  | .parkTimerExpiry n => (findBasket n s).bind Basket.parkTimer
  | .holdTimerExpiry n =>
    ((s.accounts.entries.flatMap Account.holds).find? fun x => decide (x.basket = n)).map Hold.timer
  | .noticeTimerExpiry l => ((s.router.routes[l]?).bind Route.presented).map Presentation.timer
  | .gatherTimerExpiry => s.store.gatherTimer
  | _ => none

/-- Whether an event can come about: the timer runs, or the operation is in flight.  A request always can. -/
def inCourse (c : Instr) (s : State) : Bool :=
  match c with
  | .parkTimerExpiry _ | .holdTimerExpiry _ | .noticeTimerExpiry _ | .gatherTimerExpiry => (timerLeft c s).isSome
  | .secondEvent => decide (s.calendar.state = .running)
  | .evaluationCompletion u => ((s.evaluator.units[u]?).bind fun r => r).isSome
  | .offerProgramCompletion _ => (s.store.program.map fun p => decide (p.job ≠ .retire)) = some true
  | .retireProgramCompletion _ => (s.store.program.map fun p => decide (p.job = .retire)) = some true
  | .eraseCompletion _ =>
    s.store.inProgress.isSome && decide (s.store.controller = .erasing ∨ s.store.controller = .suspending)
  | .suspendCompletion => s.store.suspend.isSome && decide (s.store.controller = .suspending)
  | _ => true

/-- The time on the timer of an expiry has run out, or the crystal has completed a second (R61, log 20). -/
def runOut (c : Instr) (s : State) : State :=
  match c with
  | .parkTimerExpiry n => mapBasket n (fun b => { b with parkTimer := b.parkTimer.map fun _ => 0 }) s
  | .holdTimerExpiry n =>
    s.withAccounts { s.accounts with
      entries := s.accounts.entries.map fun e =>
        { e with holds := e.holds.map fun x => if x.basket = n then { x with timer := 0 } else x } }
  | .noticeTimerExpiry l =>
    match s.router.routes[l]? with
    | some r =>
      s.withRouter { s.router with
        routes := s.router.routes.setIfInBounds l
          { r with presented := r.presented.map fun p => { p with timer := 0 } } }
    | none => s
  | .gatherTimerExpiry => s.withStore { s.store with gatherTimer := s.store.gatherTimer.map fun _ => 0 }
  | .secondEvent => s.withCalendar { s.calendar with phase := 1000 * (s.calendar.phase / 1000 + 1) }
  | _ => s

/-! ### Events that stay due (R179) -/

/-- The same expiry, or the completion of the same operation whatever its outcome. -/
def sameEvent (c d : Instr) : Bool :=
  match c, d with
  | .offerProgramCompletion _, .offerProgramCompletion _ => true
  | .retireProgramCompletion _, .retireProgramCompletion _ => true
  | .eraseCompletion _, .eraseCompletion _ => true
  | _, _ => decide (c = d)

/-- An event falls due when it can come about and is not due already; second events alone may be due more than
once. -/
def fallsDue (c : Instr) (s : State) : Bool :=
  inCourse c s && (decide (c = .secondEvent) || !s.link.due.any (sameEvent c))

/-- The events of a list that still stay due after another event: an expiry whose timer that event stopped or started
anew does not happen, nor does the completion of an operation it ended (R136, R156, R179), nor a second event when it
restarted the second phase (R65, R66). -/
def stillDue (c : Instr) (s : State) : Bool :=
  match c with
  | .parkTimerExpiry _ | .holdTimerExpiry _ | .noticeTimerExpiry _ | .gatherTimerExpiry =>
    decide (timerLeft c s = some 0)
  | .secondEvent => decide (s.calendar.state = .running) && decide (1000 ≤ s.calendar.phase)
  | _ => inCourse c s

/-- The state with these events due. -/
def withDue (cs : List Instr) (s : State) : State := s.withLink { s.link with due := cs }

/-- The event stays due, behind those that fell due before it; a request keeps its place on the request queue
meanwhile (R177, R179). -/
def stayDue (c : Instr) (s : State) : State :=
  match headerOf c with
  | none => withDue (s.link.due ++ [c]) (runOut c s)
  | some _ =>
    let t := waitOnQueue c s
    if c ∈ t.link.requests then withDue (t.link.due ++ [c]) t else t

/-- Whether what block `b` owns differs between two states; the Link Controller's is the engine mode.  A keying count
goes with its basket (log 21), so setting or ending one alone is no change of the Override Table's (log 29). -/
def ownedDiffers (b : Block) (s t : State) : Bool :=
  match b with
  | .link => decide (s.link.mode ≠ t.link.mode)
  | .basketTable => decide (s.basketTable ≠ t.basketTable)
  | .evaluator => decide (s.evaluator ≠ t.evaluator)
  | .store => decide (s.store ≠ t.store)
  | .calendar => decide (s.calendar ≠ t.calendar)
  | .tables => decide (s.tables ≠ t.tables)
  | .overrides => decide (s.overrides ≠ t.overrides)
  | .router => decide (s.router ≠ t.router)
  | .accounts => decide (s.accounts ≠ t.accounts)
  | .settlement => decide (s.settlement ≠ t.settlement)

/-- The ten blocks. -/
def Block.all : List Block :=
  [.link, .basketTable, .evaluator, .store, .calendar, .tables, .overrides, .router, .accounts, .settlement]

/-! ### Placing messages (R179) -/

/-- Places free for an event's messages: none while earlier messages are held (R179, log 5). -/
def room (s : State) : Nat :=
  if s.link.held = [] then Config.transmitQueue - s.link.transmit.length else 0

/-- The messages of one event join the transmit queue in order; those that find no place are held by the
block that took the event (R179). -/
def place (b : Block) (ms : List Message) (s : State) : State :=
  s.withLink { s.link with
    transmit := s.link.transmit ++ ms.take (room s)
    held := s.link.held ++ (ms.drop (room s)).map fun m => { owner := b, message := m } }

end Sys2Proof.Machine
end

