-- ==== Sys2Proof/Machine/Operands.lean ====
section
/-! DEFINITION. Operands of the requests: the coded bytes of section 11.2, the ranges of 00_scope.md, the
check of an offer record (R25) and the basket checks of R4. -/

namespace Sys2Proof.Machine

/-! ### Coded bytes (section 11.2) -/

def laneClassOf : Nat → Option LaneClass
  | 0 => some .staffed
  | 1 => some .selfService
  | 2 => some .tradeCounter
  | 3 => some .yard
  | _ => none

def tierOf : Nat → Option Tier
  | 0 => some .retail
  | 1 => some .tradeA
  | 2 => some .tradeB
  | 3 => some .tradeC
  | 4 => some .staff
  | _ => none

/-- The place of a tier in the order of R56. -/
def tierIndex : Tier → Nat
  | .retail => 0
  | .tradeA => 1
  | .tradeB => 2
  | .tradeC => 3
  | .staff => 4

def reasonOf : Nat → Option Reason
  | 1 => some .priceMatch
  | 2 => some .damaged
  | 3 => some .quote
  | 4 => some .goodwill
  | _ => none

def routeModeOf : Nat → Option RouteMode
  | 0 => some .single
  | 1 => some .persistent
  | _ => none

/-- A two-valued code: masked, duty, clear flag. -/
def switchOf : Nat → Option Bool
  | 0 => some false
  | 1 => some true
  | _ => none

/-- A route's desk: 0 to 3, or 0xFF for ANY. -/
def routeDeskOf (n : Nat) : Option (Option Nat) :=
  if n < 4 then some (some n) else if n = 255 then some none else none

def offerKindOf : Nat → Option OfferKind
  | 1 => some .unitCut
  | 2 => some .quantityBreak
  | 3 => some .multiBuy
  | 4 => some .basketCoupon
  | 5 => some .pointsBoost
  | _ => none

/-! ### Ranges -/

/-- `lo ≤ n ≤ hi`. -/
def inRange (lo hi n : Nat) : Bool := decide (lo ≤ n) && decide (n ≤ hi)

/-! ### Dates (R60) -/

/-- The length of a month; every year divisible by 4 is a leap year in the calendar's range (R60). -/
def daysInMonth (year month : Nat) : Nat :=
  if month = 2 then (if year % 4 = 0 then 29 else 28)
  else if month = 4 ∨ month = 6 ∨ month = 9 ∨ month = 11 then 30
  else 31

/-- A real calendar day between 2000-01-01 and 2099-12-31 (R25, R65). -/
def realDay (year month day : Nat) : Bool :=
  inRange 2000 2099 year && inRange 1 12 month && inRange 1 (daysInMonth year month) day

/-- One date falls on or before another: year, then month, then day (R69). -/
def dateLE (a b : Date) : Bool :=
  decide (a.year < b.year) ||
    (decide (a.year = b.year) &&
      (decide (a.month < b.month) || (decide (a.month = b.month) && decide (a.day ≤ b.day))))

/-! ### The offer record check (R25) -/

/-- The window enables of section 11.4. -/
def startEnabled (r : OfferRecord) : Bool := r.enables.getLsbD 0
def endEnabled (r : OfferRecord) : Bool := r.enables.getLsbD 1
def weekdaysEnabled (r : OfferRecord) : Bool := r.enables.getLsbD 2
def timeEnabled (r : OfferRecord) : Bool := r.enables.getLsbD 3

/-- The weekday set without its unnamed bit 7. -/
def weekdaySet (r : OfferRecord) : Byte := r.weekdays &&& 0x7F#8

/-- Reduction form and value: AMOUNT up to `most`, PERCENT 1 to 10,000 (section 2.2). -/
def reductionOk (most : Nat) (r : OfferRecord) : Bool :=
  (decide (r.form = 0) && inRange 1 most r.value) || (decide (r.form = 1) && inRange 1 10000 r.value)

/-- The fields that are read for the record's kind are in range (R25, section 2.2). -/
def kindFieldsOk (r : OfferRecord) : Bool :=
  match offerKindOf r.kind with
  | none => false
  | some .unitCut => decide (r.stacking ≤ 1) && reductionOk Config.maxPrice r
  | some .quantityBreak => decide (r.stacking ≤ 1) && reductionOk Config.maxPrice r && inRange 2 999 r.threshold
  | some .multiBuy => decide (r.stacking = 0) && inRange 2 20 r.buy && inRange 1 (r.buy - 1) r.pay
  | some .basketCoupon =>
    reductionOk Config.maxMoney r && inRange 0 Config.maxMoney r.threshold && decide (r.couponKey ≠ 0)
  | some .pointsBoost => inRange 1 100 r.extra

/-- The enabled parts of the window are well formed (R25). -/
def windowOk (r : OfferRecord) : Bool :=
  (!startEnabled r || realDay r.startDate.year r.startDate.month r.startDate.day)
  && (!endEnabled r || realDay r.endDate.year r.endDate.month r.endDate.day)
  && (!(startEnabled r && endEnabled r) || dateLE r.startDate r.endDate)
  && (!weekdaysEnabled r || decide (weekdaySet r ≠ 0))
  && (!timeEnabled r || (decide (r.fromMinute ≤ 1439) && decide (r.toMinute ≤ 1439) && decide (r.fromMinute ≠ r.toMinute)))

/-- The record passes R25. -/
def recordOk (r : OfferRecord) : Bool :=
  inRange 1 65535 r.number && decide (r.priority ≤ 15) && kindFieldsOk r && windowOk r

/-! ### Basket checks (R4) -/

/-- Steps 1 to 3 of R4, for every basket request other than RECALL and CANCEL: the mode, the header lane, and a
basket that is the header lane's active basket or PARKED. -/
def basketCheck (h : Header) (n : Nat) (s : State) : Except Status (Nat × Basket) :=
  if s.link.mode = .maintenance then .error .wrongMode
  else
    match laneOf h with
    | none => .error .badField
    | some l =>
      match findBasket n s with
      | none => .error .noBasket
      | some b => if b.state = .parked ∨ b.lane = some l then .ok (l, b) else .error .noBasket

/-- R4 whole, for a request that a PARKED basket refuses with BASKET_STATE: then `f` of the lane and basket. -/
def onServed (k : RequestKind) (h : Header) (n : Nat) (f : Nat → Basket → State → Effect) (s : State) : Effect :=
  match basketCheck h n s with
  | .error e => refuse k h e s
  | .ok (l, b) => if b.state = .parked then refuse k h .basketState s else f l b s

/-- The mode and header checks of a request that names a lane: WRONG_MODE in MAINTENANCE, BAD_FIELD for no lane
(R2, R3, R20, R129). -/
def onLane (k : RequestKind) (h : Header) (f : Nat → State → Effect) (s : State) : Effect :=
  if s.link.mode = .maintenance then refuse k h .wrongMode s
  else
    match laneOf h with
    | none => refuse k h .badField s
    | some l => f l s

/-- A request taken in MAINTENANCE only (R48, R49, R56). -/
def inMaintenance (k : RequestKind) (h : Header) (f : State → Effect) (s : State) : Effect :=
  if s.link.mode = .maintenance then f s else refuse k h .wrongMode s

end Sys2Proof.Machine
end

