-- ==== Sys2Proof/Machine/Flags.lean ====
section
/-! DEFINITION. The marks and flag sets: entitlement masks and the entitlement test (R51, R55), the usable
test (section 2.3), validity windows and the active mark (R28, R64, R69 to R72). -/

namespace Sys2Proof.Machine

/-! ### Entitlements -/

/-- The value of a mask entry: 0 and 16 to 31 are fixed, 1 to 15 are held (R51). -/
def maskValue (t : Tables) (e : Nat) : Flags :=
  if 16 ≤ e then ~~~(1#16 <<< (e - 16))
  else if e = 0 then 0xFFFF#16
  else (t.masks[e - 1]?).getD 0xFFFF#16

/-- A fixed mask entry (R51, R54). -/
def maskFixed (e : Nat) : Bool := decide (e = 0) || decide (16 ≤ e)

/-- Every flag of the first set is in the second (R55). -/
def entitled (required held : Flags) : Bool := decide (required &&& held = required)

/-- The effective entitlements: the customer's set with flag 0, limited by the mask (R55). -/
def effectiveFlags (account : Option SnapAccount) (mask : Flags) : Flags :=
  match account with
  | some a => (a.flags ||| 1#16) &&& mask
  | none => 1#16 &&& mask

/-! ### Sectors and slots -/

/-- The sector of a slot (R22). -/
def sectorOf (slot : Nat) : Nat := slot / Config.sectorSlots

/-- The condemned mark of a sector. -/
def isCondemned (st : OfferStore) (sector : Nat) : Bool := (st.condemned[sector]?).getD false

/-- A slot is usable: LIVE, not withdrawing, its sector not condemned (section 2.3). -/
def usable (st : OfferStore) (slot : Nat) : Bool :=
  decide (slotState (OfferArray.read st.slots slot) = .live) && decide (st.withdrawing ≠ some slot)
    && !isCondemned st (sectorOf slot)

/-! ### Validity windows -/

/-- Minute-of-day (R60). -/
def minuteOfDay (t : Stamp) : Nat := t.hour * 60 + t.minute

/-- The day of a stamp. -/
def dayOf (t : Stamp) : Date := { year := t.year, month := t.month, day := t.day }

/-- The time-of-day part: from `f` up to but not at `t`, through midnight when `f` is greater (R70). -/
def timeHolds (f t m : Nat) : Bool :=
  if f < t then decide (f ≤ m) && decide (m < t) else decide (f ≤ m) || decide (m < t)

/-- A window matches the calendar: while RUNNING every enabled part holds; while UNSET no part is enabled
(R69, R72). -/
def windowMatches (c : Calendar) (r : OfferRecord) : Bool :=
  match c.state with
  | .unset => !startEnabled r && !endEnabled r && !weekdaysEnabled r && !timeEnabled r
  | .running =>
    (!startEnabled r || dateLE r.startDate (dayOf c.now))
    && (!endEnabled r || dateLE (dayOf c.now) r.endDate)
    && (!weekdaysEnabled r || (weekdaySet r).getLsbD c.now.weekday)
    && (!timeEnabled r || timeHolds r.fromMinute r.toMinute (minuteOfDay c.now))

/-- The active mark of a content computed anew (R28, R64). -/
def remark (c : Calendar) : Slot → Slot
  | .live r _ => .live r (windowMatches c r)
  | .retired r => .retired r
  | .damaged => .damaged

/-- The re-check: the active mark of every LIVE slot is computed against the calendar (R64). -/
def recheck (s : State) : State :=
  s.withStore { s.store with slots := OfferArray.mapSlots (remark s.calendar) s.store.slots }

/-- The LIVE slots' offer numbers (R29, R34). -/
def liveNumber : Slot → Option Nat
  | .live r _ => some r.number
  | .retired _ => none
  | .damaged => none

end Sys2Proof.Machine
end

