-- ==== Sys2Proof/Machine/Router.lean ====
section
/-! DEFINITION. The Authorisation Router: presentations, the presentation pass, decisions, recalls, routes and
desks (chapter 7), with the transitions it asks of the override records (R117 to R119). -/

namespace Sys2Proof.Machine

/-! ### Override records -/

/-- The override record of a line of a basket. -/
def recordOf (n line : Nat) (s : State) : Option OverrideRecord :=
  s.overrides.find? fun r => decide (r.basket = n) && decide (r.line = line)

/-- The records of a basket. -/
def basketRecords (n : Nat) (s : State) : List OverrideRecord := s.overrides.filter fun r => decide (r.basket = n)

def mapRecord (n line : Nat) (f : OverrideRecord → OverrideRecord) (s : State) : State :=
  s.withOverrides (s.overrides.map fun r => if r.basket = n ∧ r.line = line then f r else r)

def removeRecord (n line : Nat) (s : State) : State :=
  s.withOverrides (s.overrides.filter fun r => !(decide (r.basket = n) && decide (r.line = line)))

/-- Every record of a basket is removed (R121). -/
def removeRecords (n : Nat) (s : State) : State :=
  s.withOverrides (s.overrides.filter fun r => decide (r.basket ≠ n))

def isPending (r : OverrideRecord) : Bool :=
  match r.state with
  | .pending _ _ => true
  | .granted _ _ => false

/-- PENDING with its presented mark clear. -/
def isWaiting (r : OverrideRecord) : Bool :=
  match r.state with
  | .pending _ presented => !presented
  | .granted _ _ => false

def isPresented (r : OverrideRecord) : Bool :=
  match r.state with
  | .pending _ presented => presented
  | .granted _ _ => false

/-- The presentation count; 0 while GRANTED (R105). -/
def presentationCount (r : OverrideRecord) : Nat :=
  match r.state with
  | .pending count _ => count
  | .granted _ _ => 0

/-- The record with the lowest keying sequence number. -/
def lowestSeq : List OverrideRecord → Option OverrideRecord
  | [] => none
  | r :: rest =>
    match lowestSeq rest with
    | none => some r
    | some q => if q.seq < r.seq then some q else some r

/-- A record put in its place by keying sequence number. -/
def insertBySeq (r : OverrideRecord) : List OverrideRecord → List OverrideRecord
  | [] => [r]
  | q :: rest => if r.seq ≤ q.seq then r :: q :: rest else q :: insertBySeq r rest

/-- Records in ascending keying sequence number. -/
def bySeq : List OverrideRecord → List OverrideRecord
  | [] => []
  | r :: rest => insertBySeq r (bySeq rest)

/-! ### Routes and desks -/

def mapRoute (l : Nat) (f : Route → Route) (s : State) : State :=
  match s.router.routes[l]? with
  | some r => s.withRouter { s.router with routes := s.router.routes.setIfInBounds l (f r) }
  | none => s

def mapDesk (d : Nat) (f : Desk → Desk) (s : State) : State :=
  match s.router.desks[d]? with
  | some r => s.withRouter { s.router with desks := s.router.desks.setIfInBounds d (f r) }
  | none => s

/-- What a lane's route has presented. -/
def presentationOf (l : Nat) (s : State) : Option Presentation :=
  match s.router.routes[l]? with
  | some r => r.presented
  | none => none

/-- A desk that may be given a notice: on duty with fewer than 8 open (R125). -/
def deskAvailable (d : Desk) : Bool := d.onDuty && decide (d.openCount < Config.deskNotices)

/-- The available desk with the fewest open notices, the lowest-numbered among equals (R125). -/
def leastBusy : List (Nat × Desk) → Option (Nat × Desk)
  | [] => none
  | (i, d) :: rest =>
    if deskAvailable d then
      match leastBusy rest with
      | none => some (i, d)
      | some (j, e) => if e.openCount < d.openCount then some (j, e) else some (i, d)
    else leastBusy rest

/-- The desks with their numbers. -/
def numberedDesks (s : State) : List (Nat × Desk) :=
  (List.range 4).filterMap fun i => (s.router.desks[i]?).map fun d => (i, d)

/-- The target desk of a route (R125). -/
def targetDesk (route : Route) (s : State) : Option Nat :=
  match route.desk with
  | some d =>
    match s.router.desks[d]? with
    | some k => if deskAvailable k then some d else none
    | none => none
  | none => (leastBusy (numberedDesks s)).map Prod.fst

/-! ### Presentation (R124 to R127) -/

/-- What the lane's route can present now, and to which desk (R124). -/
def canPresent (l : Nat) (s : State) : Option (OverrideRecord × Nat) :=
  match s.router.routes[l]? with
  | none => none
  | some route =>
    if route.masked ∨ route.presented ≠ none then none
    else
      match activeBasket l s with
      | none => none
      | some b =>
        match lowestSeq ((basketRecords b.number s).filter isWaiting) with
        | none => none
        | some r => (targetDesk route s).map fun d => (r, d)

/-- The record as the presentation leaves it: presented, its count up by 1 and staying at 255 (R117). -/
def markPresented (r : OverrideRecord) : OverrideRecord :=
  { r with state := .pending (min (presentationCount r + 1) 255) true }

/-- The record with its presented mark clear and its count kept (R117). -/
def markTakenBack (r : OverrideRecord) : OverrideRecord :=
  { r with state := .pending (presentationCount r) false }

/-- The line a record reduces. -/
def recordLine (r : OverrideRecord) (s : State) : Option Line :=
  (findBasket r.basket s).bind fun b => b.lines.find? fun ln => decide (ln.number = r.line)

/-- The DESK NOTICE of a presentation (R126, section 11.7): `r` is the record after it, `tag` the new tag. -/
def deskNoticeMessage (l d code : Nat) (tag : BitVec 8) (r : OverrideRecord) (s : State) : Message :=
  noticeTo .deskNotice (some l) (.deskNotice
    { desk := d, tag := tag, code := code, line := r.line, basket := r.basket, seq := r.seq
      item := ((recordLine r s).map Line.item).getD 0
      quantity := ((recordLine r s).map Line.quantity).getD 0
      shelfPrice := ((recordLine r s).map Line.price).getD 0
      price := r.price, reason := r.reason, count := presentationCount r, reduction := r.reduction })

/-- A route presents a record to a desk (R126). -/
def presentOn (l : Nat) (route : Route) (r : OverrideRecord) (d : Nat) (s : State) : Effect :=
  { state :=
      mapDesk d (fun k => { k with openCount := k.openCount + 1, presentedTotal := k.presentedTotal + 1 })
        (mapRoute l (fun q => { q with
            tag := q.tag + 1
            presented := some { basket := r.basket, line := r.line, seq := r.seq, desk := d
                                timer := 1000 * s.tables.limits.noticeLimit } })
          (mapRecord r.basket r.line markPresented s))
    sent := [deskNoticeMessage l d route.code (route.tag + 1) (markPresented r) s] }

/-- The route of a lane presents when it can. -/
def presentIfAble (l : Nat) (s : State) : Effect :=
  match s.router.routes[l]?, canPresent l s with
  | some route, some (r, d) => presentOn l route r d s
  | _, _ => nothing s

/-- The routes of the lanes listed, each tested after those before it. -/
def passLanes : List Nat → State → Effect
  | [], s => nothing s
  | l :: rest, s => (presentIfAble l s).andThen (passLanes rest)

/-- The presentation pass over the sixteen routes in ascending lane order (R127). -/
def presentationPass (s : State) : Effect := passLanes allLanes s

/-! ### Ending a presentation (R130 to R132) -/

/-- The route's presented record, presented desk and timer end, and the desk's open count falls by 1; `decided`
when the desk decided it (R130). -/
def endPresentation (l : Nat) (p : Presentation) (decided : Bool) (s : State) : State :=
  mapDesk p.desk (fun k => { k with
      openCount := k.openCount - 1
      decidedTotal := if decided then k.decidedTotal + 1 else k.decidedTotal })
    (mapRoute l (fun q => { q with presented := none }) s)

/-- The tag of a lane's route. -/
def routeTag (l : Nat) (s : State) : BitVec 8 :=
  match s.router.routes[l]? with
  | some r => r.tag
  | none => 0

/-- The mode of a lane's route is SINGLE. -/
def routeSingle (l : Nat) (s : State) : Bool :=
  match s.router.routes[l]? with
  | some r => decide (r.mode = .single)
  | none => false

/-- NOTICE WITHDRAWN for a presentation that ended (R140). -/
def noticeWithdrawn (l : Nat) (p : Presentation) (cause : Cause) (s : State) : Message :=
  noticeTo .noticeWithdrawn (some l) (.noticeWithdrawn p.desk (routeTag l s) p.line cause p.basket)

/-- A lane action takes the presentation of a record of a basket's line back (R131).  The record's own
fate is the lane action's. -/
def takeBack (l n line : Nat) (s : State) : Effect :=
  match presentationOf l s with
  | some p =>
    if p.basket = n ∧ p.line = line then
      { state := endPresentation l p false s, sent := [noticeWithdrawn l p .lane s] }
    else nothing s
  | none => nothing s

/-- OVERRIDE OUTCOME for a record (R139). -/
def outcomeMessage (l : Nat) (r : OverrideRecord) (outcome : OverrideOutcome) (cause : Option Cause)
    (desk : Option Nat) (operator authorised count : Nat) : Message :=
  noticeTo .overrideOutcome (some l) (.overrideOutcome
    { basket := r.basket, line := r.line, outcome := outcome, seq := r.seq, cause := cause, desk := desk
      operator := operator, authorised := authorised, count := count })

/-- What a recall does to its record, by the route's mode (R119, R132). -/
def recallRecord (l : Nat) (p : Presentation) (r : OverrideRecord) (cause : Cause) (s : State) : Effect :=
  if routeSingle l s then
    (staleClaim [r.basket] (removeRecord r.basket r.line s)).after
      [outcomeMessage l r .declined (some cause) (some p.desk) 0 0 0]
  else if s.tables.limits.presentations ≤ presentationCount r then
    (staleClaim [r.basket] (removeRecord r.basket r.line s)).after
      [outcomeMessage l r .lapsed (some cause) (some p.desk) 0 0 (presentationCount r)]
  else nothing (mapRecord r.basket r.line markTakenBack s)

/-- A recall of the presentation of a lane's route (R132); a route with nothing presented has none. -/
def recallLane (cause : Cause) (l : Nat) (s : State) : Effect :=
  match presentationOf l s with
  | none => nothing s
  | some p =>
    match recordOf p.basket p.line s with
    | none => { state := endPresentation l p false s, sent := [noticeWithdrawn l p cause s] }
    | some r => (recallRecord l p r cause (endPresentation l p false s)).after [noticeWithdrawn l p cause s]

/-- Recalls taken in the order of the lanes listed. -/
def recallLanes (cause : Cause) : List Nat → State → Effect
  | [], s => nothing s
  | l :: rest, s => (recallLane cause l s).andThen (recallLanes cause rest)

/-- The lanes whose route has a presentation that `p` holds of, ascending. -/
def presentedLanes (p : Route → Presentation → Bool) (s : State) : List Nat :=
  allLanes.filter fun l =>
    match s.router.routes[l]? with
    | some r => r.presented.any (p r)
    | none => false

/-! ### Decisions (R129, R130) -/

/-- The record as an AUTHORISE leaves it (R118). -/
def grantByDesk (desk operator : Nat) (r : OverrideRecord) : OverrideRecord :=
  { r with state := .granted (.desk desk operator) r.reduction }

/-- A decision that matches the presentation of its lane's route (R130). -/
def decisionTaken (k : RequestKind) (h : Header) (grant : Bool) (operator l : Nat) (p : Presentation) (s : State) : Effect :=
  let s1 := endPresentation l p true s
  let reply := replyTo k h .ok (.decided p.basket p.line p.seq)
  match recordOf p.basket p.line s with
  | none => (presentationPass s1).after [reply]
  | some r =>
    if grant then
      ((staleClaim [r.basket] (mapRecord r.basket r.line (grantByDesk p.desk operator) s1)).after
        [reply, outcomeMessage l r .granted none (some p.desk) operator r.reduction 0]).andThen presentationPass
    else
      ((staleClaim [r.basket] (removeRecord r.basket r.line s1)).after
        [reply, outcomeMessage l r .declined (some .deskDeclined) (some p.desk) 0 0 0]).andThen presentationPass

/-- AUTHORISE and DECLINE: the checks of R129, then R130. -/
def decision (k : RequestKind) (h : Header) (grant : Bool) (desk : Nat) (tag : Byte) (operator : Nat) (s : State) : Effect :=
  onLane k h (fun l s =>
    if 3 < desk then refuse k h .badField s
    else
      match presentationOf l s with
      | none => answer k h .tooLate (.tooLate none) s
      | some p =>
        if routeTag l s = tag ∧ p.desk = desk then decisionTaken k h grant operator l p s
        else answer k h .tooLate (.tooLate (some (routeTag l s))) s) s

def authorise (h : Header) (desk : Nat) (tag : Byte) (operator : Nat) : State → Effect :=
  decision .authorise h true desk tag operator

def decline (h : Header) (desk : Nat) (tag : Byte) (operator : Nat) : State → Effect :=
  decision .decline h false desk tag operator

/-! ### Desks -/

/-- DESK DUTY (R135). -/
def deskDuty (h : Header) (desk duty : Nat) (s : State) : Effect :=
  match s.router.desks[desk]?, switchOf duty with
  | some k, some on =>
    if k.onDuty = on then answer .deskDuty h .ok (.deskDuty on 0) s
    else if on then
      (presentationPass (mapDesk desk (fun k => { k with onDuty := true }) s)).after
        [replyTo .deskDuty h .ok (.deskDuty true 0)]
    else
      let lanes := presentedLanes (fun _ p => decide (p.desk = desk)) s
      ((recallLanes .deskOff lanes (mapDesk desk (fun k => { k with onDuty := false }) s)).andThen presentationPass).after
        [replyTo .deskDuty h .ok (.deskDuty false lanes.length)]
  | _, _ => refuse .deskDuty h .badField s

/-- DESK RECALL (R134). -/
def deskRecall (h : Header) (code : Nat) (s : State) : Effect :=
  if 255 < code then refuse .deskRecall h .badField s
  else
    let lanes := presentedLanes (fun r _ => decide (r.code = code)) s
    ((recallLanes .recalled lanes s).andThen presentationPass).after
      [replyTo .deskRecall h .ok (.byte lanes.length)]

/-- The notices presented to a desk, in ascending lane order (R141). -/
def deskPlaces (desk : Nat) (s : State) : List DeskNoticePlace :=
  allLanes.filterMap fun l =>
    (presentationOf l s).bind fun p =>
      if p.desk = desk then
        some { lane := l, tag := routeTag l s, basket := p.basket, line := p.line, seconds := wholeSeconds p.timer }
      else none

/-- DESK STATUS (R141). -/
def deskStatus (h : Header) (desk : Nat) (s : State) : Effect :=
  match s.router.desks[desk]? with
  | some k =>
    answer .deskStatus h .ok
      (.deskStatus k.onDuty k.openCount k.presentedTotal k.decidedTotal (deskPlaces desk s)) s
  | none => refuse .deskStatus h .badField s

/-! ### Routes -/

/-- The PENDING records that a route set to SINGLE no longer keeps, in keying order (R138). -/
def displaced (l : Nat) (s : State) : List OverrideRecord :=
  match activeBasket l s with
  | some b => bySeq ((basketRecords b.number s).filter isPending)
  | none => []

/-- The removals of R138: one change to the basket, an OVERRIDE OUTCOME for each record. -/
def removeDisplaced (l : Nat) (rs : List OverrideRecord) (s : State) : Effect :=
  match rs with
  | [] => nothing s
  | r :: _ =>
    (staleClaim [r.basket] (s.withOverrides (s.overrides.filter fun q => !rs.contains q))).after
      (rs.map fun q => outcomeMessage l q .declined (some .routeClosed) none 0 0 0)

/-- ROUTE SET (R138). -/
def routeSet (h : Header) (desk mode code : Nat) (s : State) : Effect :=
  match laneOf h, routeDeskOf desk, routeModeOf mode with
  | some l, some d, some m =>
    match s.router.routes[l]? with
    | none => refuse .routeSet h .badField s
    | some r =>
      if 255 < code then refuse .routeSet h .badField s
      else if !r.masked || r.presented.isSome then refuse .routeSet h .routeBusy s
      else
        let s1 := mapRoute l (fun q => { q with desk := d, mode := m, code := code }) s
        (if m = .single then removeDisplaced l (displaced l s1) s1 else nothing s1).after
          [replyTo .routeSet h .ok .none]
  | _, _, _ => refuse .routeSet h .badField s

/-- ROUTE MASK (R137).  The reply tells of a presentation as the request finds it (log 26). -/
def routeMask (h : Header) (setting : Nat) (s : State) : Effect :=
  match laneOf h, switchOf setting with
  | some l, some on =>
    match s.router.routes[l]? with
    | none => refuse .routeMask h .badField s
    | some r =>
      let reply := replyTo .routeMask h .ok (.routeMask on r.presented.isSome)
      if r.masked = on then { state := s, sent := [reply] }
      else if on then { state := mapRoute l (fun q => { q with masked := true }) s, sent := [reply] }
      else (presentationPass (mapRoute l (fun q => { q with masked := false }) s)).after [reply]
  | _, _ => refuse .routeMask h .badField s

/-- The expiry of a route's notice timer (R133); a stopped timer does not expire. -/
def noticeTimerExpiry (l : Nat) (s : State) : Effect :=
  match presentationOf l s with
  | none => nothing s
  | some _ => (recallLane .timedOut l s).andThen presentationPass

end Sys2Proof.Machine
end

