-- ==== Sys2Proof/Machine/Accounts.lean ====
section
/-! DEFINITION. The Account Table: entries, the idle list, loading and eviction, reading, and point holds
(chapter 8). -/

namespace Sys2Proof.Machine

/-! ### Entries and the idle list -/

def findAccount (a : Nat) (s : State) : Option Account := s.accounts.entries.find? fun e => decide (e.number = a)

def mapAccount (a : Nat) (f : Account → Account) (s : State) : State :=
  s.withAccounts { s.accounts with entries := s.accounts.entries.map fun e => if e.number = a then f e else e }

/-- The held total of an entry: the sum of the points of its holds (section 8.1). -/
def heldTotal (e : Account) : Nat := (e.holds.map Hold.points).sum

/-- The available points (section 8.1). -/
def availablePoints (e : Account) : Nat := e.balance - heldTotal e

/-- The points of the holds of every basket but one. -/
def othersHeld (n : Nat) (e : Account) : Nat :=
  ((e.holds.filter fun x => decide (x.basket ≠ n)).map Hold.points).sum

/-- The hold of a basket on an entry. -/
def holdOf (n : Nat) (e : Account) : Option Hold := e.holds.find? fun x => decide (x.basket = n)

/-- The hold of a basket on the entry of its account. -/
def basketHold (b : Basket) (s : State) : Option Hold :=
  b.account.bind fun a => (findAccount a s).bind fun e => holdOf b.number e

/-- The points a basket holds, 0 with no hold or no account (R163). -/
def heldPoints (b : Basket) (s : State) : Nat := ((basketHold b s).map Hold.points).getD 0

/-- An account number leaves the idle list. -/
def leaveIdle (a : Nat) (s : State) : State :=
  s.withAccounts { s.accounts with idle := s.accounts.idle.filter fun x => decide (x ≠ a) }

/-- An account number joins the tail of the idle list (R144). -/
def joinIdle (a : Nat) (s : State) : State := s.withAccounts { s.accounts with idle := s.accounts.idle ++ [a] }

/-- The reference count rises by 1; from 0 the entry leaves the idle list (R150). -/
def addReference (a : Nat) (s : State) : State :=
  let s1 := mapAccount a (fun e => { e with refs := e.refs + 1 }) s
  match findAccount a s with
  | some e => if e.refs = 0 then leaveIdle a s1 else s1
  | none => s1

/-- The reference count falls by 1; an entry left at 0 joins the tail of the idle list (R150). -/
def dropReference (a : Nat) (s : State) : State :=
  let s1 := mapAccount a (fun e => { e with refs := e.refs - 1 }) s
  match findAccount a s with
  | some e => if e.refs = 1 then joinIdle a s1 else s1
  | none => s1

/-- The hold of a basket leaves an entry's hold list (R154, R158). -/
def removeHold (n : Nat) (e : Account) : Account := { e with holds := e.holds.filter fun x => decide (x.basket ≠ n) }

/-- A basket that ends drops its hold and then its account reference (R150, R158). -/
def dropAccount (b : Basket) (s : State) : State :=
  match b.account with
  | some a => dropReference a (mapAccount a (removeHold b.number) s)
  | none => s

/-! ### Loading, evicting and reading -/

/-- The reply of a load that is taken (R145). -/
def loadedReply (h : Header) (created : Bool) (evicted : Option Nat) (e : Account) : Message :=
  replyTo .accountLoad h .ok (.accountLoaded created evicted (availablePoints e) e.refs)

/-- A load that makes a new entry, evicting the head of the idle list from a full table (R145).  A full table
always has an idle entry; the branch without one is unreachable (log 17). -/
def createAccount (h : Header) (a : Nat) (tier : Tier) (flags : Flags) (balance : Nat) (s : State) : Effect :=
  let e : Account := { number := a, tier := tier, flags := flags, balance := balance, holds := [], refs := 0 }
  if s.accounts.entries.length < Config.accounts then
    { state := s.withAccounts { entries := s.accounts.entries ++ [e], idle := s.accounts.idle ++ [a] }
      sent := [loadedReply h true none e] }
  else
    match s.accounts.idle with
    | [] => refuse .accountLoad h .tableFull s
    | old :: rest =>
      { state := s.withAccounts
          { entries := (s.accounts.entries.filter fun x => decide (x.number ≠ old)) ++ [e], idle := rest ++ [a] }
        sent := [loadedReply h true (some old) e] }

/-- The baskets a refresh names: non-free with the account attached (R147). -/
def attachedBaskets (a : Nat) (s : State) : List Nat :=
  (s.basketTable.baskets.filter fun b => decide (b.account = some a)).map Basket.number

/-- A load that refreshes an entry (R146, R147). -/
def refreshAccount (h : Header) (e : Account) (tier : Tier) (flags : Flags) (balance : Nat) (s : State) : Effect :=
  if balance < heldTotal e then answer .accountLoad h .holdsExceed (.word (heldTotal e)) s
  else
    let e1 := { e with tier := tier, flags := flags, balance := balance }
    let s1 := mapAccount e.number (fun x => { x with tier := tier, flags := flags, balance := balance }) s
    let s2 := if e.refs = 0 then joinIdle e.number (leaveIdle e.number s1) else s1
    (if tier ≠ e.tier ∨ flags ≠ e.flags then staleClaim (attachedBaskets e.number s) s2 else nothing s2).after
      [loadedReply h false none e1]

/-- ACCOUNT LOAD (R145, R146). -/
def accountLoad (h : Header) (a tier : Nat) (flags : Flags) (balance : Nat) (s : State) : Effect :=
  match tierOf tier with
  | none => refuse .accountLoad h .badField s
  | some t =>
    if !inRange 1 Config.maxAccount a || decide (Config.maxBalance < balance) then refuse .accountLoad h .badField s
    else
      match findAccount a s with
      | some e => refreshAccount h e t flags balance s
      | none => createAccount h a t flags balance s

/-- ACCOUNT EVICT (R148). -/
def accountEvict (h : Header) (a : Nat) (s : State) : Effect :=
  if !inRange 1 Config.maxAccount a then refuse .accountEvict h .badField s
  else
    match findAccount a s with
    | none => refuse .accountEvict h .notLoaded s
    | some e =>
      if 0 < e.refs ∨ e.holds ≠ [] then answer .accountEvict h .inUse (.byte e.refs) s
      else
        answer .accountEvict h .ok (.word e.balance)
          (s.withAccounts
            { entries := s.accounts.entries.filter fun x => decide (x.number ≠ a)
              idle := s.accounts.idle.filter fun x => decide (x ≠ a) })

/-- The place of a number in a list, counted from 0. -/
def positionOf (a : Nat) : List Nat → Option Nat
  | [] => none
  | x :: rest => if x = a then some 0 else (positionOf a rest).map (· + 1)

/-- ACCOUNT READ (R149). -/
def accountRead (h : Header) (a : Nat) (s : State) : Effect :=
  if !inRange 1 Config.maxAccount a then refuse .accountRead h .badField s
  else
    match findAccount a s with
    | none => refuse .accountRead h .notLoaded s
    | some e =>
      answer .accountRead h .ok (.accountRead
        { account := e, heldTotal := heldTotal e, available := availablePoints e
          idlePosition := positionOf a s.accounts.idle
          entries := s.accounts.entries.length, idleEntries := s.accounts.idle.length
          holds := e.holds.map fun x =>
            { basket := x.basket, lane := x.lane, points := x.points, seconds := wholeSeconds x.timer } }) s

/-! ### Attachment (R13) -/

/-- ACCOUNT ATTACH (R13, R150). -/
def accountAttach (h : Header) (n a : Nat) (s : State) : Effect :=
  onServed .accountAttach h n (fun _ b s =>
    if b.account.isSome then refuse .accountAttach h .accountAttached s
    else
      match findAccount a s with
      | none => refuse .accountAttach h .notLoaded s
      | some _ =>
        answer .accountAttach h .ok .none
          (ownChange n (mapBasket n (fun b => { b with account := some a }) (addReference a s)))) s

/-- ACCOUNT DETACH (R13, R150). -/
def accountDetach (h : Header) (n : Nat) (s : State) : Effect :=
  onServed .accountDetach h n (fun _ b s =>
    match b.account with
    | none => refuse .accountDetach h .noAccount s
    | some a =>
      if (basketHold b s).isSome then refuse .accountDetach h .holdActive s
      else
        answer .accountDetach h .ok .none
          (ownChange n (mapBasket n (fun b => { b with account := none }) (dropReference a s)))) s

/-! ### Point holds -/

/-- The payable of a basket's last installed plan. -/
def planPayable (b : Basket) : Nat := (b.plan.map Plan.payable).getD 0

/-- The reply of a REDEEM that leaves a hold (R152, R153). -/
def redeemedReply (h : Header) (a points : Nat) (s : State) : Message :=
  replyTo .redeem h .ok (.redeemed points (redemptionValue points s)
    (if points = 0 then 0 else s.tables.limits.holdLifetime)
    (((findAccount a s).map availablePoints).getD 0))

/-- A REDEEM that has passed R151 creates, amends or releases the basket's hold (R152, R153). -/
def placeHold (n l a points : Nat) (s : State) : State :=
  let timer := 1000 * s.tables.limits.holdLifetime
  mapAccount a (fun e =>
    if points = 0 then removeHold n e
    else
      match holdOf n e with
      | some _ =>
        { e with holds := e.holds.map fun x => if x.basket = n then { x with points := points, timer := timer } else x }
      | none => { e with holds := e.holds ++ [{ basket := n, lane := l, points := points, timer := timer }] }) s

/-- REDEEM (R151 to R153). -/
def redeem (h : Header) (n points : Nat) (s : State) : Effect :=
  onServed .redeem h n (fun l b s =>
    if b.state = .opened then refuse .redeem h .planStale s
    else if b.state = .totalling then refuse .redeem h .evaluating s
    else if Config.maxBalance < points then refuse .redeem h .badField s
    else
      match b.account.bind fun a => findAccount a s with
      | none => refuse .redeem h .noAccount s
      | some e =>
        if planPayable b < redemptionValue points s then answer .redeem h .redeemExceeds (.word (planPayable b)) s
        else if e.balance - othersHeld n e < points then
          answer .redeem h .insufficient (.word (e.balance - othersHeld n e)) s
        else if (holdOf n e).isNone ∧ 0 < points ∧ Config.holds ≤ e.holds.length then refuse .redeem h .holdsFull s
        else
          let s1 := placeHold n l e.number points s
          { state := s1, sent := [redeemedReply h e.number points s1] }) s

/-- REDEEM RELEASE (R154). -/
def redeemRelease (h : Header) (n : Nat) (s : State) : Effect :=
  onServed .redeemRelease h n (fun _ b s =>
    match b.account with
    | none => refuse .redeemRelease h .noAccount s
    | some a =>
      answer .redeemRelease h .ok (.word (heldPoints b s)) (mapAccount a (removeHold n) s)) s

/-- The entry that holds points for a basket. -/
def holdEntry (n : Nat) (s : State) : Option Account := s.accounts.entries.find? fun e => (holdOf n e).isSome

/-- The expiry of a hold's timer (R155); a stopped timer does not expire. -/
def holdTimerExpiry (n : Nat) (s : State) : Effect :=
  match holdEntry n s with
  | none => nothing s
  | some e =>
    match holdOf n e with
    | none => nothing s
    | some x =>
      { state := mapAccount e.number (removeHold n) s
        sent := [noticeTo .holdLapsed (some x.lane) (.holdLapsed n e.number x.points)] }

end Sys2Proof.Machine
end

