-- ==== Sys2Proof/Machine/Overrides.lean ====
section
/-! DEFINITION. Price overrides: keying, lane grant, the fate of a new PENDING record, withdrawal and quantity
changes (chapter 6). -/

namespace Sys2Proof.Machine

/-! ### Lane grant (R110) -/

/-- The reduction of a record granted by the lane; others count nothing (R110). -/
def laneReduction (r : OverrideRecord) : Nat :=
  match r.state with
  | .granted .lane _ => r.reduction
  | .granted (.desk _ _) _ => 0
  | .pending _ _ => 0

/-- The lane-granted reductions of a basket on lines other than `line`. -/
def laneGrantTotal (n line : Nat) (s : State) : Nat :=
  (((basketRecords n s).filter fun r => decide (r.line ≠ line)).map laneReduction).sum

/-- The lane may grant: the reason is not GOODWILL, the price is above 0, and both override limits hold (R110). -/
def laneMayGrant (lane : Lane) (reason : Reason) (price reduction others : Nat) : Bool :=
  decide (reason ≠ .goodwill) && decide (0 < price) && decide (reduction ≤ lane.floorLimit)
    && decide (others + reduction ≤ lane.basketLimit)

/-- The lane-grant test with the profile of a lane as it stands. -/
def laneGrantTest (l n line : Nat) (reason : Reason) (price reduction : Nat) (s : State) : Bool :=
  match s.basketTable.lanes[l]? with
  | some lane => laneMayGrant lane reason price reduction (laneGrantTotal n line s)
  | none => false

/-! ### A record that becomes PENDING (R111, R128) -/

/-- The presentation pass for a record that became PENDING; on a SINGLE route a record that the pass does not
present is removed at the same event (R128). -/
def handToRouter (l n line : Nat) (s : State) : Effect :=
  let e := presentationPass s
  match recordOf n line e.state with
  | some r => if routeSingle l s && !isPresented r then { e with state := removeRecord n line e.state } else e
  | none => e

/-- Whether a line has a record. -/
def hasRecord (n line : Nat) (s : State) : Bool := (recordOf n line s).isSome

/-! ### Keying (R108 to R111) -/

/-- The reply to OVERRIDE KEY. -/
def keyedReply (h : Header) (outcome : OverrideOutcome) (seq reduction : Nat) : Message :=
  replyTo .overrideKey h .ok (.overrideKeyed outcome seq reduction)

/-- The new record joins the table, GRANTED by the lane or PENDING (R108, R110). -/
def newRecord (n : Nat) (ln : Line) (seq price : Nat) (reason : Reason) (granted : Bool) : OverrideRecord :=
  let reduction := (ln.price - price) * ln.quantity
  { basket := n, line := ln.number, seq := seq, price := price, reason := reason, reduction := reduction
    state := if granted then .granted .lane reduction else .pending 0 false }

/-- An OVERRIDE KEY that passes its checks: the old record goes with its notice, the new one is made and
granted or handed to the router, and the generation rises once (R109 to R111). -/
def keyTaken (h : Header) (l : Nat) (b : Basket) (ln : Line) (price : Nat) (reason : Reason) (s : State) : Effect :=
  let back := takeBack l b.number ln.number s
  let s1 := removeRecord b.number ln.number back.state
  let s2 := ownChange b.number (mapBasket b.number (fun x => { x with keyingCount := x.keyingCount + 1 }) s1)
  let reduction := (ln.price - price) * ln.quantity
  let granted := laneGrantTest l b.number ln.number reason price reduction s
  let s3 := s2.withOverrides (s2.overrides ++ [newRecord b.number ln b.keyingCount price reason granted])
  if granted then
    (if back.sent = [] then nothing s3 else presentationPass s3).after
      (keyedReply h .granted b.keyingCount reduction :: back.sent)
  else
    let e := handToRouter l b.number ln.number s3
    let outcome := if hasRecord b.number ln.number e.state then OverrideOutcome.pending else .declined
    e.after (keyedReply h outcome b.keyingCount reduction :: back.sent)

/-- OVERRIDE KEY (R108). -/
def overrideKey (h : Header) (n line price reason : Nat) (s : State) : Effect :=
  onServed .overrideKey h n (fun l b s =>
    match reasonOf reason with
    | none => refuse .overrideKey h .badField s
    | some why =>
      if Config.maxPrice < price then refuse .overrideKey h .badField s
      else
        match b.lines.find? fun ln => decide (ln.number = line) with
        | none => refuse .overrideKey h .noLine s
        | some ln =>
          if ln.price ≤ price then refuse .overrideKey h .notReduction s
          else if Config.keyings < b.keyingCount then refuse .overrideKey h .overrideLimit s
          else if !hasRecord n line s && decide (Config.basketOverrides ≤ (basketRecords n s).length) then
            refuse .overrideKey h .overrideLimit s
          else if !hasRecord n line s && decide (Config.overrides ≤ s.overrides.length) then
            refuse .overrideKey h .overridesFull s
          else keyTaken h l b ln price why s) s

/-! ### Withdrawal and removal with the line (R112, R113) -/

/-- A line's record goes, its notice taken back; a pass follows a taking back (R131). -/
def withdrawRecord (l n line : Nat) (s : State) : Effect :=
  let back := takeBack l n line s
  let s1 := removeRecord n line back.state
  (if back.sent = [] then nothing s1 else presentationPass s1).after back.sent

/-- OVERRIDE WITHDRAW (R112). -/
def overrideWithdraw (h : Header) (n line : Nat) (s : State) : Effect :=
  onServed .overrideWithdraw h n (fun l _ s =>
    match recordOf n line s with
    | none => refuse .overrideWithdraw h .noOverride s
    | some r =>
      (withdrawRecord l n line (ownChange n s)).after
        [replyTo .overrideWithdraw h .ok (.word r.reduction)]) s

/-! ### Quantity changes (R114 to R116) -/

/-- A record's reduction at a quantity of its line. -/
def reductionAt (r : OverrideRecord) (unitPrice quantity : Nat) : Nat := (unitPrice - r.price) * quantity

/-- The record takes a reduction, and a GRANTED one may take a new authorised reduction. -/
def withReduction (reduction : Nat) (r : OverrideRecord) : OverrideRecord := { r with reduction := reduction }

/-- A GRANTED record whose reduction outgrows what was authorised (R115). -/
def outgrown (l n line : Nat) (authority : Authority) (r : OverrideRecord) (reduction : Nat) (s : State) : Effect :=
  if authority = .lane ∧ laneGrantTest l n line r.reason r.price reduction s = true then
    nothing (mapRecord n line (fun r => { r with reduction := reduction, state := .granted .lane reduction }) s)
  else
    handToRouter l n line
      (mapRecord n line (fun r => { r with reduction := reduction, state := .pending 0 false }) s)

/-- A presented record whose line's quantity changes: the notice goes first, then the route's mode decides
(R116), and a pass follows (R131). -/
def requantifyPresented (l n line reduction : Nat) (s : State) : Effect :=
  let back := takeBack l n line s
  let s1 :=
    if routeSingle l s then removeRecord n line back.state
    else mapRecord n line (fun r => withReduction reduction (markTakenBack r)) back.state
  (presentationPass s1).after back.sent

/-- The record of a line whose quantity has become `quantity` (R114). -/
def requantify (l n line unitPrice quantity : Nat) (s : State) : Effect :=
  match recordOf n line s with
  | none => nothing s
  | some r =>
    let reduction := reductionAt r unitPrice quantity
    match r.state with
    | .pending _ false => nothing (mapRecord n line (withReduction reduction) s)
    | .pending _ true => requantifyPresented l n line reduction s
    | .granted authority authorised =>
      if reduction ≤ authorised then nothing (mapRecord n line (withReduction reduction) s)
      else outgrown l n line authority r reduction s

end Sys2Proof.Machine
end

