-- ==== Sys2Proof/Machine/Evaluation.lean ====
section
/-! DEFINITION. Concession evaluation: the queue and the units, the snapshot, candidates, the passes, the plan
and the completion (chapter 5). -/

namespace Sys2Proof.Machine

/-! ### Candidates (R82, R83) -/

/-- The validity test: the active mark, or the number on the held-offer list (R73). -/
def valid (held : List Nat) (active : Bool) (r : OfferRecord) : Bool := active || held.contains r.number

/-- The coupon test (R82). -/
def couponHeld (coupons : List Nat) (r : OfferRecord) : Bool :=
  decide (r.couponKey = 0) || coupons.contains r.couponKey

/-- A slot's offer as a candidate, when it meets the four conditions of R82. -/
def candidateAt (st : OfferStore) (held coupons : List Nat) (e : Flags) (p : Nat × Slot) : Option Candidate :=
  match p.2 with
  | .live r active =>
    if usable st p.1 && valid held active r && entitled r.required e && couponHeld coupons r then
      some { slot := p.1, record := r }
    else none
  | .retired _ => none
  | .damaged => none

/-- Candidate order: by priority, then by offer number, lowest first (R83). -/
def comesBefore (a b : Candidate) : Bool :=
  decide (a.record.priority < b.record.priority) ||
    (decide (a.record.priority = b.record.priority) && decide (a.record.number ≤ b.record.number))

def insertCandidate (c : Candidate) : List Candidate → List Candidate
  | [] => [c]
  | d :: rest => if comesBefore c d then c :: d :: rest else d :: insertCandidate c rest

def candidateOrder : List Candidate → List Candidate
  | [] => []
  | c :: rest => insertCandidate c (candidateOrder rest)

/-! ### The snapshot (R80) -/

/-- What the snapshot holds of the attached account. -/
def snapAccount (b : Basket) (s : State) : Option SnapAccount :=
  b.account.bind fun a => (findAccount a s).map fun e =>
    { tier := e.tier, flags := e.flags, rate := (s.tables.rates[tierIndex e.tier]?).getD 0 }

/-- The mask value of the basket's lane. -/
def laneMask (b : Basket) (s : State) : Flags :=
  match b.lane.bind fun l => s.basketTable.lanes[l]? with
  | some r => maskValue s.tables r.maskEntry
  | none => 0

/-- The snapshot of a basket (R80). -/
def snapshotOf (b : Basket) (s : State) : Snapshot :=
  let account := snapAccount b s
  let mask := laneMask b s
  let e := effectiveFlags account mask
  { basket := b.number, generation := b.generation, lines := b.lines, coupons := b.coupons
    heldOffers := b.heldOffers
    overrides := (basketRecords b.number s).map fun r =>
      { line := r.line, granted := !isPending r, price := r.price }
    mask := mask, account := account, stamp := s.calendar.now
    candidates := candidateOrder (s.store.slots.filterMap (candidateAt s.store b.heldOffers b.coupons e)) }

/-! ### The queue and the units (R79) -/

/-- The lowest-numbered idle unit. -/
def idleUnit (e : Evaluator) : Option Nat :=
  (List.range 4).find? fun i => decide (e.units[i]? = some none)

/-- An idle unit takes the basket at the head of the queue and builds its snapshot (R79). -/
def unitTakes (s : State) : State :=
  match s.evaluator.queue, idleUnit s.evaluator with
  | n :: rest, some i =>
    match findBasket n s with
    | some b =>
      s.withEvaluator
        { queue := rest
          units := s.evaluator.units.setIfInBounds i
            (some { basket := n, snapshot := snapshotOf b s, discard := false }) }
    | none => s
  | _, _ => s

/-- A basket joins the tail of the evaluation queue, and an idle unit takes the head (R78, R79). -/
def enqueue (n : Nat) (s : State) : State :=
  unitTakes (s.withEvaluator { s.evaluator with queue := s.evaluator.queue ++ [n] })

/-- A basket's evaluation ends with the basket: its queue entry goes, and the unit working on it will drop its
result (R21, R102). -/
def cancelEvaluation (n : Nat) (s : State) : State :=
  s.withEvaluator
    { queue := s.evaluator.queue.filter fun m => decide (m ≠ n)
      units := s.evaluator.units.map fun u =>
        u.map fun r => if r.basket = n then { r with discard := true } else r }

/-! ### Units of the lines (R84, R85) -/

/-- One unit of a line as the passes work on it (R84). -/
structure WorkUnit where
  index : Nat
  line : Nat
  group : Nat
  measured : Bool
  eligible : Bool
  shelf : Nat
  net : Nat
  claimed : Bool
deriving DecidableEq, Repr

/-- What the passes have built so far: the units, the reduction entries in order (line, offer, amount), and the
used offers. -/
structure Working where
  units : List WorkUnit
  reductions : List (Nat × Nat × Nat)
  used : List UsedOffer
deriving DecidableEq, Repr

/-- The override the snapshot holds for a line. -/
def overrideFor (snap : Snapshot) (line : Nat) : Option SnapOverride :=
  snap.overrides.find? fun o => decide (o.line = line)

/-- A line is eligible for line offers: concession permission and no override record (R85). -/
def lineEligible (snap : Snapshot) (l : Line) : Bool := l.concession && (overrideFor snap l.number).isNone

/-- The units of one line; a measured line is one unit (R84). -/
def lineUnits (snap : Snapshot) (l : Line) : List WorkUnit :=
  List.replicate l.quantity
    { index := 0, line := l.number, group := l.group, measured := l.measured, eligible := lineEligible snap l
      shelf := l.price, net := l.price, claimed := false }

/-- Numbers the units in unit order. -/
def numberUnits : Nat → List WorkUnit → List WorkUnit
  | _, [] => []
  | i, u :: rest => { u with index := i } :: numberUnits (i + 1) rest

/-- The units of the snapshot in unit order: by line number, then by unit number (R84). -/
def unitsOf (snap : Snapshot) : List WorkUnit := numberUnits 0 (snap.lines.flatMap (lineUnits snap))

/-- A line is closed to a further offer when its reduction list holds 4 entries (R85). -/
def lineClosed (w : Working) (line : Nat) : Bool :=
  decide (Config.lineEntries ≤ (w.reductions.filter fun p => decide (p.1 = line)).length)

/-- The units an offer reaches: eligible, of its group, on a line open to it, and measured only for UNIT_CUT
(R85). -/
def reaches (w : Working) (r : OfferRecord) (kind : OfferKind) (u : WorkUnit) : Bool :=
  u.eligible && (decide (r.group = 0) || decide (u.group = r.group)) && !lineClosed w u.line
    && (!u.measured || decide (kind = .unitCut))

/-- The reduction of a unit at a running net (R86). -/
def unitReduction (r : OfferRecord) (net : Nat) : Nat :=
  if r.form = 1 then net * r.value / 10000 else min r.value net

/-! ### Applying a line offer (R86 to R91) -/

/-- The first `budget` units that `pick` holds of are reduced, and claimed when `claim`; no bound with no budget.
Gives the units and how many were acted on. -/
def cutUnits (pick : WorkUnit → Bool) (claim : Bool) (r : OfferRecord) : Option Nat → List WorkUnit → List WorkUnit × Nat
  | _, [] => ([], 0)
  | some 0, us => (us, 0)
  | budget, u :: rest =>
    if pick u then
      let done := cutUnits pick claim r (budget.map fun k => k - 1) rest
      ({ u with net := u.net - unitReduction r u.net, claimed := u.claimed || claim } :: done.1, done.2 + 1)
    else
      let done := cutUnits pick claim r budget rest
      (u :: done.1, done.2)

/-- The bound an offer's limit sets; 0 sets none. -/
def limitOf (r : OfferRecord) : Option Nat := if r.limit = 0 then none else some r.limit

/-- A unit placed by shelf price, highest first, equals kept in unit order (R90). -/
def insertByShelf (u : WorkUnit) : List WorkUnit → List WorkUnit
  | [] => [u]
  | v :: rest => if v.shelf ≤ u.shelf then u :: v :: rest else v :: insertByShelf u rest

def byShelf : List WorkUnit → List WorkUnit
  | [] => []
  | u :: rest => insertByShelf u (byShelf rest)

/-- How many sets a multi-buy cuts from so many units (R90). -/
def setsCut (r : OfferRecord) (count : Nat) : Nat :=
  match limitOf r with
  | none => count / r.buy
  | some k => min (count / r.buy) k

/-- The units with the sets claimed and the last N − M of each set reduced to 0 (R90): `order` is the list of unit
numbers in the order of R90, cut to the sets. -/
def cutSets (r : OfferRecord) (order : List Nat) (us : List WorkUnit) : List WorkUnit :=
  us.map fun u =>
    match positionOf u.index order with
    | none => u
    | some i => if r.pay ≤ i % r.buy then { u with claimed := true, net := 0 } else { u with claimed := true }

/-- The units after an offer and its applications, before it is known whether the offer is used (R88 to R91). -/
def applyToUnits (w : Working) (c : Candidate) (kind : OfferKind) : List WorkUnit × Nat :=
  let r := c.record
  let reach := fun u => reaches w r kind u
  let free := fun u => reach u && !u.claimed
  let unspent := fun u => reach u && decide (u.net ≠ 0)
  match kind with
  | .unitCut =>
    if r.stacking = 0 then cutUnits free true r (limitOf r) w.units
    else cutUnits unspent false r (limitOf r) w.units
  | .quantityBreak =>
    if r.stacking = 0 then
      if (w.units.filter free).length < r.threshold then (w.units, 0) else cutUnits free true r (limitOf r) w.units
    else
      if (w.units.filter reach).length < r.threshold then (w.units, 0)
      else cutUnits unspent false r (limitOf r) w.units
  | .multiBuy =>
    let ordered := byShelf (w.units.filter free)
    let sets := setsCut r ordered.length
    (cutSets r ((ordered.take (sets * r.buy)).map WorkUnit.index) w.units, sets)
  | .basketCoupon => (w.units, 0)
  | .pointsBoost => (w.units, 0)

/-- The sum of the running nets of a line's units. -/
def unitsNet (us : List WorkUnit) (line : Nat) : Nat :=
  ((us.filter fun u => decide (u.line = line)).map WorkUnit.net).sum

/-- The entries an application makes: one for each line it reduced by more than 0 (R86). -/
def newReductions (snap : Snapshot) (offer : Nat) (before after : List WorkUnit) : List (Nat × Nat × Nat) :=
  snap.lines.filterMap fun l =>
    let amount := unitsNet before l.number - unitsNet after l.number
    if amount = 0 then none else some (l.number, offer, amount)

/-- A line offer taken: it applies in full, or is undone when it comes to 0 or would be a 33rd used offer
(R86, R87). -/
def takeLineOffer (snap : Snapshot) (kind : OfferKind) (w : Working) (c : Candidate) : Working :=
  let done := applyToUnits w c kind
  let entries := newReductions snap c.record.number w.units done.1
  if entries = [] ∨ Config.usedOffers ≤ w.used.length then w
  else
    { units := done.1
      reductions := w.reductions ++ entries
      used := w.used ++ [{ offer := c.record.number, slot := c.slot, kind := kind, applications := done.2
                           total := (entries.map fun p => p.2.2).sum }] }

/-- The pass that takes a candidate (R83). -/
inductive Pass
  | exclusive
  | stackable
  | basket
  | points
deriving DecidableEq, Repr

def passOf (r : OfferRecord) : Option Pass :=
  match offerKindOf r.kind with
  | some .unitCut => some (if r.stacking = 0 then .exclusive else .stackable)
  | some .quantityBreak => some (if r.stacking = 0 then .exclusive else .stackable)
  | some .multiBuy => some .exclusive
  | some .basketCoupon => some .basket
  | some .pointsBoost => some .points
  | none => none

/-- The candidates of a pass, in candidate order. -/
def passCandidates (snap : Snapshot) (p : Pass) : List Candidate :=
  snap.candidates.filter fun c => decide (passOf c.record = some p)

/-- One candidate of a line pass. -/
def linePassStep (snap : Snapshot) (w : Working) (c : Candidate) : Working :=
  match offerKindOf c.record.kind with
  | some kind => takeLineOffer snap kind w c
  | none => w

/-- The exclusive pass and then the stackable pass (R88 to R91). -/
def linePasses (snap : Snapshot) : Working :=
  let start : Working := { units := unitsOf snap, reductions := [], used := [] }
  (passCandidates snap .stackable).foldl (linePassStep snap)
    ((passCandidates snap .exclusive).foldl (linePassStep snap) start)

/-! ### Line nets (R92) -/

/-- A line with its net. -/
structure PricedLine where
  line : Line
  net : Nat
  granted : Bool
deriving DecidableEq, Repr

/-- The net of a line (R92). -/
def priceLine (snap : Snapshot) (w : Working) (l : Line) : PricedLine :=
  match overrideFor snap l.number with
  | none => { line := l, net := unitsNet w.units l.number, granted := false }
  | some o =>
    if o.granted then { line := l, net := o.price * l.quantity, granted := true }
    else { line := l, net := l.extended, granted := false }

/-! ### The basket pass (R93) and points (R95, R96) -/

/-- What the basket pass and the points have built. -/
structure BasketWork where
  payable : Nat
  points : Nat
  entries : List BasketEntry
  used : List UsedOffer
deriving DecidableEq, Repr

/-- The sum of the nets of the priced lines that `p` holds of, in the offer's group (R93, R96). -/
def groupNet (lines : List PricedLine) (p : PricedLine → Bool) (group : Nat) : Nat :=
  ((lines.filter fun l => p l && (decide (group = 0) || decide (l.line.group = group))).map PricedLine.net).sum

/-- A basket-level entry and its used offer, unless 8 entries or 32 used offers stand already (R87, R93). -/
def addBasketEntry (c : Candidate) (kind : OfferKind) (amount : Nat) (w : BasketWork) : BasketWork :=
  { w with
    entries := w.entries ++ [{ offer := c.record.number, kind := kind, amount := amount }]
    used := w.used ++ [{ offer := c.record.number, slot := c.slot, kind := kind, applications := 1, total := amount }] }

/-- No further basket-level entry or used offer has a place. -/
def basketWorkFull (w : BasketWork) : Bool :=
  decide (Config.basketEntries ≤ w.entries.length) || decide (Config.usedOffers ≤ w.used.length)

/-- A BASKET_COUPON taken (R93). -/
def takeCoupon (lines : List PricedLine) (w : BasketWork) (c : Candidate) : BasketWork :=
  let t := groupNet lines (fun l => l.line.concession) c.record.group
  let full := if c.record.form = 1 then t * c.record.value / 10000 else c.record.value
  let amount := min full w.payable
  if t < c.record.threshold ∨ amount = 0 ∨ basketWorkFull w = true then w
  else addBasketEntry c .basketCoupon amount { w with payable := w.payable - amount }

/-- A line earns: earn permission and no GRANTED override (R95). -/
def earning (l : PricedLine) : Bool := l.line.earn && !l.granted

/-- A POINTS_BOOST taken (R96). -/
def takeBoost (lines : List PricedLine) (w : BasketWork) (c : Candidate) : BasketWork :=
  let figure := groupNet lines earning c.record.group / 100 * c.record.extra
  let added := min figure (Config.maxEarned - w.points)
  if added = 0 ∨ basketWorkFull w = true then w
  else addBasketEntry c .pointsBoost added { w with points := w.points + added }

/-- The points part: nothing without an account (R95). -/
def pointsPass (snap : Snapshot) (lines : List PricedLine) (w : BasketWork) : BasketWork :=
  match snap.account with
  | none => w
  | some a =>
    (passCandidates snap .points).foldl (takeBoost lines)
      { w with points := min (groupNet lines earning 0 / 100 * a.rate) Config.maxEarned }

/-! ### The plan (R97) -/

/-- The line entry of a priced line. -/
def lineEntry (w : Working) (l : PricedLine) : LineEntry :=
  { line := l.line.number, net := l.net
    pairs := (w.reductions.filter fun p => decide (p.1 = l.line.number)).map Prod.snd }

/-- The override reduction of a line: its extended price less its net when GRANTED (R92). -/
def overrideReduction (l : PricedLine) : Nat := if l.granted then l.line.extended - l.net else 0

/-- The sum of the amounts of the BASKET_COUPON entries (R93). -/
def couponTotal (es : List BasketEntry) : Nat :=
  ((es.filter fun e => decide (e.kind = .basketCoupon)).map BasketEntry.amount).sum

/-- The plan computed from a snapshot; its sequence number is given at installation (R84 to R97). -/
def planOf (snap : Snapshot) : Plan :=
  let w := linePasses snap
  let lines := snap.lines.map (priceLine snap w)
  let start : BasketWork := { payable := (lines.map PricedLine.net).sum, points := 0, entries := [], used := w.used }
  let done := pointsPass snap lines ((passCandidates snap .basket).foldl (takeCoupon lines) start)
  { basket := snap.basket, seq := 0, stamp := snap.stamp
    gross := linesTotal snap.lines
    lineConcessions := (w.reductions.map fun p => p.2.2).sum
    overrideReductions := (lines.map overrideReduction).sum
    basketConcessions := couponTotal done.entries
    payable := done.payable
    points := done.points
    pendingOverrides := (snap.overrides.filter fun o => !o.granted).length
    lines := lines.map (lineEntry w)
    entries := done.entries
    used := done.used
    coupons := snap.coupons.filter fun k =>
      snap.candidates.any fun c =>
        decide (c.record.couponKey = k) && done.used.any fun u => decide (u.offer = c.record.number) }

/-! ### Completion (R98 to R102) -/

/-- The basis check on a unit's result (R98). -/
def basisHolds (u : RunningUnit) (b : Basket) (s : State) : Bool :=
  decide (b.generation = u.snapshot.generation) && (planOf u.snapshot).used.all fun o => usable s.store o.slot

/-- The next plan sequence number: 1 after 0 and after 255 (R99). -/
def nextPlanSeq (n : Nat) : Nat := if n < 255 then n + 1 else 1

/-- The first `excess` entries that the plan does not use leave the list (R100). -/
def trimHeld (used : List Nat) : Nat → List Nat → List Nat
  | _, [] => []
  | 0, held => held
  | excess + 1, o :: rest =>
    if used.contains o then o :: trimHeld used (excess + 1) rest else trimHeld used excess rest

/-- The held-offer list at installation (R100). -/
def updateHeld (held used : List Nat) : List Nat :=
  let joined := held ++ used.filter fun o => !held.contains o
  trimHeld used (joined.length - Config.heldOffers) joined

/-- The basket with the plan installed (R99). -/
def installed (p : Plan) (b : Basket) : Basket :=
  { b with
    planSeq := nextPlanSeq b.planSeq
    plan := some { p with seq := nextPlanSeq b.planSeq }
    current := true
    state := .totalled
    heldOffers := updateHeld b.heldOffers (p.used.map UsedOffer.offer)
    outstanding := none }

/-- The reply to the outstanding TOTAL (R103). -/
def totalReply (status : Status) (payload : Payload) (b : Basket) : List Message :=
  match b.outstanding with
  | some h => [replyTo .total h status payload]
  | none => []

/-- A unit becomes idle. -/
def freeUnit (i : Nat) (s : State) : State :=
  s.withEvaluator { s.evaluator with units := s.evaluator.units.setIfInBounds i none }

/-- The outcome of a completed evaluation before the unit takes the next basket (R98 to R102). -/
def completionOutcome (u : RunningUnit) (s : State) : Effect :=
  if u.discard then nothing s
  else
    match findBasket u.basket s with
    | none => nothing s
    | some b =>
      if basisHolds u b s then
        { state := mapBasket u.basket (installed (planOf u.snapshot)) s
          sent := totalReply .ok
            (.planSummary { planOf u.snapshot with seq := nextPlanSeq b.planSeq }) b }
      else nothing (s.withEvaluator { s.evaluator with queue := s.evaluator.queue ++ [u.basket] })

/-- The completion of a unit's evaluation (R98); an idle unit has none. -/
def evaluationCompletion (i : Nat) (s : State) : Effect :=
  match s.evaluator.units[i]? with
  | some (some u) =>
    let e := completionOutcome u (freeUnit i s)
    { e with state := unitTakes e.state }
  | some none => nothing s
  | none => nothing s

end Sys2Proof.Machine
end

