-- ==== Sys2Proof/Machine/Settlement.lean ====
section
/-! DEFINITION. How a basket ends and the journal: settlement (R163 to R166), the cancellation of a basket by
CANCEL (R21) and on park expiry (R18, R19), and the collection of records (R168, R170). -/

namespace Sys2Proof.Machine

/-! ### Records -/

/-- The store identity a record carries; it is set whenever a basket exists (R59, R161). -/
def identityInForce (s : State) : Nat := s.tables.identity.getD 0

/-- The lane and lane class of an active basket (R167). -/
def laneAndClass (b : Basket) (s : State) : Option (Nat × LaneClass) :=
  b.lane.bind fun l => (s.basketTable.lanes[l]?).map fun r => (l, r.laneClass)

/-- The CANCELLED record of a basket (R167). -/
def cancelledRecord (b : Basket) (cause : CancelCause) (s : State) : CancelledRecord :=
  { identity := identityInForce s, basket := b.number, lane := laneAndClass b s, account := b.account
    stamp := s.calendar.now, cause := cause
    parkTime := if cause = .parkExpired then b.parkTime else none }

/-- The journal holds 128 records (R160). -/
def journalFull (s : State) : Bool := decide (Config.journal ≤ s.settlement.journal.length)

/-! ### Cancellation -/

/-- What every cancellation does to a basket's records, account, journal and context, in the order of R21: the
overrides go, the account is dropped, the CANCELLED record is appended and the context becomes FREE. -/
def cancelBasket (b : Basket) (cause : CancelCause) (s : State) : State :=
  freeBasket b.number
    (appendRecord (.cancelled (cancelledRecord b cause s)) (dropAccount b (removeRecords b.number s)))

/-- A CANCEL that is taken (R21).  The TOTAL is answered CANCELLED before the CANCEL; a presented notice is taken
back after the reply, the pass follows, and JOURNAL WAITING comes last (R131, R162, log 9). -/
def cancelTaken (h : Header) (b : Basket) (s : State) : Effect :=
  let back :=
    match b.lane.bind fun l => (presentationOf l s).map fun p => (l, p) with
    | some (l, p) => takeBack l b.number p.line s
    | none => nothing s
  let ended := cancelBasket b .host (cancelEvaluation b.number back.state)
  let done := if back.sent = [] then nothing ended else presentationPass ended
  { state := done.state
    sent := totalReply .cancelled .none b ++ [replyTo .cancel h .ok .none] ++ back.sent ++ done.sent
      ++ journalWaitingNotice done.state }

/-- CANCEL (R4 without its lane test, R21). -/
def cancel (h : Header) (n : Nat) (s : State) : Effect :=
  if s.link.mode = .maintenance then refuse .cancel h .wrongMode s
  else
    match findBasket n s with
    | none => refuse .cancel h .noBasket s
    | some b =>
      if b.state ≠ .parked ∧ laneOf h ≠ b.lane then refuse .cancel h .noBasket s
      else if journalFull s then refuse .cancel h .journalFull s
      else cancelTaken h b s

/-! ### Park expiry -/

/-- The cancellation of a parked basket on expiry, with PARK EXPIRED and then JOURNAL WAITING (R18, R162). -/
def expireBasket (b : Basket) (s : State) : Effect :=
  let t := cancelBasket b .parkExpired s
  { state := t
    sent := noticeTo .parkExpired none (.parkExpired b.number b.account b.parkTime) :: journalWaitingNotice t }

/-- The expiry of a basket's park timer: cancelled at once, or marked when the journal is full (R18).  A stopped
timer does not expire. -/
def parkTimerExpiry (n : Nat) (s : State) : Effect :=
  match findBasket n s with
  | none => nothing s
  | some b =>
    if b.state ≠ .parked ∨ b.parkTimer = none then nothing s
    else if journalFull s then
      let t := mapBasket n (fun b => { b with expired := true, parkTimer := none }) s
      nothing (t.withSettlement { t.settlement with waiting := t.settlement.waiting + 1 })
    else expireBasket b s

/-! ### Settlement -/

/-- The granted overrides of a basket as its SETTLED record lists them (R166). -/
def journalOverrides (n : Nat) (s : State) : List JournalOverride :=
  (bySeq (basketRecords n s)).filterMap fun r =>
    match r.state with
    | .granted authority _ =>
      some { line := r.line, reason := r.reason, price := r.price, reduction := r.reduction, authority := authority }
    | .pending _ _ => none

/-- The balance after a commit (R159, R165). -/
def balanceAfter (balance redeemed earned : Nat) : Nat := min (balance - redeemed + earned) Config.maxBalance

/-- The account part of the commit: balance, hold, reference (R159). -/
def commitAccount (b : Basket) (redeemed earned : Nat) (s : State) : State :=
  match b.account with
  | some a =>
    dropReference a
      (mapAccount a (fun e => removeHold b.number { e with balance := balanceAfter e.balance redeemed earned }) s)
  | none => s

/-- Points earned, balance after and points lost to the cap, with an account (R165). -/
def creditOf (b : Basket) (redeemed earned : Nat) (s : State) : Option (Nat × Nat × Nat) :=
  (b.account.bind fun a => findAccount a s).map fun e =>
    (earned, balanceAfter e.balance redeemed earned,
      (e.balance - redeemed + earned) - balanceAfter e.balance redeemed earned)

/-- The SETTLED record (R166). -/
def settledRecord (l : Nat) (b : Basket) (p : Plan) (redeemed : Nat) (s : State) : SettledRecord :=
  { identity := identityInForce s, basket := b.number, lane := l
    laneClass := ((s.basketTable.lanes[l]?).map Lane.laneClass).getD .staffed
    account := b.account, stamp := s.calendar.now, planSeq := p.seq, planStamp := p.stamp
    gross := p.gross, lineConcessions := p.lineConcessions, overrideReductions := p.overrideReductions
    basketConcessions := p.basketConcessions, payable := p.payable
    redeemed := redeemed, redemptionValue := redemptionValue redeemed s
    amountDue := p.payable - redemptionValue redeemed s
    credit := creditOf b redeemed p.points s
    offers := p.used, overrides := journalOverrides b.number s, coupons := p.coupons }

/-- The commit of a settlement (R164). -/
def settleTaken (h : Header) (l : Nat) (b : Basket) (p : Plan) (s : State) : Effect :=
  let redeemed := heldPoints b s
  let record := settledRecord l b p redeemed s
  let t := freeBasket b.number
    (removeRecords b.number (appendRecord (.settled record) (commitAccount b redeemed p.points s)))
  let reply := replyTo .settle h .ok (.settled
    { basket := b.number, planSeq := p.seq, payable := p.payable, redeemed := redeemed
      redemptionValue := redemptionValue redeemed s, amountDue := p.payable - redemptionValue redeemed s
      points := p.points, balance := record.credit.map fun c => c.2.1
      records := t.settlement.journal.length })
  { state := t, sent := reply :: journalWaitingNotice t }

/-- The plan SETTLE settles: the current plan of a TOTALLED basket (R163). -/
def currentPlan (b : Basket) : Option Plan :=
  if b.state = .totalled then b.plan else none

/-- SETTLE (R163). -/
def settle (h : Header) (n expected : Nat) (s : State) : Effect :=
  onServed .settle h n (fun l b s =>
    if Config.maxBalance < expected then refuse .settle h .badField s
    else if b.state = .totalling then refuse .settle h .evaluating s
    else
      match currentPlan b with
      | none => refuse .settle h .planStale s
      | some p =>
        if b.lines = [] then refuse .settle h .empty s
        else if 0 < ((basketRecords n s).filter isPending).length then
          answer .settle h .overridePending (.byte ((basketRecords n s).filter isPending).length) s
        else if 0 < expected ∧ heldPoints b s = 0 then refuse .settle h .holdLapsed s
        else if expected ≠ heldPoints b s then answer .settle h .redemptionMismatch (.word (heldPoints b s)) s
        else if p.payable < redemptionValue (heldPoints b s) s then
          answer .settle h .redeemExceeds (.settleExceeds p.payable (redemptionValue (heldPoints b s) s)) s
        else if journalFull s then refuse .settle h .journalFull s
        else settleTaken h l b p s) s

/-! ### Collection -/

/-- The waiting basket nearest the head of the park list (R19). -/
def firstExpired (s : State) : Option Basket :=
  (s.basketTable.parkList.filterMap fun n => findBasket n s).find? fun b => b.expired

/-- One waiting basket is cancelled into the place just freed (R19, R168). -/
def admitWaiting (s : State) : Effect :=
  if s.settlement.waiting = 0 then nothing s
  else
    match firstExpired s with
    | none => nothing s
    | some b =>
      expireBasket b (s.withSettlement { s.settlement with waiting := s.settlement.waiting - 1 })

/-- JOURNAL TAKE (R168). -/
def journalTake (h : Header) (s : State) : Effect :=
  match s.settlement.journal with
  | [] => answer .journalTake h .journalEmpty (.byte s.settlement.waiting) s
  | r :: rest =>
    let e := admitWaiting (s.withSettlement { s.settlement with journal := rest })
    e.after [replyTo .journalTake h .ok
      (.journalTaken e.state.settlement.journal.length e.state.settlement.waiting r)]

def isSettled : JournalRecord → Bool
  | .settled _ => true
  | .cancelled _ => false

/-- JOURNAL COUNT (R170). -/
def journalCount (h : Header) (s : State) : Effect :=
  let j := s.settlement.journal
  answer .journalCount h .ok (.journalCount j.length (j.filter isSettled).length
    (j.filter fun r => !isSettled r).length (Config.journal - j.length) s.settlement.waiting
    s.tables.limits.threshold) s

end Sys2Proof.Machine
end

