-- ==== Sys2Proof/Machine/Baskets.lean ====
section
/-! DEFINITION. Lanes, baskets, lines, coupons, totalling, plan reading, parking and recall (chapter 1, R103,
R104). -/

namespace Sys2Proof.Machine

/-! ### Lanes (R2, R3) -/

/-- LANE OPEN (R2). -/
def laneOpen (h : Header) (s : State) : Effect :=
  onLane .laneOpen h (fun l s =>
    answer .laneOpen h .ok .none (mapLane l (fun r => { r with state := .opened }) s)) s

/-- The active basket number of a lane. -/
def laneActive (l : Nat) (s : State) : Option Nat := (s.basketTable.lanes[l]?).bind Lane.active

/-- The state of a lane; a lane that does not exist is CLOSED. -/
def laneState (l : Nat) (s : State) : LaneState := ((s.basketTable.lanes[l]?).map Lane.state).getD .closed

/-- LANE CLOSE (R2). -/
def laneClose (h : Header) (s : State) : Effect :=
  onLane .laneClose h (fun l s =>
    if (laneActive l s).isSome then refuse .laneClose h .laneBusy s
    else answer .laneClose h .ok .none (mapLane l (fun r => { r with state := .closed }) s)) s

/-- LANE PROFILE (R3). -/
def laneProfile (h : Header) (laneClass maskEntry floorLimit basketLimit : Nat) (s : State) : Effect :=
  onLane .laneProfile h (fun l s =>
    match laneClassOf laneClass with
    | none => refuse .laneProfile h .badField s
    | some c =>
      if 31 < maskEntry ∨ Config.maxMoney < floorLimit ∨ Config.maxMoney < basketLimit then
        refuse .laneProfile h .badField s
      else if (laneActive l s).isSome then refuse .laneProfile h .laneBusy s
      else
        answer .laneProfile h .ok .none
          (mapLane l (fun r => { r with laneClass := c, maskEntry := maskEntry, floorLimit := floorLimit
                                        basketLimit := basketLimit }) s)) s

/-! ### Opening (R7, R8) -/

/-- The number after another; 0 is passed over (R7). -/
def followingNumber (n : Nat) : Nat := if n < 65535 then n + 1 else 1

/-- The first number from `n` on that no non-free context holds, within `fuel` steps (R7). -/
def freeNumber (s : State) : Nat → Nat → Nat
  | 0, n => n
  | fuel + 1, n => if (findBasket n s).isSome then freeNumber s fuel (followingNumber n) else n

/-- The basket a BASKET OPEN makes (section 1.2). -/
def newBasket (n l : Nat) : Basket :=
  { number := n, state := .opened, lane := some l, generation := 0, lines := [], nextLine := 1, coupons := []
    account := none, plan := none, current := false, planSeq := 0, heldOffers := [], parkTime := none
    parkTimer := none, expired := false, outstanding := none, keyingCount := 1 }

/-- BASKET OPEN (R4, R7, R8). -/
def basketOpen (h : Header) (s : State) : Effect :=
  if s.link.mode ≠ .trading then refuse .basketOpen h .wrongMode s
  else
    match laneOf h with
    | none => refuse .basketOpen h .badField s
    | some l =>
      if laneState l s = .closed then refuse .basketOpen h .laneClosed s
      else if (laneActive l s).isSome then refuse .basketOpen h .laneBusy s
      else if Config.contexts ≤ s.basketTable.baskets.length then refuse .basketOpen h .noSlot s
      else
        let n := freeNumber s 21 s.basketTable.nextNumber
        answer .basketOpen h .ok (.half n)
          (mapLane l (fun r => { r with active := some n })
            (s.withBasketTable { s.basketTable with
              baskets := s.basketTable.baskets ++ [newBasket n l]
              nextNumber := followingNumber n }))

/-! ### Lines (R9 to R11, R50) -/

/-- The range that contains an item code (R50). -/
def findRange (item : Nat) (t : Tables) : Option GroupRange :=
  t.ranges.find? fun r => decide (r.first ≤ item) && decide (item ≤ r.last)

/-- The group and permissions a lookup gives: group 0 with both permissions when no range has the code (R50). -/
def lookupItem (item : Nat) (t : Tables) : Nat × Bool × Bool :=
  match findRange item t with
  | some r => (r.group, r.concession, r.earn)
  | none => (0, true, true)

/-- The field checks of LINE ADD (R9). -/
def lineFieldsOk (b : Basket) (item quantity price : Nat) (measured : Bool) : Bool :=
  inRange 1 Config.maxItem item && inRange 1 999 quantity && (!measured || decide (quantity = 1))
    && inRange 1 Config.maxPrice price && decide (quantity * price ≤ Config.maxMoney)
    && decide (linesTotal b.lines + quantity * price ≤ Config.maxMoney)

/-- LINE ADD (R9). -/
def lineAdd (h : Header) (n item quantity price : Nat) (measured concession earn : Bool) (s : State) : Effect :=
  onServed .lineAdd h n (fun _ b s =>
    if !lineFieldsOk b item quantity price measured then refuse .lineAdd h .badField s
    else if Config.liveLines ≤ b.lines.length then refuse .lineAdd h .linesFull s
    else if Config.lineNumbers < b.nextLine then refuse .lineAdd h .lineNumbersUsed s
    else
      let found := lookupItem item s.tables
      let ln : Line :=
        { number := b.nextLine, item := item, group := found.1, quantity := quantity, price := price
          measured := measured, concession := concession && found.2.1, earn := earn && found.2.2 }
      answer .lineAdd h .ok (.lineAdded b.nextLine found.1)
        (ownChange n (mapBasket n (fun b => { b with lines := b.lines ++ [ln], nextLine := b.nextLine + 1 }) s))) s

/-- A line takes a quantity. -/
def setQuantity (line quantity : Nat) (b : Basket) : Basket :=
  { b with lines := b.lines.map fun x => if x.number = line then { x with quantity := quantity } else x }

/-- The line of a basket with this number. -/
def findLine (line : Nat) (b : Basket) : Option Line := b.lines.find? fun x => decide (x.number = line)

/-- LINE QUANTITY taken with a different quantity (R10, R114). -/
def quantityTaken (h : Header) (l n line quantity unitPrice : Nat) (s : State) : Effect :=
  let e := requantify l n line unitPrice quantity (ownChange n (mapBasket n (setQuantity line quantity) s))
  e.after [replyTo .lineQuantity h .ok (.sideNote (hasRecord n line s && !hasRecord n line e.state))]

/-- LINE QUANTITY (R10). -/
def lineQuantity (h : Header) (n line quantity : Nat) (s : State) : Effect :=
  onServed .lineQuantity h n (fun l b s =>
    match findLine line b with
    | none => refuse .lineQuantity h .noLine s
    | some x =>
      if x.measured || !inRange 1 999 quantity || decide (Config.maxMoney < quantity * x.price)
          || decide (Config.maxMoney < linesTotal (setQuantity line quantity b).lines) then
        refuse .lineQuantity h .badField s
      else if quantity = x.quantity then answer .lineQuantity h .ok (.sideNote false) s
      else quantityTaken h l n line quantity x.price s) s

/-- LINE VOID (R11, R113). -/
def lineVoid (h : Header) (n line : Nat) (s : State) : Effect :=
  onServed .lineVoid h n (fun l b s =>
    match findLine line b with
    | none => refuse .lineVoid h .noLine s
    | some _ =>
      (withdrawRecord l n line
        (ownChange n (mapBasket n (fun b =>
          { b with lines := b.lines.filter fun x => decide (x.number ≠ line) }) s))).after
        [replyTo .lineVoid h .ok .none]) s

/-! ### Coupons (R12) -/

/-- COUPON PRESENT (R12). -/
def couponPresent (h : Header) (n key : Nat) (s : State) : Effect :=
  onServed .couponPresent h n (fun _ b s =>
    if key = 0 then refuse .couponPresent h .badField s
    else if b.coupons.contains key then refuse .couponPresent h .duplicate s
    else if Config.coupons ≤ b.coupons.length then refuse .couponPresent h .couponsFull s
    else
      answer .couponPresent h .ok .none
        (ownChange n (mapBasket n (fun b => { b with coupons := b.coupons ++ [key] }) s))) s

/-- COUPON WITHDRAW (R12). -/
def couponWithdraw (h : Header) (n key : Nat) (s : State) : Effect :=
  onServed .couponWithdraw h n (fun _ b s =>
    if !b.coupons.contains key then refuse .couponWithdraw h .noCoupon s
    else
      answer .couponWithdraw h .ok .none
        (ownChange n (mapBasket n (fun b => { b with coupons := b.coupons.filter fun k => decide (k ≠ key) }) s))) s

/-! ### Totalling and reading plans (R16, R103, R104) -/

/-- TOTAL (R16). -/
def total (h : Header) (n : Nat) (s : State) : Effect :=
  onServed .total h n (fun _ b s =>
    match b.state with
    | .opened =>
      nothing (enqueue n (mapBasket n (fun b => { b with state := .totalling, outstanding := some h }) s))
    | .totalling => refuse .total h .evaluating s
    | .totalled =>
      match b.plan with
      | some p => answer .total h .ok (.planSummary p) s
      | none => refuse .total h .planStale s
    | .parked => refuse .total h .basketState s) s

/-- PLAN LINES (R4, R104). -/
def planLines (h : Header) (n start : Nat) (s : State) : Effect :=
  match basketCheck h n s with
  | .error e => refuse .planLines h e s
  | .ok (_, b) =>
    match b.plan with
    | none => refuse .planLines h .basketState s
    | some p =>
      if b.planSeq = 0 then refuse .planLines h .basketState s
      else if p.lines.length < start then refuse .planLines h .badField s
      else
        answer .planLines h .ok
          (.planLines b.planSeq b.current p.lines.length ((p.lines.drop start).take 16) b.heldOffers) s

/-! ### The park list (R17, R20) -/

/-- The basket set aside (R17). -/
def parkBasket (stamp : Stamp) (timer : Nat) (b : Basket) : Basket :=
  { b with state := .parked, lane := none, current := false, parkTime := some stamp, expired := false
           parkTimer := some timer }

/-- PARK (R17). -/
def park (h : Header) (n : Nat) (s : State) : Effect :=
  onServed .park h n (fun l b s =>
    if b.state = .totalling then refuse .park h .evaluating s
    else if (basketRecords n s).any isPending then refuse .park h .overridePending s
    else if (basketHold b s).isSome then refuse .park h .holdActive s
    else if Config.parkPlaces ≤ s.basketTable.parkList.length then refuse .park h .parkFull s
    else
      let s1 := mapLane l (fun r => { r with active := none })
        (mapBasket n (parkBasket s.calendar.now (1000 * s.tables.limits.parkLifetime)) s)
      answer .park h .ok .none
        (s1.withBasketTable { s1.basketTable with parkList := s1.basketTable.parkList ++ [n] })) s

/-- The basket taken up again on a lane (R20); its generation rises (R14). -/
def recallBasket (l : Nat) (b : Basket) : Basket :=
  { b with state := .opened, lane := some l, parkTime := none, expired := false, parkTimer := none
           generation := b.generation + 1 }

/-- RECALL (R20). -/
def recallRequest (h : Header) (n : Nat) (s : State) : Effect :=
  onLane .basketRecall h (fun l s =>
    if laneState l s = .closed then refuse .basketRecall h .laneClosed s
    else if (laneActive l s).isSome then refuse .basketRecall h .laneBusy s
    else if !s.basketTable.parkList.contains n then refuse .basketRecall h .notParked s
    else
      match findBasket n s with
      | none => refuse .basketRecall h .notParked s
      | some b =>
        let s1 := mapLane l (fun r => { r with active := some n }) (mapBasket n (recallBasket l) s)
        let s2 := s1.withBasketTable { s1.basketTable with
          parkList := s1.basketTable.parkList.filter fun m => decide (m ≠ n) }
        let s3 :=
          if b.expired then s2.withSettlement { s2.settlement with waiting := s2.settlement.waiting - 1 } else s2
        answer .basketRecall h .ok (.recalled n (b.generation + 1)) s3) s

end Sys2Proof.Machine
end

