-- ==== Sys2Proof/Machine/Store.lean ====
section
/-! DEFINITION. The Offer Store: the controller, writing and retiring offers, reading, erasing sectors,
suspension and faults (chapter 2). -/

namespace Sys2Proof.Machine

/-! ### The erase set -/

/-- The waiting requests of a sector. -/
def waitingOf (st : OfferStore) (k : Nat) : List Header := (st.waiting[k]?).getD []

/-- The sectors of the erase set, in ascending order. -/
def eraseSet (st : OfferStore) : List Nat := (List.range 8).filter fun k => !(waitingOf st k).isEmpty

/-- The erase of the lowest sector of the set begins, or the controller is READY when the set is empty (R36, R37,
R43). -/
def beginErase (st : OfferStore) : OfferStore :=
  match eraseSet st with
  | [] => { st with controller := .ready, inProgress := none }
  | k :: _ => { st with controller := .erasing, inProgress := some k }

/-- Replies to SECTOR ERASE requests. -/
def eraseReplies (status : Status) (hs : List Header) : List Message :=
  hs.map fun h => replyTo .sectorErase h status .none

/-- The ABANDONED replies to every waiting request of the sectors listed (R38, R42). -/
def abandonedReplies (st : OfferStore) (ks : List Nat) : List Message :=
  ks.flatMap fun k => eraseReplies .abandoned (waitingOf st k)

/-- The erase set emptied and the controller in FAULT (R38, R42). -/
def faulted (st : OfferStore) : OfferStore :=
  { st with waiting := Vector.replicate 8 [], inProgress := none, controller := .fault }

/-! ### Writing and retiring (R29 to R32) -/

/-- The refusal of a program by the controller's state (R29). -/
def programRefusal (c : ControllerState) : Option Status :=
  match c with
  | .fault => some .storeFault
  | .programming => some .storeBusy
  | .gathering => some .storeBusy
  | .erasing => some .storeBusy
  | .suspending => some .storeBusy
  | .programmingInSuspend => some .storeBusy
  | .ready => none
  | .suspended => none

/-- A program begins (R29, R31). -/
def startProgram (p : Program) (st : OfferStore) : OfferStore :=
  { st with
    controller := if st.controller = .suspended then .programmingInSuspend else .programming
    program := some p }

/-- A LIVE slot holds the offer number (R29). -/
def numberLive (st : OfferStore) (n : Nat) : Bool := st.slots.any fun p => decide (liveNumber p.2 = some n)

/-- OFFER WRITE (R29). -/
def offerWrite (h : Header) (slot : Nat) (r : OfferRecord) (s : State) : Effect :=
  if 511 < slot ∨ recordOk r = false then refuse .offerWrite h .badField s
  else
    match programRefusal s.store.controller with
    | some e => refuse .offerWrite h e s
    | none =>
      if isCondemned s.store (sectorOf slot) then refuse .offerWrite h .sectorErasing s
      else if (OfferArray.read s.store.slots slot).isSome then refuse .offerWrite h .notBlank s
      else if numberLive s.store r.number then refuse .offerWrite h .duplicateOffer s
      else nothing (s.withStore (startProgram { slot := slot, job := .offer r, request := h } s.store))

/-- The offer number of a LIVE slot that is not withdrawing (R31). -/
def retirable (st : OfferStore) (slot : Nat) : Option Nat :=
  if st.withdrawing = some slot then none
  else (OfferArray.read st.slots slot).bind liveNumber

/-- The non-free baskets that hold an offer number (R31). -/
def holdingBaskets (offer : Nat) (s : State) : List Nat :=
  (s.basketTable.baskets.filter fun b => b.heldOffers.contains offer).map Basket.number

/-- OFFER RETIRE (R31). -/
def offerRetire (h : Header) (slot : Nat) (s : State) : Effect :=
  if 511 < slot then refuse .offerRetire h .badField s
  else
    match programRefusal s.store.controller with
    | some e => refuse .offerRetire h e s
    | none =>
      if isCondemned s.store (sectorOf slot) then refuse .offerRetire h .sectorErasing s
      else
        match retirable s.store slot with
        | none => refuse .offerRetire h .notLive s
        | some offer =>
          staleClaim (holdingBaskets offer s)
            (s.withStore { startProgram { slot := slot, job := .retire, request := h } s.store with
              withdrawing := some slot })

/-- A program has completed with success: READY, or SUSPENDED again (R30, R32). -/
def programDone (st : OfferStore) : OfferStore :=
  { st with
    controller := if st.controller = .programmingInSuspend then .suspended else .ready
    program := none }

/-- A program has failed: its slot is DAMAGED and the controller in FAULT; in suspension the erasure is abandoned,
with the sector in progress DAMAGED (R30, R32, R42). -/
def programFailed (slot : Nat) (st : OfferStore) : OfferStore :=
  let slots := OfferArray.put slot .damaged st.slots
  let hurt :=
    if st.controller = .programmingInSuspend then
      match st.inProgress with
      | some k => OfferArray.damageSector k slots
      | none => slots
    else slots
  { faulted st with slots := hurt, program := none }

/-- The replies of a failed program: FAILED to its own request, then ABANDONED to the erase set (R42, log 14). -/
def failureReplies (k : RequestKind) (h : Header) (st : OfferStore) : List Message :=
  replyTo k h .failed .none ::
    (if st.controller = .programmingInSuspend then abandonedReplies st (eraseSet st) else [])

/-- The completion of an offer's program (R30); with none in flight nothing completes. -/
def offerProgramCompletion (outcome : StoreOutcome) (s : State) : Effect :=
  match s.store.program with
  | some { slot := slot, job := .offer r, request := h } =>
    match outcome with
    | .success =>
      { state := s.withStore { programDone s.store with
          slots := OfferArray.put slot (.live r (windowMatches s.calendar r)) s.store.slots }
        sent := [replyTo .offerWrite h .ok .none] }
    | .failure =>
      { state := s.withStore (programFailed slot s.store), sent := failureReplies .offerWrite h s.store }
  | some { slot := _, job := .retire, request := _ } => nothing s
  | none => nothing s

/-- The record a slot holds. -/
def slotRecord : Option Slot → Option OfferRecord
  | some (.live r _) => some r
  | some (.retired r) => some r
  | some .damaged => none
  | none => none

/-- The array with the retire mark over a slot's record (R32). -/
def retireSlot (slot : Nat) (a : OfferArray) : OfferArray :=
  match slotRecord (OfferArray.read a slot) with
  | some r => OfferArray.put slot (.retired r) a
  | none => a

/-- The completion of a retire mark's program (R32); with none in flight nothing completes. -/
def retireProgramCompletion (outcome : StoreOutcome) (s : State) : Effect :=
  match s.store.program with
  | some { slot := slot, job := .retire, request := h } =>
    match outcome with
    | .success =>
      { state := s.withStore { programDone s.store with
          slots := retireSlot slot s.store.slots, withdrawing := none }
        sent := [replyTo .offerRetire h .ok .none] }
    | .failure =>
      { state := s.withStore { programFailed slot s.store with withdrawing := none }
        sent := failureReplies .offerRetire h s.store }
  | some { slot := _, job := .offer _, request := _ } => nothing s
  | none => nothing s

/-! ### Reading (R33, R45) -/

/-- OFFER READ (R33). -/
def offerRead (h : Header) (slot : Nat) (s : State) : Effect :=
  if 511 < slot then refuse .offerRead h .badField s
  else
    let c := OfferArray.read s.store.slots slot
    let active :=
      match c with
      | some (.live _ mark) => mark
      | some (.retired _) => false
      | some .damaged => false
      | none => false
    answer .offerRead h .ok
      (.offerRead (slotState c) (decide (s.store.withdrawing = some slot)) active
        (isCondemned s.store (sectorOf slot))
        (decide (s.store.program.map Program.slot = some slot)) (slotRecord c)) s

/-- A LIVE content with its active mark set. -/
def isActive : Slot → Bool
  | .live _ active => active
  | .retired _ => false
  | .damaged => false

/-- What STORE STATUS reports (R45). -/
def storeReport (st : OfferStore) : StoreReport :=
  { controller := st.controller, inProgress := st.inProgress
    waiting := (List.range 8).map fun k => (waitingOf st k).length
    condemned := st.condemned.toList, withdrawing := st.withdrawing
    programming := st.program.map Program.slot, counts := OfferArray.counts st.slots
    active := (st.slots.filter fun p => isActive p.2).length }

/-- STORE STATUS (R45). -/
def storeStatus (h : Header) (s : State) : Effect :=
  answer .storeStatus h .ok (.storeStatus (storeReport s.store)) s

/-! ### Erasing (R34 to R38) -/

/-- A LIVE slot of the sector holds an offer on a non-free basket's held-offer list (R34). -/
def sectorInUse (k : Nat) (s : State) : Bool :=
  s.store.slots.any fun p =>
    decide (sectorOf p.1 = k) &&
      match liveNumber p.2 with
      | some n => s.basketTable.baskets.any fun b => b.heldOffers.contains n
      | none => false

/-- The sector joins the erase set, or its waiting list grows, and the gather timer starts anew (R35). -/
def joinEraseSet (h : Header) (k window : Nat) (st : OfferStore) : OfferStore :=
  { st with
    controller := .gathering
    waiting := st.waiting.setIfInBounds k (waitingOf st k ++ [h])
    condemned := st.condemned.setIfInBounds k true
    gatherTimer := some window }

/-- The refusal of SECTOR ERASE by the controller's state and the sector's waiting list (R34). -/
def eraseRefusal (k : Nat) (st : OfferStore) : Option Status :=
  match st.controller with
  | .fault => some .storeFault
  | .programming => some .storeBusy
  | .erasing => some .storeBusy
  | .suspending => some .storeBusy
  | .suspended => some .storeBusy
  | .programmingInSuspend => some .storeBusy
  | .gathering => if Config.sectorWaiting ≤ (waitingOf st k).length then some .storeBusy else none
  | .ready => none

/-- SECTOR ERASE (R34, R35). -/
def sectorErase (h : Header) (k : Nat) (s : State) : Effect :=
  if 7 < k then refuse .sectorErase h .badField s
  else
    match eraseRefusal k s.store with
    | some e => refuse .sectorErase h e s
    | none =>
      if sectorInUse k s then refuse .sectorErase h .inUse s
      else nothing (s.withStore (joinEraseSet h k s.tables.limits.gatherWindow s.store))

/-- The expiry of the gather timer in GATHERING (R36); a stopped timer does not expire. -/
def gatherTimerExpiry (s : State) : Effect :=
  if s.store.controller = .gathering ∧ s.store.gatherTimer ≠ none then
    nothing (s.withStore (beginErase { s.store with gatherTimer := none }))
  else nothing s

/-- The sector in progress erased: its slots ERASED, its mark clear, out of the set (R37). -/
def sectorErased (k : Nat) (st : OfferStore) : OfferStore :=
  { st with
    slots := OfferArray.eraseSector k st.slots
    condemned := st.condemned.setIfInBounds k false
    waiting := st.waiting.setIfInBounds k []
    inProgress := none }

/-- The replies of a failed erase in the order of R38: FAILED to the sector's waiting requests, ABANDONED to the others,
STORE_FAULT to a suspend.  That the FAILED replies stand in the order of the waiting list is log 27, the model's
reading. -/
def eraseFailureReplies (k : Nat) (st : OfferStore) : List Message :=
  eraseReplies .failed (waitingOf st k)
    ++ abandonedReplies st ((eraseSet st).filter fun j => decide (j ≠ k))
    ++ (match st.suspend with
        | some h => [replyTo .eraseSuspend h .storeFault .none]
        | none => [])

/-- The completion of the erase of the sector in progress (R37, R38); with none in flight nothing completes. -/
def eraseCompletion (outcome : StoreOutcome) (s : State) : Effect :=
  match s.store.inProgress with
  | none => nothing s
  | some k =>
    if s.store.controller ≠ .erasing ∧ s.store.controller ≠ .suspending then nothing s
    else
      match outcome with
      | .success =>
        let st := sectorErased k s.store
        { state := s.withStore (if s.store.controller = .erasing then beginErase st else st)
          sent := eraseReplies .ok (waitingOf s.store k) }
      | .failure =>
        { state := s.withStore { faulted s.store with
            slots := OfferArray.damageSector k s.store.slots, suspend := none }
          sent := eraseFailureReplies k s.store }

/-! ### Suspension (R39 to R43) -/

/-- ERASE SUSPEND (R39). -/
def eraseSuspend (h : Header) (s : State) : Effect :=
  match s.store.controller with
  | .erasing => nothing (s.withStore { s.store with controller := .suspending, suspend := some h })
  | .gathering =>
    answer .eraseSuspend h .ok .none
      (s.withStore { s.store with controller := .suspended, gatherTimer := none, inProgress := none })
  | .suspending => refuse .eraseSuspend h .alreadySuspended s
  | .suspended => refuse .eraseSuspend h .alreadySuspended s
  | .programmingInSuspend => refuse .eraseSuspend h .alreadySuspended s
  | .ready => refuse .eraseSuspend h .notErasing s
  | .programming => refuse .eraseSuspend h .notErasing s
  | .fault => refuse .eraseSuspend h .notErasing s

/-- The completion of a suspend (R40); with none in flight nothing completes. -/
def suspendCompletion (s : State) : Effect :=
  match s.store.controller, s.store.suspend with
  | .suspending, some h =>
    answer .eraseSuspend h .ok .none (s.withStore { s.store with controller := .suspended, suspend := none })
  | _, _ => nothing s

/-- Erasure goes on: the sector in progress, else the lowest of the set, else READY (R43). -/
def resumed (st : OfferStore) : OfferStore :=
  match st.inProgress with
  | some _ => { st with controller := .erasing }
  | none => beginErase st

/-- ERASE RESUME (R43). -/
def eraseResume (h : Header) (s : State) : Effect :=
  if s.store.controller = .suspended then answer .eraseResume h .ok .none (s.withStore (resumed s.store))
  else if s.store.controller = .programmingInSuspend then refuse .eraseResume h .storeBusy s
  else refuse .eraseResume h .notSuspended s

/-- STORE CLEAR FAULT (R44). -/
def storeClearFault (h : Header) (s : State) : Effect :=
  answer .storeClearFault h .ok .none
    (if s.store.controller = .fault then s.withStore { s.store with controller := .ready } else s)

/-! ### Classification at reset (R23) -/

/-- The array as read at reset: the slot of a program in flight and the slots of a sector whose erase had begun
read DAMAGED, and every active mark is computed for the UNSET calendar (R23).  An operation whose completion stays
due is in flight still (log 30). -/
def classify (st : OfferStore) : OfferArray :=
  let programmed :=
    match st.program with
    | some p => OfferArray.put p.slot .damaged st.slots
    | none => st.slots
  let erased :=
    match st.inProgress with
    | some k => OfferArray.damageSector k programmed
    | none => programmed
  OfferArray.mapSlots (remark Calendar.powerOn) erased

end Sys2Proof.Machine
end

