-- ==== Sys2Proof/Machine/Tables.lean ====
section
/-! DEFINITION. The Reference Tables: item group ranges, entitlement masks, tier rates, engine limits and the
store identity (chapter 3). -/

namespace Sys2Proof.Machine

/-! ### Ranges (R47 to R49) -/

/-- Two ranges share a code (R47). -/
def sharesCode (first last : Nat) (r : GroupRange) : Bool := decide (first ≤ r.last) && decide (r.first ≤ last)

/-- A range in its place by first code (R48). -/
def insertRange (r : GroupRange) : List GroupRange → List GroupRange
  | [] => [r]
  | q :: rest => if r.first < q.first then r :: q :: rest else q :: insertRange r rest

/-- How many ranges stand before a first code: the position it takes (R48). -/
def rangePosition (first : Nat) (rs : List GroupRange) : Nat := (rs.filter fun r => decide (r.first < first)).length

/-- GROUP RANGE ADD (R48). -/
def groupRangeAdd (h : Header) (first last group : Nat) (concession earn : Bool) (s : State) : Effect :=
  inMaintenance .groupRangeAdd h (fun s =>
    if !(inRange 1 Config.maxItem first && inRange 1 Config.maxItem last && decide (first ≤ last) && inRange 1 255 group) then
      refuse .groupRangeAdd h .badField s
    else
      match s.tables.ranges.find? (sharesCode first last) with
      | some r => answer .groupRangeAdd h .overlap (.word r.first) s
      | none =>
        if Config.ranges ≤ s.tables.ranges.length then refuse .groupRangeAdd h .tableFull s
        else
          let r : GroupRange := { first := first, last := last, group := group, concession := concession, earn := earn }
          answer .groupRangeAdd h .ok
            (.rangeAdded (rangePosition first s.tables.ranges) (s.tables.ranges.length + 1))
            (s.withTables { s.tables with ranges := insertRange r s.tables.ranges })) s

/-- GROUP RANGE REMOVE (R49). -/
def groupRangeRemove (h : Header) (first : Nat) (s : State) : Effect :=
  inMaintenance .groupRangeRemove h (fun s =>
    if !inRange 1 Config.maxItem first then refuse .groupRangeRemove h .badField s
    else
      match s.tables.ranges.find? fun r => decide (r.first = first) with
      | none => refuse .groupRangeRemove h .noRange s
      | some r =>
        let rest := s.tables.ranges.filter fun q => decide (q.first ≠ first)
        answer .groupRangeRemove h .ok (.rangeRemoved r.last r.group r.concession r.earn rest.length)
          (s.withTables { s.tables with ranges := rest })) s

/-- GROUP TABLE CLEAR (R49). -/
def groupTableClear (h : Header) (s : State) : Effect :=
  inMaintenance .groupTableClear h (fun s =>
    answer .groupTableClear h .ok (.half s.tables.ranges.length)
      (s.withTables { s.tables with ranges := [] })) s

/-! ### Masks (R52 to R54) -/

/-- The active baskets of the lanes whose profile names a mask entry, in ascending lane order (R53). -/
def maskBaskets (entry : Nat) (s : State) : List Nat :=
  s.basketTable.lanes.toList.filterMap fun r => if r.maskEntry = entry then r.active else none

/-- MASK WRITE (R52, R53). -/
def maskWrite (h : Header) (target : Nat) (flags : Flags) (through : Nat) (s : State) : Effect :=
  if 31 < target ∨ 31 < through then refuse .maskWrite h .badField s
  else if maskFixed target then refuse .maskWrite h .readOnly s
  else
    let value := flags &&& maskValue s.tables through
    (staleClaim (maskBaskets target s)
      (s.withTables { s.tables with masks := s.tables.masks.setIfInBounds (target - 1) value })).after
      [replyTo .maskWrite h .ok (.flags value)]

/-- The lanes whose profile names an entry (R54). -/
def maskLanes (entry : Nat) (s : State) : List Lane :=
  s.basketTable.lanes.toList.filter fun r => decide (r.maskEntry = entry)

/-- MASK READ (R54). -/
def maskRead (h : Header) (entry : Nat) (s : State) : Effect :=
  if 31 < entry then refuse .maskRead h .badField s
  else
    answer .maskRead h .ok
      (.maskRead (maskValue s.tables entry) (maskFixed entry) (maskLanes entry s).length
        ((maskLanes entry s).filter fun r => r.active.isSome).length) s

/-! ### Rates, limits, identity (R56, R57, R59) -/

/-- TIER SET (R56). -/
def tierSet (h : Header) (tier rate : Nat) (s : State) : Effect :=
  inMaintenance .tierSet h (fun s =>
    match tierOf tier with
    | none => refuse .tierSet h .badField s
    | some t =>
      if 20 < rate then refuse .tierSet h .badField s
      else
        let rates := s.tables.rates.setIfInBounds (tierIndex t) rate
        answer .tierSet h .ok (.rates rates.toList) (s.withTables { s.tables with rates := rates })) s

/-- A field of LIMITS SET is 0 or in its range (R57). -/
def limitOk (lo hi n : Nat) : Bool := decide (n = 0) || inRange lo hi n

/-- A field of 0 leaves the limit as it is (R57). -/
def newLimit (old n : Nat) : Nat := if n = 0 then old else n

/-- LIMITS SET (R57). -/
def limitsSet (h : Header) (a b c d e f g : Nat) (s : State) : Effect :=
  if limitOk 60 3600 a && limitOk 15 600 b && limitOk 1 7 c && limitOk 300 14400 d && limitOk 5 500 e
      && limitOk 1 128 f && limitOk 1 1000 g then
    let old := s.tables.limits
    let new : Limits :=
      { holdLifetime := newLimit old.holdLifetime a, noticeLimit := newLimit old.noticeLimit b
        presentations := newLimit old.presentations c, parkLifetime := newLimit old.parkLifetime d
        gatherWindow := newLimit old.gatherWindow e, threshold := newLimit old.threshold f
        pointValue := newLimit old.pointValue g }
    answer .limitsSet h .ok (.limits new) (s.withTables { s.tables with limits := new })
  else refuse .limitsSet h .badField s

/-- STORE IDENTITY (R59). -/
def storeIdentity (h : Header) (number : Nat) (s : State) : Effect :=
  if !inRange 1 65535 number then refuse .storeIdentity h .badField s
  else
    match s.tables.identity with
    | some n => answer .storeIdentity h .alreadySet (.half n) s
    | none =>
      answer .storeIdentity h .ok (.half number) (s.withTables { s.tables with identity := some number })

end Sys2Proof.Machine
end

