-- ==== Sys2Proof/Machine/Calendar.lean ====
section
/-! DEFINITION. The Store Calendar: counting time, setting and reading, the minute mark (chapter 4). -/

namespace Sys2Proof.Machine

/-! ### Carries (R61, R62) -/

/-- The date one day on, with the weekday (R62). -/
def nextDay (t : Stamp) : Stamp :=
  let weekday := if t.weekday + 1 = 7 then 0 else t.weekday + 1
  if t.day + 1 ≤ daysInMonth t.year t.month then { t with day := t.day + 1, weekday := weekday }
  else if t.month + 1 ≤ 12 then { t with day := 1, month := t.month + 1, weekday := weekday }
  else { t with day := 1, month := 1, year := t.year + 1, weekday := weekday }

/-- The minute one on, with its carries; the second is kept (R61, R66). -/
def nextMinute (t : Stamp) : Stamp :=
  if t.minute + 1 < 60 then { t with minute := t.minute + 1 }
  else if t.hour + 1 < 24 then { t with minute := 0, hour := t.hour + 1 }
  else nextDay { t with minute := 0, hour := 0 }

/-- The last minute of the calendar's range: 2099-12-31 23:59 (R61, R66). -/
def lastMinute (t : Stamp) : Bool :=
  decide (t.year = 2099) && decide (t.month = 12) && decide (t.day = 31) && decide (t.hour = 23)
    && decide (t.minute = 59)

/-- The fields one second on (R61). -/
def nextSecond (t : Stamp) : Stamp :=
  if t.second + 1 < 60 then { t with second := t.second + 1 }
  else if lastMinute t then t
  else nextMinute { t with second := 0 }

/-- A second event at these fields is a minute rollover (R61). -/
def rollsMinute (t : Stamp) : Bool := !decide (t.second + 1 < 60) && !lastMinute t

/-! ### Second events (R61, R63) -/

/-- The second event (R61); an UNSET calendar takes none.  One that was due takes its second off the phase (log 20). -/
def secondEvent (s : State) : Effect :=
  match s.calendar.state with
  | .unset => nothing s
  | .running =>
    let t := s.withCalendar { s.calendar with now := nextSecond s.calendar.now, phase := s.calendar.phase - 1000 }
    nothing (if rollsMinute s.calendar.now then recheck t else t)

/-- Blocks the second event raises an event to: the Offer Store at a minute rollover (R63). -/
def secondAsks (s : State) : List Block :=
  if s.calendar.state = .running ∧ rollsMinute s.calendar.now = true then [.store] else []

/-! ### Setting (R65) -/

/-- Days from 2000-01-01 to the first of a month of a year. -/
def daysBeforeMonth (year : Nat) : Nat → Nat
  | 0 => 0
  | m + 1 => if m = 0 then 0 else daysBeforeMonth year m + daysInMonth year m

/-- Days from 2000-01-01 to a date (R65): whole years with their leap days, whole months, days. -/
def daysSince2000 (year month day : Nat) : Nat :=
  (year - 2000) * 365 + (year - 2000 + 3) / 4 + daysBeforeMonth year month + (day - 1)

/-- The weekday of a date (R65). -/
def weekdayOf (year month day : Nat) : Nat := (daysSince2000 year month day + 6) % 7

/-- The fields of CALENDAR SET are in range (R65). -/
def calendarFieldsOk (year month day hour minute second : Nat) : Bool :=
  realDay year month day && decide (hour ≤ 23) && decide (minute ≤ 59) && decide (second ≤ 59)

/-- CALENDAR SET (R65); the re-check comes before the reply. -/
def calendarSet (h : Header) (year month day hour minute second : Nat) (s : State) : Effect :=
  if calendarFieldsOk year month day hour minute second then
    let now : Stamp :=
      { year := year, month := month, day := day, weekday := weekdayOf year month day, hour := hour
        minute := minute, second := second }
    answer .calendarSet h .ok (.stamp now) (recheck (s.withCalendar { state := .running, now := now, phase := 0 }))
  else refuse .calendarSet h .badField s

/-- CALENDAR READ (R67). -/
def calendarRead (h : Header) (s : State) : Effect :=
  answer .calendarRead h .ok (.calendarRead s.calendar.state s.calendar.now (minuteOfDay s.calendar.now)) s

/-! ### The minute mark (R66) -/

/-- The fields rounded to the nearest whole minute (R66). -/
def roundMinute (t : Stamp) : Stamp :=
  if t.second ≤ 29 ∨ lastMinute t = true then { t with second := 0 } else nextMinute { t with second := 0 }

/-- MINUTE MARK (R66); the re-check comes before the reply. -/
def minuteMark (h : Header) (s : State) : Effect :=
  match s.calendar.state with
  | .unset => refuse .minuteMark h .calendarUnset s
  | .running =>
    let now := roundMinute s.calendar.now
    answer .minuteMark h .ok (.minuteMark now s.calendar.now.second)
      (recheck (s.withCalendar { s.calendar with now := now, phase := 0 }))

/-- Blocks a MINUTE MARK raises an event to (R66). -/
def minuteAsks (s : State) : List Block := if s.calendar.state = .running then [.store] else []

end Sys2Proof.Machine
end

