-- ==== Sys2Proof/Machine/Layouts.lean ====
section
/-! DEFINITION. Frames and message layouts: the frame check and the frame of R173, the codes of sections 11.2,
11.3 and 11.9, and the bytes of every payload the part sends (sections 11.5 to 11.10, R189, R190). -/

namespace Sys2Proof.Machine

/-! ### The frame check (R173) -/

/-- One bit shifted out of the check register: generator x^16 + x^12 + x^5 + 1. -/
def crcShift (r : BitVec 16) : BitVec 16 := if r.msb then (r <<< 1) ^^^ 0x1021#16 else r <<< 1

/-- One byte fed in, most significant bit first. -/
def crcByte (r : BitVec 16) (b : Byte) : BitVec 16 :=
  crcShift (crcShift (crcShift (crcShift (crcShift (crcShift (crcShift (crcShift
    (r ^^^ (b.setWidth 16 <<< 8)))))))))

/-- The frame check over the length bytes and the body. -/
def frameCheck (bytes : List Byte) : BitVec 16 := bytes.foldl crcByte 0xFFFF#16

/-- The sync byte. -/
def syncByte : Byte := 0xC3#8

/-- A frame around a body. -/
def frameOf (body : List Byte) : List Byte :=
  syncByte :: (le 2 body.length ++ body ++ le 2 (frameCheck (le 2 body.length ++ body)).toNat)

/-- The body of a frame: header and payload (section 11.1). -/
def bodyOf (kind lane tag status : Byte) (payload : List Byte) : List Byte :=
  [kind, lane, tag, status] ++ payload

/-- The frame of a request, with status byte 0 (section 11.1). -/
def requestFrame (k : RequestKind) (h : Header) (payload : List Byte) : List Byte :=
  frameOf (bodyOf k.code h.lane h.tag 0 payload)

/-! ### Codes -/

/-- The status codes (section 11.3). -/
def Status.code : Status → Byte
  | .ok => 0x00
  | .unknownKind => 0x01
  | .badLength => 0x02
  | .queueFull => 0x03
  | .badField => 0x04
  | .wrongMode => 0x05
  | .restarted => 0x06
  | .laneClosed => 0x10
  | .laneBusy => 0x11
  | .noBasket => 0x12
  | .noSlot => 0x13
  | .basketState => 0x14
  | .evaluating => 0x15
  | .linesFull => 0x16
  | .lineNumbersUsed => 0x17
  | .noLine => 0x18
  | .duplicate => 0x19
  | .couponsFull => 0x1A
  | .noCoupon => 0x1B
  | .parkFull => 0x1C
  | .notParked => 0x1D
  | .cancelled => 0x1E
  | .empty => 0x1F
  | .notLoaded => 0x20
  | .accountAttached => 0x21
  | .noAccount => 0x22
  | .holdActive => 0x23
  | .insufficient => 0x24
  | .holdsFull => 0x25
  | .holdsExceed => 0x26
  | .tableFull => 0x27
  | .inUse => 0x28
  | .redeemExceeds => 0x29
  | .planStale => 0x30
  | .overridePending => 0x31
  | .holdLapsed => 0x32
  | .redemptionMismatch => 0x33
  | .journalFull => 0x34
  | .journalEmpty => 0x35
  | .notReduction => 0x38
  | .overrideLimit => 0x39
  | .overridesFull => 0x3A
  | .noOverride => 0x3B
  | .routeBusy => 0x3C
  | .tooLate => 0x3D
  | .storeBusy => 0x40
  | .notBlank => 0x41
  | .notLive => 0x42
  | .sectorErasing => 0x43
  | .storeFault => 0x44
  | .failed => 0x45
  | .abandoned => 0x46
  | .duplicateOffer => 0x47
  | .notErasing => 0x48
  | .notSuspended => 0x49
  | .alreadySuspended => 0x4A
  | .overlap => 0x50
  | .noRange => 0x51
  | .readOnly => 0x52
  | .alreadySet => 0x53
  | .calendarUnset => 0x54
  | .noIdentity => 0x55

def LaneClass.code : LaneClass → Nat
  | .staffed => 0
  | .selfService => 1
  | .tradeCounter => 2
  | .yard => 3

def Tier.code : Tier → Nat
  | .retail => 0
  | .tradeA => 1
  | .tradeB => 2
  | .tradeC => 3
  | .staff => 4

def Reason.code : Reason → Nat
  | .priceMatch => 1
  | .damaged => 2
  | .quote => 3
  | .goodwill => 4

def OverrideOutcome.code : OverrideOutcome → Nat
  | .granted => 1
  | .pending => 2
  | .declined => 3
  | .lapsed => 4

def Cause.code : Cause → Nat
  | .routeClosed => 1
  | .deskDeclined => 2
  | .recalled => 3
  | .deskOff => 4
  | .timedOut => 5
  | .lane => 6

def CancelCause.code : CancelCause → Nat
  | .host => 1
  | .parkExpired => 2

def ResetCause.code : ResetCause → Nat
  | .power => 1
  | .pin => 2

def OfferKind.code : OfferKind → Nat
  | .unitCut => 1
  | .quantityBreak => 2
  | .multiBuy => 3
  | .basketCoupon => 4
  | .pointsBoost => 5

def Mode.code : Mode → Nat
  | .maintenance => 0
  | .trading => 1
  | .quiescing => 2

def CalendarState.code : CalendarState → Nat
  | .unset => 0
  | .running => 1

/-- Controller states in the order of the table in section 2.4. -/
def ControllerState.code : ControllerState → Nat
  | .ready => 0
  | .programming => 1
  | .gathering => 2
  | .erasing => 3
  | .suspending => 4
  | .suspended => 5
  | .programmingInSuspend => 6
  | .fault => 7

def SlotState.code : SlotState → Nat
  | .erased => 0
  | .live => 1
  | .retired => 2
  | .damaged => 3

/-! ### Common fields -/

/-- A mark: 1 set, 0 clear. -/
def markByte (b : Bool) : List Byte := le 1 (if b then 1 else 0)

/-- Several marks as the bits of one byte, bit 0 first; the bits above the last mark are 0 (log 31). -/
def bitsValue : List Bool → Nat
  | [] => 0
  | b :: rest => (if b then 1 else 0) + 2 * bitsValue rest

/-- A calendar stamp, 8 bytes. -/
def stampBytes (t : Stamp) : List Byte :=
  le 2 t.year ++ le 1 t.month ++ le 1 t.day ++ le 1 t.weekday ++ le 1 t.hour ++ le 1 t.minute ++ le 1 t.second

/-- A park time that may be absent: all zeros (R190). -/
def optionalStamp : Option Stamp → List Byte
  | some t => stampBytes t
  | none => le 8 0

/-- An account number; absent is 0. -/
def accountBytes (a : Option Nat) : List Byte := le 5 (a.getD 0)

/-- A one-byte value whose absence is 0xFF: a lane, lane class, desk or sector. -/
def orFF (n : Option Nat) : List Byte := le 1 (n.getD 255)

/-- A two-byte value whose absence is 0xFFFF: a slot or an idle position. -/
def orFFFF (n : Option Nat) : List Byte := le 2 (n.getD 65535)

/-- Bytes followed by zeros up to a size: unused entry places are sent as 0 (R189). -/
def padTo (size : Nat) (bytes : List Byte) : List Byte := bytes ++ List.replicate (size - bytes.length) 0

/-- An item group range's permissions in one byte, concession in bit 0 and earn in bit 1 as GROUP RANGE ADD has them
(section 11.8; for the reply: log 32). -/
def permissionByte (concession earn : Bool) : List Byte := le 1 (bitsValue [concession, earn])

/-! ### Plans (section 11.5) -/

def basketEntryBytes (e : BasketEntry) : List Byte := le 2 e.offer ++ le 1 e.kind.code ++ le 1 0 ++ le 4 e.amount

/-- The plan summary, 102 bytes.  The table of section 11.5 does not name byte 37; it is sent as 0, as a pad byte is
(log 28, the model's reading). -/
def planSummaryBytes (p : Plan) : List Byte :=
  le 2 p.basket ++ le 1 p.seq ++ le 1 p.pendingOverrides ++ stampBytes p.stamp
  ++ le 4 p.gross ++ le 4 p.lineConcessions ++ le 4 p.overrideReductions ++ le 4 p.basketConcessions
  ++ le 4 p.payable ++ le 4 p.points ++ le 1 p.entries.length ++ le 1 0
  ++ padTo 64 (p.entries.flatMap basketEntryBytes)

/-- A plan line entry, 30 bytes. -/
def lineEntryBytes (e : LineEntry) : List Byte :=
  le 1 e.line ++ le 1 e.pairs.length ++ le 4 e.net
  ++ padTo 24 (e.pairs.flatMap fun p => le 2 p.1 ++ le 4 p.2)

/-! ### Journal records (R190) -/

def usedOfferBytes (u : UsedOffer) : List Byte :=
  le 2 u.offer ++ le 1 u.kind.code ++ le 1 0 ++ le 4 u.applications ++ le 4 u.total

/-- The authority byte and the operator id of a granted override. -/
def authorityBytes : Authority → List Byte × List Byte
  | .lane => (le 1 4, le 2 0)
  | .desk d o => (le 1 d, le 2 o)

def journalOverrideBytes (o : JournalOverride) : List Byte :=
  le 1 o.line ++ le 1 o.reason.code ++ (authorityBytes o.authority).1 ++ le 1 0 ++ (authorityBytes o.authority).2
  ++ le 4 o.price ++ le 4 o.reduction

def creditBytes : Option (Nat × Nat × Nat) → List Byte
  | some (earned, balance, lost) => le 4 earned ++ le 4 balance ++ le 4 lost
  | none => le 12 0

def settledBytes (r : SettledRecord) : List Byte :=
  (le 1 1 ++ le 1 r.lane ++ le 1 r.laneClass.code ++ le 1 r.planSeq ++ le 2 r.identity ++ le 2 r.basket
    ++ accountBytes r.account ++ stampBytes r.stamp ++ stampBytes r.planStamp)
  ++ (le 4 r.gross ++ le 4 r.lineConcessions ++ le 4 r.overrideReductions ++ le 4 r.basketConcessions
    ++ le 4 r.payable ++ le 4 r.redeemed ++ le 4 r.redemptionValue ++ le 4 r.amountDue ++ creditBytes r.credit)
  ++ (le 1 r.offers.length ++ le 1 r.overrides.length ++ le 1 r.coupons.length
    ++ r.offers.flatMap usedOfferBytes ++ r.overrides.flatMap journalOverrideBytes ++ r.coupons.flatMap (le 4))

def cancelledBytes (r : CancelledRecord) : List Byte :=
  le 1 2 ++ orFF (r.lane.map Prod.fst) ++ orFF (r.lane.map fun p => p.2.code) ++ le 1 r.cause.code
  ++ le 2 r.identity ++ le 2 r.basket ++ accountBytes r.account ++ stampBytes r.stamp ++ optionalStamp r.parkTime

/-- A journal record as JOURNAL TAKE sends it. -/
def journalRecordBytes : JournalRecord → List Byte
  | .settled r => settledBytes r
  | .cancelled r => cancelledBytes r

/-! ### Payloads (sections 11.7, 11.9, 11.10) -/

def settleReportBytes (r : SettleReport) : List Byte :=
  le 2 r.basket ++ le 1 r.planSeq ++ markByte r.balance.isSome ++ le 4 r.payable ++ le 4 r.redeemed
  ++ le 4 r.redemptionValue ++ le 4 r.amountDue ++ le 4 r.points ++ le 4 (r.balance.getD 0) ++ le 1 r.records
  ++ le 1 0

def deskPlaceBytes (p : DeskNoticePlace) : List Byte :=
  le 1 p.lane ++ le 1 p.tag.toNat ++ le 2 p.basket ++ le 1 p.line ++ le 1 0 ++ le 2 p.seconds

def holdPlaceBytes (p : HoldPlace) : List Byte :=
  le 2 p.basket ++ le 1 p.lane ++ le 1 0 ++ le 4 p.points ++ le 2 p.seconds ++ le 2 0

def accountReportBytes (r : AccountReport) : List Byte :=
  le 5 r.account.number ++ le 1 r.account.tier.code ++ le 2 r.account.flags.toNat ++ le 4 r.account.balance
  ++ le 4 r.heldTotal ++ le 4 r.available ++ le 1 r.account.refs ++ orFFFF r.idlePosition ++ le 2 r.entries
  ++ le 2 r.idleEntries ++ le 1 r.holds.length ++ padTo 48 (r.holds.flatMap holdPlaceBytes)

def slotCountBytes (c : SlotCounts) : List Byte :=
  le 2 c.erased ++ le 2 c.live ++ le 2 c.retired ++ le 2 c.damaged

def storeReportBytes (r : StoreReport) : List Byte :=
  le 1 r.controller.code ++ orFF r.inProgress ++ le 1 (bitsValue (r.waiting.map fun n => decide (n ≠ 0)))
  ++ le 1 (bitsValue r.condemned) ++ r.waiting.flatMap (le 1) ++ orFFFF r.withdrawing ++ orFFFF r.programming
  ++ slotCountBytes r.counts ++ le 2 r.active

/-- The seven limits, laid out as in the request. -/
def limitBytes (l : Limits) : List Byte :=
  le 2 l.holdLifetime ++ le 2 l.noticeLimit ++ le 1 l.presentations ++ le 2 l.parkLifetime ++ le 2 l.gatherWindow
  ++ le 1 l.threshold ++ le 2 l.pointValue

def engineReportBytes (r : EngineReport) : List Byte :=
  (le 1 r.mode.code ++ le 1 r.calendar.code ++ le 1 r.controller.code ++ markByte r.identity.isSome
    ++ le 2 (r.identity.getD 0) ++ le 1 r.cause.code)
  ++ (le 1 r.openLanes ++ le 1 r.baskets ++ le 1 r.parked ++ le 1 r.expired ++ le 1 r.queued ++ le 1 r.running
    ++ le 1 r.overrides ++ le 1 r.notices)
  ++ (le 2 r.accounts ++ le 1 r.holds ++ le 1 r.journal ++ le 1 r.waiting ++ le 1 r.requests ++ le 1 r.transmit
    ++ le 2 r.frameErrors ++ le 2 r.refusalsLost)

/-- The DESK NOTICE payload, 28 bytes (section 11.7). -/
def deskNoticeBytes (n : DeskNotice) : List Byte :=
  le 1 n.desk ++ le 1 n.tag.toNat ++ le 1 n.code ++ le 1 n.line ++ le 2 n.basket ++ le 2 n.seq ++ le 4 n.item
  ++ le 2 n.quantity ++ le 4 n.shelfPrice ++ le 4 n.price ++ le 1 n.reason.code ++ le 1 n.count ++ le 4 n.reduction

def outcomeBytes (n : OutcomeNotice) : List Byte :=
  le 2 n.basket ++ le 1 n.line ++ le 1 n.outcome.code ++ le 2 n.seq ++ le 1 ((n.cause.map Cause.code).getD 0)
  ++ orFF n.desk ++ le 2 n.operator ++ le 4 n.authorised ++ le 1 n.count ++ le 1 0

/-- A presentation tag that may be absent: its mark byte, then the tag or 0. -/
def tagBytes (t : Option (BitVec 8)) : List Byte := markByte t.isSome ++ le 1 ((t.map BitVec.toNat).getD 0)

/-- An offer record, or 64 zeros for none. -/
def optionalRecord : Option OfferRecord → List Byte
  | some r => recordBytes r
  | none => le 64 0

/-- The payload bytes of a reply or a notice. -/
def Payload.bytes : Payload → List Byte
  | .none => []
  | .byte n => le 1 n
  | .half n => le 2 n
  | .word n => le 4 n
  | .lineAdded line group => le 1 line ++ le 1 group
  | .sideNote withdrawn => markByte withdrawn
  | .planSummary plan => planSummaryBytes plan
  | .planLines seq current count entries held =>
    le 1 seq ++ markByte current ++ le 1 count ++ le 1 entries.length ++ entries.flatMap lineEntryBytes
    ++ le 1 held.length ++ held.flatMap (le 2)
  | .recalled basket generation => le 2 basket ++ le 2 generation.toNat
  | .overrideKeyed outcome seq reduction =>
    le 1 outcome.code ++ le 1 (if outcome = .declined then Cause.routeClosed.code else 0) ++ le 2 seq ++ le 4 reduction
  | .redeemed points value lifetime available => le 4 points ++ le 4 value ++ le 2 lifetime ++ le 4 available
  | .settled report => settleReportBytes report
  | .settleExceeds payable value => le 4 payable ++ le 4 value
  | .decided basket line seq => le 2 basket ++ le 1 line ++ le 1 0 ++ le 2 seq
  | .tooLate tag => tagBytes tag
  | .deskDuty onDuty n => markByte onDuty ++ le 1 n
  | .deskStatus onDuty openCount shown ruled places =>
    markByte onDuty ++ le 1 openCount ++ le 2 shown.toNat ++ le 2 ruled.toNat
    ++ padTo 64 (places.flatMap deskPlaceBytes)
  | .routeMask masked inProgress => markByte masked ++ markByte inProgress
  | .accountLoaded created evicted available refs =>
    le 1 (if created then 1 else 2) ++ accountBytes evicted ++ le 4 available ++ le 1 refs
  | .accountRead report => accountReportBytes report
  | .offerRead state withdrawing active condemned programming record =>
    le 1 state.code ++ le 1 (bitsValue [withdrawing, active, condemned, programming])
    ++ optionalRecord record
  | .storeStatus report => storeReportBytes report
  | .rangeAdded position held => le 2 position ++ le 2 held
  | .rangeRemoved last group concession earn left =>
    le 4 last ++ le 1 group ++ permissionByte concession earn ++ le 2 left
  | .flags value => le 2 value.toNat
  | .maskRead value fixed lanes active => le 2 value.toNat ++ markByte fixed ++ le 1 lanes ++ le 1 active
  | .rates rs => rs.flatMap (le 1)
  | .limits l => limitBytes l
  | .stamp t => stampBytes t
  | .calendarRead state t minute => le 1 state.code ++ stampBytes t ++ le 2 minute
  | .minuteMark t before => stampBytes t ++ le 1 before
  | .tradingStarted identity openLanes => le 2 identity ++ le 1 openLanes
  | .tradingStopped mode baskets parked expired => le 1 mode.code ++ le 1 baskets ++ le 1 parked ++ le 1 expired
  | .restarted cleared parked totals => le 1 cleared ++ le 1 parked ++ le 1 totals
  | .engineStatus report => engineReportBytes report
  | .journalTaken count waiting record => le 1 count ++ le 1 waiting ++ journalRecordBytes record
  | .journalCount count sold ended free waiting threshold =>
    le 1 count ++ le 1 sold ++ le 1 ended ++ le 1 free ++ le 1 waiting ++ le 1 threshold
  | .engineStarted cause mode counts => le 1 cause.code ++ le 1 mode.code ++ slotCountBytes counts
  | .deskNotice notice => deskNoticeBytes notice
  | .noticeWithdrawn desk tag line cause basket =>
    le 1 desk ++ le 1 tag.toNat ++ le 1 line ++ le 1 cause.code ++ le 2 basket
  | .overrideOutcome notice => outcomeBytes notice
  | .planStale basket generation seq => le 2 basket ++ le 2 generation.toNat ++ le 1 seq
  | .holdLapsed basket account points => le 2 basket ++ le 5 account ++ le 4 points
  | .parkExpired basket account parkTime => le 2 basket ++ accountBytes account ++ optionalStamp parkTime
  | .journalWaiting count waiting threshold => le 1 count ++ le 1 waiting ++ le 1 threshold

/-! ### Messages -/

/-- The kind byte of a message: a reply's is its request's plus 0x80, a notice's its own, and a link refusal's the
one received (R176, R189, log 12). -/
def MessageKind.byte : MessageKind → Byte
  | .reply k => k.code + 0x80#8
  | .notice k => k.code
  | .linkRefusal c => c

/-- The frame a message is sent as (R173, R179). -/
def Message.frame (m : Message) : List Byte :=
  frameOf (bodyOf m.kind.byte m.lane m.tag m.status.code m.payload.bytes)

end Sys2Proof.Machine
end

