-- ==== Sys2Proof/Machine/Link.lean ====
section
/-! DEFINITION. The Link Controller: received bytes, link refusals, the transmit queue, modes, RESTART, engine
status, and power-on and pin reset (chapter 10). -/

namespace Sys2Proof.Machine

/-! ### Receiving (R174 to R176) -/

/-- The receiver's bytes set; none while hunting. -/
def setReceiver (bytes : List Byte) (s : State) : State := s.withLink { s.link with receiver := bytes }

/-- A frame with a wrong check is counted (R175). -/
def countFrameError (s : State) : State := s.withLink { s.link with frameErrors := countUp s.link.frameErrors }

/-- A good frame's body judged (R176): its kind, its payload length, then room on the request queue. -/
def judgeFrame (body : List Byte) (s : State) : State :=
  let h : Header := { lane := byteAt body 1, tag := byteAt body 2 }
  match RequestKind.ofCode (byteAt body 0) with
  | none => refuseFrame (byteAt body 0) h .unknownKind s
  | some k =>
    if (body.drop 4).length ≠ k.payloadLength then refuseFrame (byteAt body 0) h .badLength s
    else if Config.requestQueue ≤ s.link.requests.length then refuseFrame (byteAt body 0) h .queueFull s
    else s.withLink { s.link with requests := s.link.requests ++ [decodeRequest k h (body.drop 4)] }

/-- A length that no frame has (R173, R174). -/
def badBodyLength (n : Nat) : Bool := decide (n < 4) || decide (1020 < n)

/-- The bytes after a sync byte hold a whole frame whose check agrees (R174). -/
def checkAgrees (n : Nat) (bytes : List Byte) : Bool :=
  decide (field bytes (n + 2) 2 = (frameCheck (bytes.take (n + 2))).toNat)

/-- The receiver over the bytes it has (R174, R175): `skip` bytes belong to a frame already judged; then it hunts
for a sync byte, abandons a bad length, waits for a frame that is not whole, judges a good frame, and counts and
discards a frame with a wrong check, looking again from the byte after its sync byte. -/
def receive : Nat → List Byte → State → State
  | _, [], s => setReceiver [] s
  | skip + 1, _ :: rest, s => receive skip rest s
  | 0, b :: rest, s =>
    if b ≠ syncByte then receive 0 rest s
    else if rest.length < 2 then setReceiver (b :: rest) s
    else if badBodyLength (field rest 0 2) then receive 0 rest s
    else if rest.length < field rest 0 2 + 4 then setReceiver (b :: rest) s
    else if checkAgrees (field rest 0 2) rest then
      receive (field rest 0 2 + 4) rest (judgeFrame ((rest.drop 2).take (field rest 0 2)) s)
    else receive 0 rest (countFrameError s)

/-! ### Sending (R179) -/

/-- The message at the head of the transmit queue has been sent. -/
def messageSent (s : State) : State :=
  match s.link.transmit with
  | [] => s
  | m :: rest => s.withLink { s.link with transmit := rest, lastFrame := m.frame }

/-- The earliest held message joins the transmit queue when a place is free. -/
def heldMessageJoin (s : State) : State :=
  match s.link.held with
  | [] => s
  | x :: rest =>
    if s.link.transmit.length < Config.transmitQueue then
      s.withLink { s.link with transmit := s.link.transmit ++ [x.message], held := rest }
    else s

/-! ### Modes (R182, R183) -/

/-- The count of OPEN lanes. -/
def openLanes (s : State) : Nat := (s.basketTable.lanes.toList.filter fun r => decide (r.state = .opened)).length

/-- The count of parked baskets. -/
def parkedBaskets (s : State) : Nat := (s.basketTable.baskets.filter fun b => decide (b.state = .parked)).length

/-- The count of baskets with the expired mark. -/
def expiredBaskets (s : State) : Nat := (s.basketTable.baskets.filter fun b => b.expired).length

/-- TRADING START (R182). -/
def tradingStart (h : Header) (s : State) : Effect :=
  if s.link.mode ≠ .maintenance then refuse .tradingStart h .wrongMode s
  else if s.calendar.state = .unset then refuse .tradingStart h .calendarUnset s
  else
    match s.tables.identity with
    | none => refuse .tradingStart h .noIdentity s
    | some n => answer .tradingStart h .ok (.tradingStarted n (openLanes s)) (s.withMode .trading)

/-- The mode a TRADING STOP leaves (R183). -/
def modeAfterStop (s : State) : Mode :=
  if s.link.mode = .trading then (if s.basketTable.baskets = [] then .maintenance else .quiescing) else s.link.mode

/-- TRADING STOP (R183). -/
def tradingStop (h : Header) (s : State) : Effect :=
  if s.link.mode = .maintenance then refuse .tradingStop h .wrongMode s
  else
    answer .tradingStop h .ok
      (.tradingStopped (modeAfterStop s) s.basketTable.baskets.length (parkedBaskets s) (expiredBaskets s))
      (s.withMode (modeAfterStop s))

/-! ### RESTART (R186) -/

/-- The RESTARTED replies to outstanding TOTALs, in ascending lane order. -/
def restartedReplies (s : State) : List Message :=
  allLanes.flatMap fun l =>
    (s.basketTable.baskets.filter fun b => decide (b.lane = some l)).flatMap (totalReply .restarted .none)

/-- The Basket Table after RESTART: no baskets, no parking, lanes CLOSED with their profiles, and the next number
kept (R1, R5). -/
def BasketTable.restarted (t : BasketTable) : BasketTable :=
  { lanes := t.lanes.map fun r => { r with state := .closed, active := none }
    baskets := [], nextNumber := t.nextNumber, parkList := [] }

/-- The evaluator after RESTART: an empty queue, and running units that will drop their results (R77). -/
def Evaluator.restarted (e : Evaluator) : Evaluator :=
  { queue := [], units := e.units.map fun u => u.map fun r => { r with discard := true } }

/-- The router after RESTART: routes masked with nothing presented, no open notices (R122). -/
def Router.restarted (r : Router) : Router :=
  { routes := r.routes.map fun q => { q with masked := true, presented := none }
    desks := r.desks.map fun d => { d with openCount := 0 } }

/-- The state RESTART leaves (R186). -/
def restartedState (s : State) : State :=
  { (s.withMode .maintenance) with
    basketTable := s.basketTable.restarted
    evaluator := s.evaluator.restarted
    overrides := []
    router := s.router.restarted
    accounts := AccountTable.powerOn
    settlement := { s.settlement with waiting := 0 } }

/-- RESTART (R186). -/
def restart (h : Header) (s : State) : Effect :=
  { state := restartedState s
    sent := restartedReplies s ++
      [replyTo .restart h .ok
        (.restarted s.basketTable.baskets.length (parkedBaskets s) (restartedReplies s).length)] }

/-! ### Engine status (R188) -/

/-- What ENGINE STATUS reports. -/
def engineReport (s : State) : EngineReport :=
  { mode := s.link.mode, calendar := s.calendar.state, controller := s.store.controller
    identity := s.tables.identity, cause := s.link.resetCause
    openLanes := openLanes s, baskets := s.basketTable.baskets.length, parked := parkedBaskets s
    expired := expiredBaskets s
    queued := s.evaluator.queue.length, running := (s.evaluator.units.toList.filter Option.isSome).length
    overrides := s.overrides.length
    notices := (s.router.routes.toList.filter fun r => r.presented.isSome).length
    accounts := s.accounts.entries.length, holds := (s.accounts.entries.map fun e => e.holds.length).sum
    journal := s.settlement.journal.length, waiting := s.settlement.waiting
    requests := s.link.requests.length, transmit := s.link.transmit.length
    frameErrors := s.link.frameErrors, refusalsLost := s.link.refusalsLost }

/-- Both link counts at 0. -/
def clearCounts (s : State) : State := s.withLink { s.link with frameErrors := 0, refusalsLost := 0 }

/-- ENGINE STATUS (R188). -/
def engineStatus (h : Header) (clear : Nat) (s : State) : Effect :=
  match switchOf clear with
  | none => refuse .engineStatus h .badField s
  | some on =>
    answer .engineStatus h .ok (.engineStatus (engineReport s)) (if on then clearCounts s else s)

/-! ### Power-on and pin reset (R181, R187) -/

/-- The Link Controller after a reset, ENGINE STARTED placed and the receiver hunting (R181, R187). -/
def LinkController.started (cause : ResetCause) (straps : Straps) (counts : SlotCounts) : LinkController :=
  { mode := .maintenance, receiver := [], requests := []
    transmit := [noticeTo .engineStarted none (.engineStarted cause .maintenance counts)]
    held := [], due := [], frameErrors := 0, refusalsLost := 0, resetCause := cause, straps := straps
    lastFrame := [] }

/-- Every block at its power-on values over the offer slots as classified; the model's queue of commands is kept
(R1, R5, R23, R46, R60, R77, R106, R122, R142, R160, R181, log 22). -/
def resetState (cause : ResetCause) (straps : Straps) (s : State) : State :=
  { link := LinkController.started cause straps (OfferArray.counts (classify s.store))
    basketTable := BasketTable.powerOn
    evaluator := Evaluator.powerOn
    store := OfferStore.powerOn (classify s.store)
    calendar := Calendar.powerOn
    tables := Tables.powerOn
    overrides := []
    router := Router.powerOn
    accounts := AccountTable.powerOn
    settlement := Settlement.powerOn
    pending := s.pending }

end Sys2Proof.Machine
end

