-- ==== Sys2Proof/Machine/Events.lean ====
section
/-! DEFINITION. Events: the effect of each, the blocks it touches, the blocks that wait, and taking an event
(R177, R179). -/

namespace Sys2Proof.Machine

/-! ### What an event does -/

/-- The effect of an event on the state without its request; resets and the link's own work are no events of a block. -/
def runOf : Instr → State → Effect
  | .powerOn _ | .pinReset _ | .frameReceived _ | .messageSent | .heldMessageJoin => nothing
  | .laneOpen h => laneOpen h
  | .laneClose h => laneClose h
  | .laneProfile h laneClass maskEntry floorLimit basketLimit =>
    laneProfile h laneClass maskEntry floorLimit basketLimit
  | .basketOpen h => basketOpen h
  | .lineAdd h basket item quantity price measured concession earn =>
    lineAdd h basket item quantity price measured concession earn
  | .lineQuantity h basket line quantity => lineQuantity h basket line quantity
  | .lineVoid h basket line => lineVoid h basket line
  | .couponPresent h basket key => couponPresent h basket key
  | .couponWithdraw h basket key => couponWithdraw h basket key
  | .accountAttach h basket account => accountAttach h basket account
  | .accountDetach h basket => accountDetach h basket
  | .total h basket => total h basket
  | .planLines h basket start => planLines h basket start
  | .park h basket => park h basket
  | .basketRecall h basket => recallRequest h basket
  | .cancel h basket => cancel h basket
  | .overrideKey h basket line price reason => overrideKey h basket line price reason
  | .overrideWithdraw h basket line => overrideWithdraw h basket line
  | .redeem h basket points => redeem h basket points
  | .redeemRelease h basket => redeemRelease h basket
  | .settle h basket expected => settle h basket expected
  | .authorise h desk tag operator => authorise h desk tag operator
  | .decline h desk tag operator => decline h desk tag operator
  | .deskDuty h desk duty => deskDuty h desk duty
  | .deskRecall h code => deskRecall h code
  | .deskStatus h desk => deskStatus h desk
  | .routeSet h desk mode code => routeSet h desk mode code
  | .routeMask h setting => routeMask h setting
  | .accountLoad h account tier flags balance => accountLoad h account tier flags balance
  | .accountEvict h account => accountEvict h account
  | .accountRead h account => accountRead h account
  | .offerWrite h slot record => offerWrite h slot record
  | .offerRetire h slot => offerRetire h slot
  | .offerRead h slot => offerRead h slot
  | .sectorErase h sector => sectorErase h sector
  | .eraseSuspend h => eraseSuspend h
  | .eraseResume h => eraseResume h
  | .storeStatus h => storeStatus h
  | .storeClearFault h => storeClearFault h
  | .groupRangeAdd h first last group concession earn => groupRangeAdd h first last group concession earn
  | .groupRangeRemove h first => groupRangeRemove h first
  | .groupTableClear h => groupTableClear h
  | .maskWrite h target flags through => maskWrite h target flags through
  | .maskRead h entry => maskRead h entry
  | .tierSet h tier rate => tierSet h tier rate
  | .limitsSet h a b c d e f g => limitsSet h a b c d e f g
  | .storeIdentity h number => storeIdentity h number
  | .calendarSet h year month day hour minute second => calendarSet h year month day hour minute second
  | .calendarRead h => calendarRead h
  | .minuteMark h => minuteMark h
  | .tradingStart h => tradingStart h
  | .tradingStop h => tradingStop h
  | .restart h => restart h
  | .engineStatus h clear => engineStatus h clear
  | .journalTake h => journalTake h
  | .journalCount h => journalCount h
  | .parkTimerExpiry basket => parkTimerExpiry basket
  | .holdTimerExpiry basket => holdTimerExpiry basket
  | .noticeTimerExpiry lane => noticeTimerExpiry lane
  | .gatherTimerExpiry => gatherTimerExpiry
  | .secondEvent => secondEvent
  | .evaluationCompletion unit => evaluationCompletion unit
  | .offerProgramCompletion outcome => offerProgramCompletion outcome
  | .retireProgramCompletion outcome => retireProgramCompletion outcome
  | .eraseCompletion outcome => eraseCompletion outcome
  | .suspendCompletion => suspendCompletion

/-- Blocks to which an event raises an event: the Offer Store, for a re-check (R63). -/
def asksOf (c : Instr) (s : State) : List Block :=
  match c with
  | .calendarSet _ year month day hour minute second =>
    if calendarFieldsOk year month day hour minute second then [.store] else []
  | .minuteMark _ => minuteAsks s
  | .secondEvent => secondAsks s
  | _ => []

/-- An event touches the block that takes it, a block to which it raises an event, and a block whose state it
changes (R179, log 4). -/
def touches (c : Instr) (s : State) (b : Block) : Bool :=
  decide (ownerOf c = some b) || (asksOf c s).contains b || ownedDiffers b s (runOf c (leaveQueue c s)).state

/-! ### Waiting blocks (R179) -/

/-- Blocks that wait, given the blocks `kept` so far and the due events that follow.  A due event that touches a kept
block stays, and its own block waits with it.  A due event that touches none comes before any later event of the blocks
it touches: those that kept it have resumed. -/
def waitingOver (s : State) : List Block → List Instr → List Block
  | kept, [] => kept
  | kept, c :: after =>
    if kept.any (touches c s) then waitingOver s (kept ++ (ownerOf c).toList) after
    else Block.all.filter (touches c s) ++ waitingOver s kept after

/-- The blocks that wait: those that hold messages, and those that events which stay due keep. -/
def waitingBlocks (s : State) : List Block := waitingOver s (s.link.held.map HeldMessage.owner) s.link.due

/-- Whether a block waits. -/
def waits (b : Block) (s : State) : Bool := (waitingBlocks s).contains b

/-! ### Taking an event (R177, R179) -/

/-- An event comes.  A request that would overtake its stream waits on the request queue (R177); an event that touches
a waiting block stays due (R179), unless it cannot come about (log 2); else its block takes it. -/
def takeEvent (c : Instr) (s : State) : State :=
  if overtakes c s then waitOnQueue c s
  else if (waitingBlocks s).any (touches c s) then
    if fallsDue c s then stayDue c s else s
  else place ((ownerOf c).getD .link) (runOf c (leaveQueue c s)).sent (runOf c (leaveQueue c s)).state

end Sys2Proof.Machine
end

