-- ==== Sys2Proof/Machine/Meanings.lean ====
section
/-! DEFINITION. The meaning of each command: a command of a block is an event that the block takes as `takeEvent` says,
with the effect that `runOf` names; resets and the link's own work on frames and messages act at once. -/

namespace Sys2Proof.Machine

/-! ### Lanes, baskets, lines, totalling, parking (chapter 1) -/

def execLaneOpen (h : Header) (s : State) : Host.Outcome State Fault Refusal :=
  .next (takeEvent (.laneOpen h) s)

def execLaneClose (h : Header) (s : State) : Host.Outcome State Fault Refusal :=
  .next (takeEvent (.laneClose h) s)

def execLaneProfile (h : Header) (laneClass maskEntry floorLimit basketLimit : Nat) (s : State) :
    Host.Outcome State Fault Refusal :=
  .next (takeEvent (.laneProfile h laneClass maskEntry floorLimit basketLimit) s)

def execBasketOpen (h : Header) (s : State) : Host.Outcome State Fault Refusal :=
  .next (takeEvent (.basketOpen h) s)

def execLineAdd (h : Header) (basket item quantity price : Nat) (measured concession earn : Bool) (s : State) :
    Host.Outcome State Fault Refusal :=
  .next (takeEvent (.lineAdd h basket item quantity price measured concession earn) s)

def execLineQuantity (h : Header) (basket line quantity : Nat) (s : State) : Host.Outcome State Fault Refusal :=
  .next (takeEvent (.lineQuantity h basket line quantity) s)

def execLineVoid (h : Header) (basket line : Nat) (s : State) : Host.Outcome State Fault Refusal :=
  .next (takeEvent (.lineVoid h basket line) s)

def execCouponPresent (h : Header) (basket key : Nat) (s : State) : Host.Outcome State Fault Refusal :=
  .next (takeEvent (.couponPresent h basket key) s)

def execCouponWithdraw (h : Header) (basket key : Nat) (s : State) : Host.Outcome State Fault Refusal :=
  .next (takeEvent (.couponWithdraw h basket key) s)

def execTotal (h : Header) (basket : Nat) (s : State) : Host.Outcome State Fault Refusal :=
  .next (takeEvent (.total h basket) s)

def execPlanLines (h : Header) (basket start : Nat) (s : State) : Host.Outcome State Fault Refusal :=
  .next (takeEvent (.planLines h basket start) s)

def execPark (h : Header) (basket : Nat) (s : State) : Host.Outcome State Fault Refusal :=
  .next (takeEvent (.park h basket) s)

def execRecall (h : Header) (basket : Nat) (s : State) : Host.Outcome State Fault Refusal :=
  .next (takeEvent (.basketRecall h basket) s)

/-! ### Accounts and holds (chapter 8) -/

def execAccountLoad (h : Header) (account tier : Nat) (flags : Flags) (balance : Nat) (s : State) :
    Host.Outcome State Fault Refusal :=
  .next (takeEvent (.accountLoad h account tier flags balance) s)

def execAccountEvict (h : Header) (account : Nat) (s : State) : Host.Outcome State Fault Refusal :=
  .next (takeEvent (.accountEvict h account) s)

def execAccountRead (h : Header) (account : Nat) (s : State) : Host.Outcome State Fault Refusal :=
  .next (takeEvent (.accountRead h account) s)

def execAccountAttach (h : Header) (basket account : Nat) (s : State) : Host.Outcome State Fault Refusal :=
  .next (takeEvent (.accountAttach h basket account) s)

def execAccountDetach (h : Header) (basket : Nat) (s : State) : Host.Outcome State Fault Refusal :=
  .next (takeEvent (.accountDetach h basket) s)

def execRedeem (h : Header) (basket points : Nat) (s : State) : Host.Outcome State Fault Refusal :=
  .next (takeEvent (.redeem h basket points) s)

def execRedeemRelease (h : Header) (basket : Nat) (s : State) : Host.Outcome State Fault Refusal :=
  .next (takeEvent (.redeemRelease h basket) s)

def execHoldTimerExpiry (basket : Nat) (s : State) : Host.Outcome State Fault Refusal :=
  .next (takeEvent (.holdTimerExpiry basket) s)

/-! ### Price overrides (chapter 6) -/

def execOverrideKey (h : Header) (basket line price reason : Nat) (s : State) : Host.Outcome State Fault Refusal :=
  .next (takeEvent (.overrideKey h basket line price reason) s)

def execOverrideWithdraw (h : Header) (basket line : Nat) (s : State) : Host.Outcome State Fault Refusal :=
  .next (takeEvent (.overrideWithdraw h basket line) s)

/-! ### Settlement, cancellation, the journal (chapter 9, R18, R21) -/

def execCancel (h : Header) (basket : Nat) (s : State) : Host.Outcome State Fault Refusal :=
  .next (takeEvent (.cancel h basket) s)

def execSettle (h : Header) (basket expected : Nat) (s : State) : Host.Outcome State Fault Refusal :=
  .next (takeEvent (.settle h basket expected) s)

def execJournalTake (h : Header) (s : State) : Host.Outcome State Fault Refusal :=
  .next (takeEvent (.journalTake h) s)

def execJournalCount (h : Header) (s : State) : Host.Outcome State Fault Refusal :=
  .next (takeEvent (.journalCount h) s)

def execParkTimerExpiry (basket : Nat) (s : State) : Host.Outcome State Fault Refusal :=
  .next (takeEvent (.parkTimerExpiry basket) s)

/-! ### Presentations, decisions, routes, desks (chapter 7) -/

def execAuthorise (h : Header) (desk : Nat) (tag : Byte) (operator : Nat) (s : State) :
    Host.Outcome State Fault Refusal :=
  .next (takeEvent (.authorise h desk tag operator) s)

def execDecline (h : Header) (desk : Nat) (tag : Byte) (operator : Nat) (s : State) :
    Host.Outcome State Fault Refusal :=
  .next (takeEvent (.decline h desk tag operator) s)

def execDeskDuty (h : Header) (desk duty : Nat) (s : State) : Host.Outcome State Fault Refusal :=
  .next (takeEvent (.deskDuty h desk duty) s)

def execDeskRecall (h : Header) (code : Nat) (s : State) : Host.Outcome State Fault Refusal :=
  .next (takeEvent (.deskRecall h code) s)

def execDeskStatus (h : Header) (desk : Nat) (s : State) : Host.Outcome State Fault Refusal :=
  .next (takeEvent (.deskStatus h desk) s)

def execRouteSet (h : Header) (desk mode code : Nat) (s : State) : Host.Outcome State Fault Refusal :=
  .next (takeEvent (.routeSet h desk mode code) s)

def execRouteMask (h : Header) (setting : Nat) (s : State) : Host.Outcome State Fault Refusal :=
  .next (takeEvent (.routeMask h setting) s)

def execNoticeTimerExpiry (lane : Nat) (s : State) : Host.Outcome State Fault Refusal :=
  .next (takeEvent (.noticeTimerExpiry lane) s)

/-! ### The Offer Store (chapter 2) -/

def execOfferWrite (h : Header) (slot : Nat) (record : OfferRecord) (s : State) : Host.Outcome State Fault Refusal :=
  .next (takeEvent (.offerWrite h slot record) s)

def execOfferRetire (h : Header) (slot : Nat) (s : State) : Host.Outcome State Fault Refusal :=
  .next (takeEvent (.offerRetire h slot) s)

def execOfferRead (h : Header) (slot : Nat) (s : State) : Host.Outcome State Fault Refusal :=
  .next (takeEvent (.offerRead h slot) s)

def execSectorErase (h : Header) (sector : Nat) (s : State) : Host.Outcome State Fault Refusal :=
  .next (takeEvent (.sectorErase h sector) s)

def execEraseSuspend (h : Header) (s : State) : Host.Outcome State Fault Refusal :=
  .next (takeEvent (.eraseSuspend h) s)

def execEraseResume (h : Header) (s : State) : Host.Outcome State Fault Refusal :=
  .next (takeEvent (.eraseResume h) s)

def execStoreStatus (h : Header) (s : State) : Host.Outcome State Fault Refusal :=
  .next (takeEvent (.storeStatus h) s)

def execStoreClearFault (h : Header) (s : State) : Host.Outcome State Fault Refusal :=
  .next (takeEvent (.storeClearFault h) s)

def execGatherTimerExpiry (s : State) : Host.Outcome State Fault Refusal :=
  .next (takeEvent .gatherTimerExpiry s)

def execOfferProgramCompletion (outcome : StoreOutcome) (s : State) : Host.Outcome State Fault Refusal :=
  .next (takeEvent (.offerProgramCompletion outcome) s)

def execRetireProgramCompletion (outcome : StoreOutcome) (s : State) : Host.Outcome State Fault Refusal :=
  .next (takeEvent (.retireProgramCompletion outcome) s)

def execEraseCompletion (outcome : StoreOutcome) (s : State) : Host.Outcome State Fault Refusal :=
  .next (takeEvent (.eraseCompletion outcome) s)

def execSuspendCompletion (s : State) : Host.Outcome State Fault Refusal :=
  .next (takeEvent .suspendCompletion s)

/-! ### The Reference Tables (chapter 3) -/

def execGroupRangeAdd (h : Header) (first last group : Nat) (concession earn : Bool) (s : State) :
    Host.Outcome State Fault Refusal :=
  .next (takeEvent (.groupRangeAdd h first last group concession earn) s)

def execGroupRangeRemove (h : Header) (first : Nat) (s : State) : Host.Outcome State Fault Refusal :=
  .next (takeEvent (.groupRangeRemove h first) s)

def execGroupTableClear (h : Header) (s : State) : Host.Outcome State Fault Refusal :=
  .next (takeEvent (.groupTableClear h) s)

def execMaskWrite (h : Header) (target : Nat) (flags : Flags) (through : Nat) (s : State) :
    Host.Outcome State Fault Refusal :=
  .next (takeEvent (.maskWrite h target flags through) s)

def execMaskRead (h : Header) (entry : Nat) (s : State) : Host.Outcome State Fault Refusal :=
  .next (takeEvent (.maskRead h entry) s)

def execTierSet (h : Header) (tier rate : Nat) (s : State) : Host.Outcome State Fault Refusal :=
  .next (takeEvent (.tierSet h tier rate) s)

def execLimitsSet (h : Header) (a b c d e f g : Nat) (s : State) : Host.Outcome State Fault Refusal :=
  .next (takeEvent (.limitsSet h a b c d e f g) s)

def execStoreIdentity (h : Header) (number : Nat) (s : State) : Host.Outcome State Fault Refusal :=
  .next (takeEvent (.storeIdentity h number) s)

/-! ### The Store Calendar (chapter 4) -/

def execCalendarSet (h : Header) (year month day hour minute second : Nat) (s : State) :
    Host.Outcome State Fault Refusal :=
  .next (takeEvent (.calendarSet h year month day hour minute second) s)

def execCalendarRead (h : Header) (s : State) : Host.Outcome State Fault Refusal :=
  .next (takeEvent (.calendarRead h) s)

def execMinuteMark (h : Header) (s : State) : Host.Outcome State Fault Refusal :=
  .next (takeEvent (.minuteMark h) s)

def execSecondEvent (s : State) : Host.Outcome State Fault Refusal :=
  .next (takeEvent .secondEvent s)

/-! ### Evaluation (chapter 5) -/

def execEvaluationCompletion (unit : Nat) (s : State) : Host.Outcome State Fault Refusal :=
  .next (takeEvent (.evaluationCompletion unit) s)

/-! ### The message link, modes and resets (chapter 10) -/

def execPowerOn (straps : Straps) (s : State) : Host.Outcome State Fault Refusal := .next (resetState .power straps s)

def execPinReset (straps : Straps) (s : State) : Host.Outcome State Fault Refusal := .next (resetState .pin straps s)

def execFrameReceived (bytes : List Byte) (s : State) : Host.Outcome State Fault Refusal :=
  .next (receive 0 (s.link.receiver ++ bytes) s)

def execMessageSent (s : State) : Host.Outcome State Fault Refusal := .next (messageSent s)

def execHeldMessageJoin (s : State) : Host.Outcome State Fault Refusal := .next (heldMessageJoin s)

def execTradingStart (h : Header) (s : State) : Host.Outcome State Fault Refusal :=
  .next (takeEvent (.tradingStart h) s)

def execTradingStop (h : Header) (s : State) : Host.Outcome State Fault Refusal :=
  .next (takeEvent (.tradingStop h) s)

def execRestart (h : Header) (s : State) : Host.Outcome State Fault Refusal :=
  .next (takeEvent (.restart h) s)

def execEngineStatus (h : Header) (clear : Nat) (s : State) : Host.Outcome State Fault Refusal :=
  .next (takeEvent (.engineStatus h clear) s)

end Sys2Proof.Machine
end

