-- ==== Sys2Proof/Machine/Dispatch.lean ====
section
/-! DEFINITION. The meaning of each command: one arm per row of spec/opcode_table.json, in its order. -/

namespace Sys2Proof.Machine

def exec (i : Instr) (s : State) : Host.Outcome State Fault Refusal :=
  match i with
  | .powerOn straps => Sys2Proof.Machine.execPowerOn straps s
  | .pinReset straps => Sys2Proof.Machine.execPinReset straps s
  | .frameReceived bytes => Sys2Proof.Machine.execFrameReceived bytes s
  | .messageSent => Sys2Proof.Machine.execMessageSent s
  | .heldMessageJoin => Sys2Proof.Machine.execHeldMessageJoin s
  | .laneOpen h => Sys2Proof.Machine.execLaneOpen h s
  | .laneClose h => Sys2Proof.Machine.execLaneClose h s
  | .laneProfile h laneClass maskEntry floorLimit basketLimit => Sys2Proof.Machine.execLaneProfile h laneClass maskEntry floorLimit basketLimit s
  | .basketOpen h => Sys2Proof.Machine.execBasketOpen h s
  | .lineAdd h basket item quantity price measured concession earn => Sys2Proof.Machine.execLineAdd h basket item quantity price measured concession earn s
  | .lineQuantity h basket line quantity => Sys2Proof.Machine.execLineQuantity h basket line quantity s
  | .lineVoid h basket line => Sys2Proof.Machine.execLineVoid h basket line s
  | .couponPresent h basket key => Sys2Proof.Machine.execCouponPresent h basket key s
  | .couponWithdraw h basket key => Sys2Proof.Machine.execCouponWithdraw h basket key s
  | .accountAttach h basket account => Sys2Proof.Machine.execAccountAttach h basket account s
  | .accountDetach h basket => Sys2Proof.Machine.execAccountDetach h basket s
  | .total h basket => Sys2Proof.Machine.execTotal h basket s
  | .planLines h basket start => Sys2Proof.Machine.execPlanLines h basket start s
  | .park h basket => Sys2Proof.Machine.execPark h basket s
  | .basketRecall h basket => Sys2Proof.Machine.execRecall h basket s
  | .cancel h basket => Sys2Proof.Machine.execCancel h basket s
  | .overrideKey h basket line price reason => Sys2Proof.Machine.execOverrideKey h basket line price reason s
  | .overrideWithdraw h basket line => Sys2Proof.Machine.execOverrideWithdraw h basket line s
  | .redeem h basket points => Sys2Proof.Machine.execRedeem h basket points s
  | .redeemRelease h basket => Sys2Proof.Machine.execRedeemRelease h basket s
  | .settle h basket expected => Sys2Proof.Machine.execSettle h basket expected s
  | .authorise h desk tag operator => Sys2Proof.Machine.execAuthorise h desk tag operator s
  | .decline h desk tag operator => Sys2Proof.Machine.execDecline h desk tag operator s
  | .deskDuty h desk duty => Sys2Proof.Machine.execDeskDuty h desk duty s
  | .deskRecall h code => Sys2Proof.Machine.execDeskRecall h code s
  | .deskStatus h desk => Sys2Proof.Machine.execDeskStatus h desk s
  | .routeSet h desk mode code => Sys2Proof.Machine.execRouteSet h desk mode code s
  | .routeMask h setting => Sys2Proof.Machine.execRouteMask h setting s
  | .accountLoad h account tier flags balance => Sys2Proof.Machine.execAccountLoad h account tier flags balance s
  | .accountEvict h account => Sys2Proof.Machine.execAccountEvict h account s
  | .accountRead h account => Sys2Proof.Machine.execAccountRead h account s
  | .offerWrite h slot record => Sys2Proof.Machine.execOfferWrite h slot record s
  | .offerRetire h slot => Sys2Proof.Machine.execOfferRetire h slot s
  | .offerRead h slot => Sys2Proof.Machine.execOfferRead h slot s
  | .sectorErase h sector => Sys2Proof.Machine.execSectorErase h sector s
  | .eraseSuspend h => Sys2Proof.Machine.execEraseSuspend h s
  | .eraseResume h => Sys2Proof.Machine.execEraseResume h s
  | .storeStatus h => Sys2Proof.Machine.execStoreStatus h s
  | .storeClearFault h => Sys2Proof.Machine.execStoreClearFault h s
  | .groupRangeAdd h first last group concession earn => Sys2Proof.Machine.execGroupRangeAdd h first last group concession earn s
  | .groupRangeRemove h first => Sys2Proof.Machine.execGroupRangeRemove h first s
  | .groupTableClear h => Sys2Proof.Machine.execGroupTableClear h s
  | .maskWrite h target flags through => Sys2Proof.Machine.execMaskWrite h target flags through s
  | .maskRead h entry => Sys2Proof.Machine.execMaskRead h entry s
  | .tierSet h tier rate => Sys2Proof.Machine.execTierSet h tier rate s
  | .limitsSet h holdLifetime noticeLimit presentations parkLifetime gatherWindow threshold pointValue => Sys2Proof.Machine.execLimitsSet h holdLifetime noticeLimit presentations parkLifetime gatherWindow threshold pointValue s
  | .storeIdentity h number => Sys2Proof.Machine.execStoreIdentity h number s
  | .calendarSet h year month day hour minute second => Sys2Proof.Machine.execCalendarSet h year month day hour minute second s
  | .calendarRead h => Sys2Proof.Machine.execCalendarRead h s
  | .minuteMark h => Sys2Proof.Machine.execMinuteMark h s
  | .tradingStart h => Sys2Proof.Machine.execTradingStart h s
  | .tradingStop h => Sys2Proof.Machine.execTradingStop h s
  | .restart h => Sys2Proof.Machine.execRestart h s
  | .engineStatus h clear => Sys2Proof.Machine.execEngineStatus h clear s
  | .journalTake h => Sys2Proof.Machine.execJournalTake h s
  | .journalCount h => Sys2Proof.Machine.execJournalCount h s
  | .parkTimerExpiry basket => Sys2Proof.Machine.execParkTimerExpiry basket s
  | .holdTimerExpiry basket => Sys2Proof.Machine.execHoldTimerExpiry basket s
  | .noticeTimerExpiry lane => Sys2Proof.Machine.execNoticeTimerExpiry lane s
  | .gatherTimerExpiry => Sys2Proof.Machine.execGatherTimerExpiry s
  | .secondEvent => Sys2Proof.Machine.execSecondEvent s
  | .evaluationCompletion unit => Sys2Proof.Machine.execEvaluationCompletion unit s
  | .offerProgramCompletion outcome => Sys2Proof.Machine.execOfferProgramCompletion outcome s
  | .retireProgramCompletion outcome => Sys2Proof.Machine.execRetireProgramCompletion outcome s
  | .eraseCompletion outcome => Sys2Proof.Machine.execEraseCompletion outcome s
  | .suspendCompletion => Sys2Proof.Machine.execSuspendCompletion s

end Sys2Proof.Machine
end

