-- ==== Sys2Proof/Machine/Idle.lean ====
section
/-! DEFINITION. What the part does of itself when no command is waiting (log 1): an event that stays due is
taken as soon as it can be (R179), else a request of the request queue is delivered (R177), else one millisecond
passes on every running timer. -/

namespace Sys2Proof.Machine

/-! ### Time -/

/-- One millisecond off a running timer. -/
def tickTimer (t : Option Nat) : Option Nat := t.map fun k => k - 1

/-- One millisecond on the calendar's position within the second; the second event is a command of its own. -/
def tickPhase (c : Calendar) : Calendar :=
  match c.state with
  | .unset => c
  | .running => { c with phase := if c.phase % 1000 = 999 then c.phase else c.phase + 1 }

/-- One millisecond on every timer. -/
def tick (s : State) : State :=
  { s with
    basketTable := { s.basketTable with
      baskets := s.basketTable.baskets.map fun b => { b with parkTimer := tickTimer b.parkTimer } }
    store := { s.store with gatherTimer := tickTimer s.store.gatherTimer }
    calendar := tickPhase s.calendar
    router := { s.router with
      routes := s.router.routes.map fun r =>
        { r with presented := r.presented.map fun p => { p with timer := p.timer - 1 } } }
    accounts := { s.accounts with
      entries := s.accounts.entries.map fun e =>
        { e with holds := e.holds.map fun x => { x with timer := x.timer - 1 } } } }

/-! ### Events that stay due, and requests (R177, R179) -/

/-- The due events that another event has left no longer due leave the list. -/
def dropStopped (s : State) : State := withDue (s.link.due.filter fun c => stillDue c s) s

/-- The state after a due event is taken, when it can be: `before` are the events that fell due before it and
`after` those behind it. -/
def takeDueEvent (before : List Instr) (c : Instr) (after : List Instr) (s : State) : Option State :=
  match exec c (withDue before s) with
  | .next t =>
    if t.link.due.length ≤ before.length then some (dropStopped (withDue (t.link.due ++ after) t)) else none
  | .fault _ => none
  | .refused _ => none

/-- The first due event that can be taken, in the order they fell due. -/
def takeDue : List Instr → List Instr → State → Option State
  | _, [], _ => none
  | before, c :: after, s =>
    match takeDueEvent before c after s with
    | some t => some t
    | none => takeDue (before ++ [c]) after s

/-- The state after a queued request is delivered: its block takes it, or it stays due with its block; none for a
request that waits on the queue. -/
def deliver (c : Instr) (s : State) : Option State :=
  match exec c s with
  | .next t => if t = s then none else some t
  | .fault _ => none
  | .refused _ => none

/-- The first request of a list that can be delivered. -/
def deliverFirst : List Instr → State → Option State
  | [], _ => none
  | c :: rest, s =>
    match deliver c s with
    | some t => some t
    | none => deliverFirst rest s

/-- The part's own next step. -/
def idle (s : State) : State :=
  match takeDue [] s.link.due s with
  | some t => t
  | none =>
    match deliverFirst s.link.requests s with
    | some t => t
    | none => tick s

end Sys2Proof.Machine
end

