-- ==== Sys2Proof/Safety.lean ====
section
/-! DEFINITION. What the statements are about: when a command is taken at once, the request a command is, and the
relations the spec says the part keeps at all times. -/

namespace Sys2Proof.Machine

/-! ### A command taken at once (R177, R179) -/

/-- Nothing is held for want of a place on the transmit queue, no event stays due, and the command, when it is a
request, is the oldest of its delivery stream. -/
def Unhindered (c : Instr) (s : State) : Prop :=
  s.link.held = [] ∧ s.link.due = [] ∧ overtakes c s = false

/-- Block `b` takes the command at `s`, leaves the state `t` and places the messages `ms`. -/
def Takes (c : Instr) (b : Block) (s t : State) (ms : List Message) : Prop := exec c s = .next (place b ms t)

/-- Block `b` takes the request and refuses it: the state stays as it was, but the request leaves the request
queue. -/
def Refuses (c : Instr) (b : Block) (k : RequestKind) (h : Header) (status : Status) (s : State) : Prop :=
  Takes c b s (leaveQueue c s) [replyTo k h status .none]

/-! ### Layouts (chapter 11) -/

/-- Fields one after another, each of a size in bytes and a value, least significant byte first. -/
def fields (fs : List (Nat × Nat)) : List Byte := fs.flatMap fun f => le f.1 f.2

/-- A calendar stamp as fields. -/
def stampFields (t : Stamp) : List (Nat × Nat) :=
  [(2, t.year), (1, t.month), (1, t.day), (1, t.weekday), (1, t.hour), (1, t.minute), (1, t.second)]

/-! ### Basket requests (R4) -/

/-- A basket request that steps 1 to 3 of R4 test: its kind and the basket it names. -/
def basketRequest : Instr → Option (RequestKind × Nat)
  | .lineAdd _ n _ _ _ _ _ _ => some (.lineAdd, n)
  | .lineQuantity _ n _ _ => some (.lineQuantity, n)
  | .lineVoid _ n _ => some (.lineVoid, n)
  | .couponPresent _ n _ => some (.couponPresent, n)
  | .couponWithdraw _ n _ => some (.couponWithdraw, n)
  | .accountAttach _ n _ => some (.accountAttach, n)
  | .accountDetach _ n => some (.accountDetach, n)
  | .total _ n => some (.total, n)
  | .planLines _ n _ => some (.planLines, n)
  | .park _ n => some (.park, n)
  | .overrideKey _ n _ _ _ => some (.overrideKey, n)
  | .overrideWithdraw _ n _ => some (.overrideWithdraw, n)
  | .redeem _ n _ => some (.redeem, n)
  | .redeemRelease _ n => some (.redeemRelease, n)
  | .settle _ n _ => some (.settle, n)
  | _ => none

/-- A request that passes steps 1 to 4 of R4: basket `b`, number `n`, is active on the header lane `l`. -/
def Served (h : Header) (n l : Nat) (b : Basket) (s : State) : Prop :=
  s.link.mode ≠ .maintenance ∧ laneOf h = some l ∧ findBasket n s = some b ∧ b.state ≠ .parked ∧ b.lane = some l

/-- The number some steps after another in the order of R7. -/
def numberAfter : Nat → Nat → Nat
  | 0, n => n
  | k + 1, n => numberAfter k (followingNumber n)

/-! ### Relations kept at all times -/

/-- The capacities of the Introduction (R6, R105, R142, R160, R175, R176, R179). -/
def WithinCapacity (s : State) : Prop :=
  s.link.requests.length ≤ 32 ∧ s.link.transmit.length ≤ 64
  ∧ s.link.frameErrors ≤ 65535 ∧ s.link.refusalsLost ≤ 65535
  ∧ s.basketTable.baskets.length ≤ 20 ∧ s.basketTable.parkList.length ≤ 8
  ∧ s.overrides.length ≤ 96 ∧ s.settlement.journal.length ≤ 128

/-- The offer array is in its canonical form, over slots 0 to 511; a program and an erase in flight name a slot and
a sector that exist (R22). -/
def StoreOrdered (s : State) : Prop :=
  OfferArray.wf s.store.slots = true
  ∧ (∀ p, s.store.program = some p → p.slot < 512)
  ∧ (∀ k, s.store.inProgress = some k → k < 8)

/-- The range table: at most 256 ranges in ascending order that never share a code, each within the fields' values
(R47). -/
def RangesOrdered (s : State) : Prop :=
  s.tables.ranges.length ≤ 256
  ∧ s.tables.ranges.Pairwise (fun q r => q.last < r.first)
  ∧ ∀ r ∈ s.tables.ranges, 1 ≤ r.first ∧ r.first ≤ r.last ∧ r.last ≤ 999999999 ∧ 1 ≤ r.group ∧ r.group ≤ 255

/-- The account table and the idle list (R142 to R144): at most 256 entries, no number twice; the idle list holds
each entry of reference count 0 once; on each entry at most four holds, no basket twice, whose points together
never exceed the balance. -/
def AccountsCovered (s : State) : Prop :=
  s.accounts.entries.length ≤ 256
  ∧ (s.accounts.entries.map Account.number).Nodup
  ∧ s.accounts.idle.Nodup
  ∧ (∀ a, a ∈ s.accounts.idle ↔ ∃ e ∈ s.accounts.entries, e.number = a ∧ e.refs = 0)
  ∧ ∀ e ∈ s.accounts.entries,
      heldTotal e ≤ e.balance ∧ e.balance ≤ 99999999 ∧ e.holds.length ≤ 4 ∧ (e.holds.map Hold.basket).Nodup

/-- Accounts and the baskets attached to them (R143, R152): every basket's account is in the table; an entry's reference
count is the number of baskets attached to it; each hold belongs to a basket that is not parked, is attached to the
entry and stands on the hold's lane. -/
def AccountsAttached (s : State) : Prop :=
  (∀ b ∈ s.basketTable.baskets, ∀ a, b.account = some a → ∃ e ∈ s.accounts.entries, e.number = a)
  ∧ ∀ e ∈ s.accounts.entries,
      e.refs = (s.basketTable.baskets.filter fun b => decide (b.account = some e.number)).length
      ∧ ∀ x ∈ e.holds, ∃ b ∈ s.basketTable.baskets, b.number = x.basket ∧ b.state ≠ .parked
          ∧ b.account = some e.number ∧ b.lane = some x.lane

/-- The expired-parked waiting count (R19, R169): it is the number of baskets with the expired mark, each of them
parked with its timer stopped, and while it is above 0 the journal is full. -/
def ExpiredCounted (s : State) : Prop :=
  (∀ b ∈ s.basketTable.baskets, b.expired = true → b.state = .parked ∧ b.parkTimer = none)
  ∧ s.settlement.waiting = (s.basketTable.baskets.filter fun b => b.expired).length
  ∧ (0 < s.settlement.waiting → 128 ≤ s.settlement.journal.length)

/-- Lanes, baskets and the park list agree (R6): no number twice; a parked basket has no lane and stands on the
park list; any other names the lane that names it as its active basket. -/
def BasketsAgree (s : State) : Prop :=
  (s.basketTable.baskets.map Basket.number).Nodup
  ∧ s.basketTable.baskets.length ≤ 20
  ∧ s.basketTable.parkList.Nodup
  ∧ s.basketTable.parkList.length ≤ 8
  ∧ (1 ≤ s.basketTable.nextNumber ∧ s.basketTable.nextNumber ≤ 65535)
  ∧ (∀ b ∈ s.basketTable.baskets, 1 ≤ b.number ∧ b.number ≤ 65535)
  ∧ (∀ b ∈ s.basketTable.baskets, b.state = .parked ↔ b.number ∈ s.basketTable.parkList)
  ∧ (∀ n ∈ s.basketTable.parkList, ∃ b ∈ s.basketTable.baskets, b.number = n)
  ∧ (∀ b ∈ s.basketTable.baskets, b.state = .parked → b.lane = none)
  ∧ (∀ b ∈ s.basketTable.baskets, b.state ≠ .parked →
      ∃ l r, b.lane = some l ∧ s.basketTable.lanes[l]? = some r ∧ r.active = some b.number)
  ∧ (∀ l r n, s.basketTable.lanes[l]? = some r → r.active = some n →
      ∃ b ∈ s.basketTable.baskets, b.number = n ∧ b.lane = some l)

/-- The baskets on the evaluation queue and in the units whose discard mark is clear (R78). -/
def evaluating (s : State) : List Nat :=
  s.evaluator.queue ++ s.evaluator.units.toList.filterMap fun u =>
    match u with
    | some r => if r.discard then none else some r.basket
    | none => none

/-- The evaluation queue and the running units without a discard mark (R78, R79): no basket twice, and each is a
TOTALLING basket. -/
def EvaluationsAgree (s : State) : Prop :=
  (evaluating s).Nodup ∧ ∀ n ∈ evaluating s, ∃ b ∈ s.basketTable.baskets, b.number = n ∧ b.state = .totalling

/-- How many routes have a notice presented to a desk. -/
def noticesAt (desk : Nat) (s : State) : Nat :=
  (s.router.routes.toList.filter fun r =>
    match r.presented with
    | some p => decide (p.desk = desk)
    | none => false).length

/-- Each desk's open count equals the number of notices presented to it and never exceeds 8 (R123). -/
def DesksAgree (s : State) : Prop :=
  ∀ d k, s.router.desks[d]? = some k → k.openCount = noticesAt d s ∧ k.openCount ≤ 8

/-- A plan's identity: payable is gross less the three kinds of reduction (R94). -/
def Plan.balanced (p : Plan) : Prop :=
  p.payable + p.lineConcessions + p.overrideReductions + p.basketConcessions = p.gross

/-- What R105 and section 1.2 give every snapshot: no line number twice, and a granted override asks no more than its
line's unit price. -/
def Snapshot.sound (snap : Snapshot) : Prop :=
  (snap.lines.map Line.number).Nodup
  ∧ ∀ l ∈ snap.lines, ∀ o, overrideFor snap l.number = some o → o.granted = true → o.price ≤ l.price

/-- Lines and override records agree (R9, R105, R108): on each basket no line number twice, and all below the next
one; at most one record for a line, each on a live line of a basket that exists, asking less than its unit price, with
the reduction of its present quantity, and within what was authorised when GRANTED.  Every running unit's snapshot is
sound. -/
def OverridesAgree (s : State) : Prop :=
  (∀ b ∈ s.basketTable.baskets, (b.lines.map Line.number).Nodup ∧ ∀ x ∈ b.lines, x.number < b.nextLine)
  ∧ (s.overrides.map fun r => (r.basket, r.line)).Nodup
  ∧ (∀ r ∈ s.overrides, ∃ b ∈ s.basketTable.baskets, b.number = r.basket
      ∧ ∃ x ∈ b.lines, x.number = r.line ∧ r.price < x.price ∧ r.reduction = (x.price - r.price) * x.quantity
        ∧ ∀ who most, r.state = .granted who most → r.reduction ≤ most)
  ∧ ∀ (u : Nat) (r : RunningUnit), s.evaluator.units[u]? = some (some r) → r.snapshot.sound

/-- Presented records and routes agree (R105, R123): what a route has presented is a record of a basket on the route's
lane, with the presented mark set and the same keying number; a record with the mark set is what the route of its
basket's lane has presented; and no basket has more than 8 records. -/
def PresentationsAgree (s : State) : Prop :=
  (∀ (l : Nat) (q : Route) (p : Presentation), s.router.routes[l]? = some q → q.presented = some p →
    (∃ b ∈ s.basketTable.baskets, b.number = p.basket ∧ b.lane = some l)
    ∧ ∃ r ∈ s.overrides, r.basket = p.basket ∧ r.line = p.line ∧ r.seq = p.seq ∧ isPresented r = true)
  ∧ (∀ r ∈ s.overrides, isPresented r = true → ∃ b ∈ s.basketTable.baskets, b.number = r.basket
      ∧ ∃ (l : Nat) (q : Route) (p : Presentation), b.lane = some l ∧ s.router.routes[l]? = some q
        ∧ q.presented = some p ∧ p.basket = r.basket ∧ p.line = r.line)
  ∧ ∀ n, (s.overrides.filter fun r => decide (r.basket = n)).length ≤ 8

/-- Every basket's line total, and that of every running unit's snapshot, is within 99,999,999 (R9), and every
installed plan keeps the identity of R94 with a gross in that range. -/
def PlansBalanced (s : State) : Prop :=
  (∀ b ∈ s.basketTable.baskets, linesTotal b.lines ≤ 99999999
    ∧ ∀ p, b.plan = some p → p.balanced ∧ p.gross ≤ 99999999)
  ∧ ∀ (u : Nat) (r : RunningUnit), s.evaluator.units[u]? = some (some r) → linesTotal r.snapshot.lines ≤ 99999999

/-- The calendar shows a real day of 2000 to 2099 with its weekday and a time of that day (R60, R62, R65). -/
def CalendarReal (s : State) : Prop :=
  realDay s.calendar.now.year s.calendar.now.month s.calendar.now.day = true
  ∧ s.calendar.now.weekday = weekdayOf s.calendar.now.year s.calendar.now.month s.calendar.now.day
  ∧ s.calendar.now.hour ≤ 23 ∧ s.calendar.now.minute ≤ 59 ∧ s.calendar.now.second ≤ 59

end Sys2Proof.Machine
end

