-- ==== Sys2Proof/Certificates/Slice0/Obligations.lean ====
section
/-! DEFINITION. The statements about the model, from the numbered rules of the spec. -/

open Sys2Proof Sys2Proof.Machine

/-! ### Steps, reset and the link -/

/-- A step takes the command at the front of the queue and runs its meaning on the rest; with no command waiting the
part takes its own next step (log 1). -/
def Obligations.StepRunsFrontCommand : Prop :=
  ∀ s : State,
    (∀ c rest, s.pending = c :: rest → step s = exec c { s with pending := rest })
    ∧ (s.pending = [] → step s = .next (idle s))

/-- With no command waiting, an event that stays due is taken first, in the order they fell due (R179), and the events
behind it stay due but for expiries whose timer it stopped or started anew (R136, R156) and second events when it
restarted the second phase (R65, R66; log 20 counts the due ones in the phase, 1000 each); with none due the request at
the head of the request queue is delivered (R177): its block takes it, or it stays due with its block; with nothing at
all waiting one millisecond passes on every running timer and on the position within the second, which stops at 999, and
nothing else changes (logs 1 and 20: the model's own time base). -/
def Obligations.IdleStep : Prop :=
  (∀ s t c rest, s.pending = [] → s.link.due = c :: rest →
    exec c (s.withLink { s.link with due := [] }) = .next t → t.link.due = [] →
    step s = .next (t.withLink { t.link with due := rest.filter fun e => stillDue e t }))
  ∧ (∀ (n : Nat) (t : State),
    (stillDue (.noticeTimerExpiry n) t = true ↔ ∃ p, presentationOf n t = some p ∧ p.timer = 0)
    ∧ (stillDue (.holdTimerExpiry n) t = true ↔
        ∃ x, ((t.accounts.entries.flatMap Account.holds).find? fun x => decide (x.basket = n)) = some x ∧ x.timer = 0)
    ∧ (stillDue (.parkTimerExpiry n) t = true ↔ ∃ b, findBasket n t = some b ∧ b.parkTimer = some 0)
    ∧ (stillDue .gatherTimerExpiry t = true ↔ t.store.gatherTimer = some 0)
    ∧ (stillDue .secondEvent t = true ↔ t.calendar.state = .running ∧ 1000 ≤ t.calendar.phase))
  ∧ (∀ (s : State) (h : Header) (c : Instr) (rest : List Instr), s.pending = [] → s.link.due = c :: rest →
    Unhindered c (s.withLink { s.link with due := [] }) →
    ((∃ y mo d ho mi se, c = .calendarSet h y mo d ho mi se ∧ calendarFieldsOk y mo d ho mi se = true)
      ∨ c = .minuteMark h ∧ s.calendar.state = .running) →
    ∃ u, step s = .next u ∧ u.calendar.state = .running ∧ u.calendar.phase = 0 ∧ .secondEvent ∉ u.link.due)
  ∧ (∀ s t c rest, s.pending = [] → s.link.due = [] → s.link.requests = c :: rest → headerOf c ≠ none →
    exec c s = .next t → step s = .next t)
  ∧ ∀ s, s.pending = [] → s.link.due = [] → s.link.requests = [] →
    ∃ t, step s = .next t
      ∧ t.basketTable = { s.basketTable with
          baskets := s.basketTable.baskets.map fun b => { b with parkTimer := b.parkTimer.map fun k => k - 1 } }
      ∧ t.store = { s.store with gatherTimer := s.store.gatherTimer.map fun k => k - 1 }
      ∧ t.router = { s.router with
          routes := s.router.routes.map fun r =>
            { r with presented := r.presented.map fun p => { p with timer := p.timer - 1 } } }
      ∧ t.accounts = { s.accounts with
          entries := s.accounts.entries.map fun e =>
            { e with holds := e.holds.map fun x => { x with timer := x.timer - 1 } } }
      ∧ t.calendar.state = s.calendar.state ∧ t.calendar.now = s.calendar.now
      ∧ t.calendar.phase = (if s.calendar.state = .running ∧ s.calendar.phase % 1000 ≠ 999 then s.calendar.phase + 1
          else s.calendar.phase)
      ∧ t.link = s.link ∧ t.evaluator = s.evaluator ∧ t.tables = s.tables ∧ t.overrides = s.overrides
      ∧ t.settlement = s.settlement ∧ t.pending = s.pending

/-- What the part holds right after power-on: the values of R1, R5, R46, R60, R77, R106, R122, R142, R160, R181 and
ENGINE STARTED queued; and every relation of `Sys2Proof/Safety.lean` holds then. That State.reset is the state right
after POWER_ON is log 23's reading. The offer array all ERASED is log 6's choice, both straps low log 7's, the last
frame empty log 19's and the second phase 0 log 20's. -/
def Obligations.ResetValues : Prop :=
  State.reset.link.mode = .maintenance ∧ State.reset.link.requests = [] ∧ State.reset.link.held = []
  ∧ State.reset.link.due = [] ∧ State.reset.link.receiver = []
  ∧ State.reset.link.frameErrors = 0 ∧ State.reset.link.refusalsLost = 0 ∧ State.reset.link.resetCause = .power
  ∧ State.reset.link.transmit =
      [noticeTo .engineStarted none (.engineStarted .power .maintenance
        { erased := 512, live := 0, retired := 0, damaged := 0 })]
  ∧ (∀ l, l < 16 → State.reset.basketTable.lanes[l]? =
      some { state := .closed, laneClass := .staffed, maskEntry := 0, floorLimit := 0, basketLimit := 0, active := none })
  ∧ State.reset.basketTable.baskets = [] ∧ State.reset.basketTable.nextNumber = 1
  ∧ State.reset.basketTable.parkList = []
  ∧ State.reset.evaluator.queue = [] ∧ (∀ u, u < 4 → State.reset.evaluator.units[u]? = some none)
  ∧ State.reset.store.slots = [] ∧ State.reset.store.controller = .ready ∧ State.reset.store.withdrawing = none
  ∧ State.reset.store.gatherTimer = none ∧ State.reset.store.program = none ∧ State.reset.store.inProgress = none
  ∧ State.reset.store.suspend = none ∧ (∀ k, k < 8 → State.reset.store.condemned[k]? = some false)
  ∧ (∀ k, k < 8 → State.reset.store.waiting[k]? = some [])
  ∧ State.reset.calendar.state = .unset
  ∧ State.reset.calendar.now =
      { year := 2000, month := 1, day := 1, weekday := 6, hour := 0, minute := 0, second := 0 }
  ∧ State.reset.tables.ranges = [] ∧ (∀ e, e < 15 → State.reset.tables.masks[e]? = some 0xFFFF#16)
  ∧ State.reset.tables.rates.toList = [1, 1, 2, 3, 0]
  ∧ State.reset.tables.limits =
      { holdLifetime := 600, noticeLimit := 90, presentations := 3, parkLifetime := 1800, gatherWindow := 40
        threshold := 96, pointValue := 100 }
  ∧ State.reset.tables.identity = none
  ∧ State.reset.overrides = []
  ∧ (∀ l, l < 16 → State.reset.router.routes[l]? =
      some { desk := none, mode := .persistent, masked := true, code := l, presented := none, tag := 0 })
  ∧ (∀ d, d < 4 → State.reset.router.desks[d]? =
      some { onDuty := false, openCount := 0, presentedTotal := 0, decidedTotal := 0 })
  ∧ State.reset.accounts.entries = [] ∧ State.reset.accounts.idle = []
  ∧ State.reset.settlement.journal = [] ∧ State.reset.settlement.waiting = 0
  ∧ State.reset.link.straps = { baud1 := false, baud0 := false } ∧ State.reset.calendar.phase = 0
  ∧ State.reset.link.lastFrame = [] ∧ State.reset.pending = []
  ∧ WithinCapacity State.reset ∧ StoreOrdered State.reset ∧ RangesOrdered State.reset ∧ CalendarReal State.reset
  ∧ AccountsCovered State.reset ∧ BasketsAgree State.reset ∧ EvaluationsAgree State.reset
  ∧ OverridesAgree State.reset ∧ DesksAgree State.reset ∧ AccountsAttached State.reset ∧ ExpiredCounted State.reset
  ∧ PresentationsAgree State.reset ∧ PlansBalanced State.reset

/-- Power-on and pin reset, in any state: every volatile block returns to the values of the first power-on, with the
straps as read and the reset cause; the offer slots are classified as R23 states: the slot of a program in flight and
the slots of a sector whose erase had begun read DAMAGED, every other slot reads as it stood with its active mark
computed for the UNSET calendar; ENGINE STARTED is the one message on the transmit queue. That the whole reset is one
step, empties the held messages and the due events and keeps the pending commands is log 22's reading; that a program or
an erase whose completion stays due is in flight still is log 30's; the last frame empty is log 19's choice and the second
phase 0 log 20's. -/
def Obligations.ResetsClassifyTheStore : Prop :=
  ∀ (straps : Straps) (s : State), ∃ slots : OfferArray,
    (∀ k, (∃ p, s.store.program = some p ∧ p.slot = k) ∨ s.store.inProgress = some (k / 64) →
      OfferArray.read slots k = some .damaged)
    ∧ (∀ k, ¬ (∃ p, s.store.program = some p ∧ p.slot = k) → s.store.inProgress ≠ some (k / 64) →
      OfferArray.read slots k = (OfferArray.read s.store.slots k).map fun
        | .live r _ => .live r (!(startEnabled r || endEnabled r || weekdaysEnabled r || timeEnabled r))
        | .retired r => .retired r
        | .damaged => .damaged)
    ∧ ∀ cause, exec (match cause with | .power => .powerOn straps | .pin => .pinReset straps) s = .next
        { State.reset with
          link := { State.reset.link with
            resetCause := cause, straps := straps
            transmit := [noticeTo .engineStarted none (.engineStarted cause .maintenance (OfferArray.counts slots))] }
          store := { State.reset.store with slots := slots }
          pending := s.pending }

/-- A frame that spells a request is received whole by a hunting receiver with a place on the request queue, and the
request it spells joins the tail of the queue with every operand as sent; nothing else changes (R173, R174, R176). -/
def Obligations.RequestFrameJoinsQueue : Prop :=
  ∀ i k h p (s : State), i.wellFormed = true → encodeRequest i = some (k, h, p) →
    s.link.receiver = [] → s.link.requests.length < 32 →
    exec (.frameReceived (requestFrame k h p)) s
      = .next (s.withLink { s.link with requests := s.link.requests ++ [i] })

/-- Reading the payload of every well-formed request gives that request back, the payload has the length the kind
table gives, and the kind is read back from its code (sections 11.2 and 11.8). -/
def Obligations.RequestsReadBack : Prop :=
  ∀ i k h p, i.wellFormed = true → encodeRequest i = some (k, h, p) →
    decodeRequest k h p = i ∧ p.length = k.payloadLength ∧ RequestKind.ofCode k.code = some k

/-- A good frame that is no request of the catalogue, has another payload length than its kind's, or finds 32 requests
queued is refused by the link with the frame's kind, lane byte and tag and no payload; the refusal is lost and counted
when the transmit queue holds 64 messages; nothing else changes (R176). -/
def Obligations.LinkRefusals : Prop :=
  ∀ (kind lane tag st : Byte) (payload : List Byte) (status : Status) (s : State),
    payload.length ≤ 1016 → s.link.receiver = [] →
    ((status = .unknownKind ∧ ∀ k : RequestKind, k.code ≠ kind)
      ∨ (status = .badLength ∧ ∃ k : RequestKind, k.code = kind ∧ payload.length ≠ k.payloadLength)
      ∨ (status = .queueFull ∧ 32 ≤ s.link.requests.length
          ∧ ∃ k : RequestKind, k.code = kind ∧ payload.length = k.payloadLength)) →
    (s.link.transmit.length < 64 →
      exec (.frameReceived (frameOf (bodyOf kind lane tag st payload))) s = .next (s.withLink { s.link with
        transmit := s.link.transmit ++
          [{ kind := .linkRefusal kind, lane := lane, tag := tag, status := status, payload := .none }] }))
    ∧ (64 ≤ s.link.transmit.length →
      exec (.frameReceived (frameOf (bodyOf kind lane tag st payload))) s = .next (s.withLink { s.link with
        refusalsLost := min (s.link.refusalsLost + 1) 65535 }))

/-- Hunting and collecting (R174, R175): bytes may arrive in any pieces; and for a receiver that has nothing yet a
byte other than the sync byte is discarded; a bad length is abandoned without count and a wrong check is discarded and
counted, and in both cases the byte after the sync byte is examined next; a frame that is not whole is kept and
nothing else happens. -/
def Obligations.ReceiverHuntsAndCounts : Prop :=
  (∀ (x y : List Byte) (s t : State), exec (.frameReceived x) s = .next t →
    exec (.frameReceived y) t = exec (.frameReceived (x ++ y)) s)
  ∧ ∀ (b : Byte) (rest : List Byte) (s : State), s.link.receiver = [] →
    (b ≠ 0xC3#8 → exec (.frameReceived (b :: rest)) s = exec (.frameReceived rest) s)
    ∧ (2 ≤ rest.length → (leNat (rest.take 2) < 4 ∨ 1020 < leNat (rest.take 2)) →
        exec (.frameReceived (0xC3#8 :: rest)) s = exec (.frameReceived rest) s)
    ∧ (2 ≤ rest.length → 4 ≤ leNat (rest.take 2) → leNat (rest.take 2) ≤ 1020 →
        leNat (rest.take 2) + 4 ≤ rest.length →
        leNat ((rest.drop (leNat (rest.take 2) + 2)).take 2)
          ≠ (frameCheck (rest.take (leNat (rest.take 2) + 2))).toNat →
        exec (.frameReceived (0xC3#8 :: rest)) s
          = exec (.frameReceived rest)
              (s.withLink { s.link with frameErrors := min (s.link.frameErrors + 1) 65535 }))
    ∧ ((rest.length < 2
          ∨ (4 ≤ leNat (rest.take 2) ∧ leNat (rest.take 2) ≤ 1020 ∧ rest.length < leNat (rest.take 2) + 4)) →
        exec (.frameReceived (0xC3#8 :: rest)) s = .next (s.withLink { s.link with receiver := 0xC3#8 :: rest }))

/-- The message at the head of the transmit queue leaves it as one frame: sync byte, body length, header, payload and
frame check (R173, R179); with none queued nothing is sent. The earliest held message joins when a place is free and
waits when none is (R179). That these two events change nothing where they cannot occur is log 2's reading, and the
last frame sent is the model's own record (log 19). -/
def Obligations.MessagesLeaveInOrder : Prop :=
  (∀ (s : State) m rest, s.link.transmit = m :: rest →
    exec .messageSent s = .next (s.withLink { s.link with
      transmit := rest
      lastFrame :=
        let body := m.kind.byte :: m.lane :: m.tag :: m.status.code :: m.payload.bytes
        let covered := le 2 body.length ++ body
        0xC3#8 :: (covered ++ le 2 (frameCheck covered).toNat) }))
  ∧ (∀ s : State, s.link.transmit = [] → exec .messageSent s = .next s)
  ∧ (∀ (s : State) x rest, s.link.held = x :: rest → s.link.transmit.length < 64 →
    exec .heldMessageJoin s = .next (s.withLink { s.link with
      transmit := s.link.transmit ++ [x.message], held := rest }))
  ∧ (∀ s : State, s.link.held = [] ∨ 64 ≤ s.link.transmit.length → exec .heldMessageJoin s = .next s)

/-- The layouts of what the part sends (sections 11.5 to 11.10, R189, R190), as fields in their order with their
sizes, pads and unused entry places as 0. Byte 37 of the plan summary, which section 11.5 does not name, is sent as 0
(log 28, the model's reading); so are the unnamed bits of OFFER READ's mark byte and GROUP RANGE REMOVE's flag byte (log
31, the model's choice), and that flag byte has concession in bit 0 and earn in bit 1 (log 32, the model's reading). -/
def Obligations.PayloadLayouts : Prop :=
  (∀ (fs : List (Nat × Nat)) (k n i : Nat), (fields fs).length = (fs.map Prod.fst).sum
    ∧ (i < k → (le k n)[i]? = some (BitVec.ofNat 8 (n / 256 ^ i))))
  ∧ (∀ p : Plan, p.entries.length ≤ 8 → (Payload.planSummary p).bytes.length = 102
    ∧ (Payload.planSummary p).bytes =
      fields ([(2, p.basket), (1, p.seq), (1, p.pendingOverrides)] ++ stampFields p.stamp
        ++ [(4, p.gross), (4, p.lineConcessions), (4, p.overrideReductions), (4, p.basketConcessions), (4, p.payable)
           , (4, p.points), (1, p.entries.length), (1, 0)])
      ++ (p.entries.flatMap fun e => fields [(2, e.offer), (1, e.kind.code), (1, 0), (4, e.amount)])
      ++ List.replicate (64 - 8 * p.entries.length) 0)
  ∧ (∀ (seq count : Nat) (current : Bool) (es : List LineEntry) (held : List Nat),
    (∀ e ∈ es, e.pairs.length ≤ 4) →
    (Payload.planLines seq current count es held).bytes.length = 5 + 30 * es.length + 2 * held.length
    ∧ (Payload.planLines seq current count es held).bytes =
      fields [(1, seq), (1, if current then 1 else 0), (1, count), (1, es.length)]
      ++ (es.flatMap fun e => fields ([(1, e.line), (1, e.pairs.length), (4, e.net)]
          ++ e.pairs.flatMap fun x => [(2, x.1), (4, x.2)]) ++ List.replicate (24 - 6 * e.pairs.length) 0)
      ++ fields ((1, held.length) :: held.map fun o => (2, o)))
  ∧ (∀ (count waiting : Nat) (r : SettledRecord) (credit : Nat × Nat × Nat), credit = r.credit.getD (0, 0, 0) →
    (Payload.journalTaken count waiting (.settled r)).bytes.length
      = 2 + 76 + 12 * r.offers.length + 14 * r.overrides.length + 4 * r.coupons.length
    ∧ (Payload.journalTaken count waiting (.settled r)).bytes =
      fields ([(1, count), (1, waiting), (1, 1), (1, r.lane), (1, r.laneClass.code), (1, r.planSeq), (2, r.identity)
          , (2, r.basket), (5, r.account.getD 0)] ++ stampFields r.stamp ++ stampFields r.planStamp
        ++ [(4, r.gross), (4, r.lineConcessions), (4, r.overrideReductions), (4, r.basketConcessions), (4, r.payable)
           , (4, r.redeemed), (4, r.redemptionValue), (4, r.amountDue), (4, credit.1), (4, credit.2.1)
           , (4, credit.2.2), (1, r.offers.length), (1, r.overrides.length), (1, r.coupons.length)]
        ++ (r.offers.flatMap fun o =>
            [(2, o.offer), (1, o.kind.code), (1, 0), (4, o.applications), (4, o.total)])
        ++ (r.overrides.flatMap fun o =>
            match o.authority with
            | .lane => [(1, o.line), (1, o.reason.code), (1, 4), (1, 0), (2, 0), (4, o.price), (4, o.reduction)]
            | .desk d op =>
              [(1, o.line), (1, o.reason.code), (1, d), (1, 0), (2, op), (4, o.price), (4, o.reduction)])
        ++ r.coupons.map fun k => (4, k)))
  ∧ (∀ (count waiting : Nat) (r : CancelledRecord),
    (Payload.journalTaken count waiting (.cancelled r)).bytes.length = 2 + 29
    ∧ (Payload.journalTaken count waiting (.cancelled r)).bytes =
      fields ([(1, count), (1, waiting), (1, 2), (1, (r.lane.map Prod.fst).getD 255)
          , (1, (r.lane.map fun x => x.2.code).getD 255), (1, r.cause.code), (2, r.identity), (2, r.basket)
          , (5, r.account.getD 0)] ++ stampFields r.stamp
        ++ match r.parkTime with
          | some t => stampFields t
          | none => [(8, 0)]))
  ∧ (∀ r : SettleReport, (Payload.settled r).bytes =
      fields [(2, r.basket), (1, r.planSeq), (1, if r.balance.isSome then 1 else 0), (4, r.payable), (4, r.redeemed)
        , (4, r.redemptionValue), (4, r.amountDue), (4, r.points), (4, r.balance.getD 0), (1, r.records), (1, 0)])
  ∧ (∀ (on : Bool) (n : Nat) (shown ruled : BitVec 16) (ps : List DeskNoticePlace), ps.length ≤ 8 →
    (Payload.deskStatus on n shown ruled ps).bytes =
      fields ([(1, if on then 1 else 0), (1, n), (2, shown.toNat), (2, ruled.toNat)] ++ ps.flatMap fun p =>
        [(1, p.lane), (1, p.tag.toNat), (2, p.basket), (1, p.line), (1, 0), (2, p.seconds)])
      ++ List.replicate (64 - 8 * ps.length) 0)
  ∧ (∀ r : AccountReport, r.holds.length ≤ 4 → (Payload.accountRead r).bytes =
      fields ([(5, r.account.number), (1, r.account.tier.code), (2, r.account.flags.toNat), (4, r.account.balance)
          , (4, r.heldTotal), (4, r.available), (1, r.account.refs), (2, r.idlePosition.getD 65535), (2, r.entries)
          , (2, r.idleEntries), (1, r.holds.length)] ++ r.holds.flatMap fun x =>
        [(2, x.basket), (1, x.lane), (1, 0), (4, x.points), (2, x.seconds), (2, 0)])
      ++ List.replicate (48 - 12 * r.holds.length) 0)
  ∧ (∀ r : StoreReport, (Payload.storeStatus r).bytes =
      fields ([(1, r.controller.code), (1, r.inProgress.getD 255), (1, bitsValue (r.waiting.map fun n => decide (n ≠ 0)))
          , (1, bitsValue r.condemned)] ++ (r.waiting.map fun n => (1, n))
        ++ [(2, r.withdrawing.getD 65535), (2, r.programming.getD 65535), (2, r.counts.erased), (2, r.counts.live)
           , (2, r.counts.retired), (2, r.counts.damaged), (2, r.active)]))
  ∧ (∀ (st : SlotState) (w a c p : Bool) (r : Option OfferRecord),
    (Payload.offerRead st w a c p r).bytes.length = 66
    ∧ (Payload.offerRead st w a c p r).bytes =
      fields [(1, st.code), (1, bitsValue [w, a, c, p])] ++ (match r with
        | some x => recordBytes x
        | none => List.replicate 64 0))
  ∧ (∀ r : EngineReport, (Payload.engineStatus r).bytes =
      fields [(1, r.mode.code), (1, r.calendar.code), (1, r.controller.code), (1, if r.identity.isSome then 1 else 0)
        , (2, r.identity.getD 0), (1, r.cause.code), (1, r.openLanes), (1, r.baskets), (1, r.parked), (1, r.expired)
        , (1, r.queued), (1, r.running), (1, r.overrides), (1, r.notices), (2, r.accounts), (1, r.holds), (1, r.journal)
        , (1, r.waiting), (1, r.requests), (1, r.transmit), (2, r.frameErrors), (2, r.refusalsLost)])
  ∧ (∀ n : DeskNotice, (Payload.deskNotice n).bytes.length = 28
    ∧ (Payload.deskNotice n).bytes =
      fields [(1, n.desk), (1, n.tag.toNat), (1, n.code), (1, n.line), (2, n.basket), (2, n.seq), (4, n.item)
        , (2, n.quantity), (4, n.shelfPrice), (4, n.price), (1, n.reason.code), (1, n.count), (4, n.reduction)])
  ∧ (∀ n : OutcomeNotice, (Payload.overrideOutcome n).bytes =
      fields [(2, n.basket), (1, n.line), (1, n.outcome.code), (2, n.seq), (1, (n.cause.map Cause.code).getD 0)
        , (1, n.desk.getD 255), (2, n.operator), (4, n.authorised), (1, n.count), (1, 0)])
  ∧ (∀ (x y z g : Nat) (on off : Bool) (t : Stamp) (f : Flags) (tag : BitVec 8) (gen : BitVec 16) (l : Limits)
      (counts : SlotCounts) (a : Option Nat),
    Payload.none.bytes = []
    ∧ (Payload.byte x).bytes = fields [(1, x)] ∧ (Payload.half x).bytes = fields [(2, x)]
    ∧ (Payload.word x).bytes = fields [(4, x)]
    ∧ (Payload.lineAdded x y).bytes = fields [(1, x), (1, y)]
    ∧ (Payload.sideNote on).bytes = fields [(1, if on then 1 else 0)]
    ∧ (Payload.recalled x gen).bytes = fields [(2, x), (2, gen.toNat)]
    ∧ (∀ o : OverrideOutcome, (Payload.overrideKeyed o x y).bytes =
        fields [(1, o.code), (1, if o = .declined then 1 else 0), (2, x), (4, y)])
    ∧ (Payload.redeemed x y z g).bytes = fields [(4, x), (4, y), (2, z), (4, g)]
    ∧ (Payload.settleExceeds x y).bytes = fields [(4, x), (4, y)]
    ∧ (Payload.decided x y z).bytes = fields [(2, x), (1, y), (1, 0), (2, z)]
    ∧ (Payload.tooLate (some tag)).bytes = fields [(1, 1), (1, tag.toNat)]
    ∧ (Payload.tooLate .none).bytes = fields [(1, 0), (1, 0)]
    ∧ (Payload.deskDuty on x).bytes = fields [(1, if on then 1 else 0), (1, x)]
    ∧ (Payload.routeMask on off).bytes = fields [(1, if on then 1 else 0), (1, if off then 1 else 0)]
    ∧ (Payload.accountLoaded on a x y).bytes = fields [(1, if on then 1 else 2), (5, a.getD 0), (4, x), (1, y)]
    ∧ (Payload.rangeAdded x y).bytes = fields [(2, x), (2, y)]
    ∧ (Payload.rangeRemoved x y on off z).bytes =
        fields [(4, x), (1, y), (1, (if on then 1 else 0) + 2 * (if off then 1 else 0)), (2, z)]
    ∧ (Payload.flags f).bytes = fields [(2, f.toNat)]
    ∧ (Payload.maskRead f on x y).bytes = fields [(2, f.toNat), (1, if on then 1 else 0), (1, x), (1, y)]
    ∧ (∀ rs : List Nat, (Payload.rates rs).bytes = fields (rs.map fun r => (1, r)))
    ∧ (Payload.limits l).bytes = fields [(2, l.holdLifetime), (2, l.noticeLimit), (1, l.presentations)
        , (2, l.parkLifetime), (2, l.gatherWindow), (1, l.threshold), (2, l.pointValue)]
    ∧ (Payload.stamp t).bytes = fields (stampFields t)
    ∧ (∀ st : CalendarState, (Payload.calendarRead st t x).bytes = fields ((1, st.code) :: stampFields t ++ [(2, x)]))
    ∧ (Payload.minuteMark t x).bytes = fields (stampFields t ++ [(1, x)])
    ∧ (Payload.tradingStarted x y).bytes = fields [(2, x), (1, y)]
    ∧ (∀ m : Mode, (Payload.tradingStopped m x y z).bytes = fields [(1, m.code), (1, x), (1, y), (1, z)])
    ∧ (Payload.restarted x y z).bytes = fields [(1, x), (1, y), (1, z)]
    ∧ (∀ free held : Nat, (Payload.journalCount x y z free held g).bytes =
        fields [(1, x), (1, y), (1, z), (1, free), (1, held), (1, g)])
    ∧ (∀ (cause : ResetCause) (m : Mode), (Payload.engineStarted cause m counts).bytes =
        fields [(1, cause.code), (1, m.code), (2, counts.erased), (2, counts.live), (2, counts.retired)
          , (2, counts.damaged)])
    ∧ (∀ cause : Cause, (Payload.noticeWithdrawn x tag y cause z).bytes =
        fields [(1, x), (1, tag.toNat), (1, y), (1, cause.code), (2, z)])
    ∧ (Payload.planStale x gen y).bytes = fields [(2, x), (2, gen.toNat), (1, y)]
    ∧ (Payload.holdLapsed x y z).bytes = fields [(2, x), (5, y), (4, z)]
    ∧ (Payload.parkExpired x a (some t)).bytes = fields ([(2, x), (5, a.getD 0)] ++ stampFields t)
    ∧ (Payload.parkExpired x a .none).bytes = fields [(2, x), (5, a.getD 0), (8, 0)]
    ∧ (Payload.journalWaiting x y z).bytes = fields [(1, x), (1, y), (1, z)])

/-- The messages of one event join the transmit queue in order while it has places and none are held before them; the
block that took the event holds the rest, in order (R179; that some join while the rest are held is log 5's reading).
A request that would overtake its stream waits on the request queue, where it stands or at the tail (R177; that a
request command joins the queue so, or is refused QUEUE_FULL, is log 3's choice). A block that holds messages, or with
which an event stays due, takes no further event: a request keeps its place on the queue and stays due, and an expiry
or a completion stays due, its timer at 0, unless it cannot come about (log 2); a second event stays due with its second
counted in the second phase (log 20). An event that needs another, waiting block stays due with it, and one that needs
none is taken (R179; what an event needs is log 4's reading): examples are the installation of a plan, and the re-check
of CALENDAR SET, MINUTE MARK and a minute rollover. While the waiting block holds messages the other blocks that such an
event touches go on; once no message keeps it, the event is taken before any later event of the blocks it touches. -/
def Obligations.HeldMessagesAndWaitingBlocks : Prop :=
  (∀ (b : Block) (ms : List Message) (s : State), s.link.transmit.length ≤ 64 →
    ∃ joined late, ms = joined ++ late
      ∧ place b ms s = s.withLink { s.link with
          transmit := s.link.transmit ++ joined
          held := s.link.held ++ late.map fun m => { owner := b, message := m } }
      ∧ (s.link.transmit ++ joined).length ≤ 64
      ∧ (s.link.held ≠ [] → joined = [])
      ∧ (s.link.held = [] → late ≠ [] → (s.link.transmit ++ joined).length = 64))
  ∧ (∀ (c : Instr) (b : Block) (s : State) (k : RequestKind) (h : Header) (p : List Byte) (due : List Instr),
    ownerOf c = some b → encodeRequest c = some (k, h, p) →
    (overtakes c s = true ∧ due = s.link.due
      ∨ overtakes c s = false ∧ waits b s = true ∧ c ∉ s.link.due ∧ due = s.link.due ++ [c]) →
    (c ∈ s.link.requests → exec c s = .next (s.withLink { s.link with due := due }))
    ∧ (c ∉ s.link.requests → s.link.requests.length < 32 →
        exec c s = .next (s.withLink { s.link with requests := s.link.requests ++ [c], due := due }))
    ∧ (c ∉ s.link.requests → 32 ≤ s.link.requests.length → s.link.transmit.length < 64 →
        exec c s = .next (s.withLink { s.link with
          transmit := s.link.transmit ++
            [{ kind := .linkRefusal k.code, lane := h.lane, tag := h.tag, status := .queueFull, payload := .none }] })))
  ∧ (∀ (c : Instr) (b : Block) (s : State), ownerOf c = some b → overtakes c s = false → c ∈ s.link.due →
    c ≠ .secondEvent → exec c s = .next s)
  ∧ (∀ (c : Instr) (b : Block) (s : State), ownerOf c = some b → headerOf c = none → waits b s = true →
    (inCourse c s = false → exec c s = .next s)
    ∧ (fallsDue c s = true → exec c s = .next ((runOut c s).withLink { s.link with due := s.link.due ++ [c] })))
  ∧ (∀ (c : Instr) (s : State), timerLeft c s ≠ none → timerLeft c (runOut c s) = some 0)
  ∧ (∀ (c : Instr) (b x : Block) (s : State), ownerOf c = some b → overtakes c s = false → fallsDue c s = true →
    waits x s = true → touches c s x = true → exec c s = .next (stayDue c s))
  ∧ (∀ (c : Instr) (b : Block) (s : State), ownerOf c = some b → overtakes c s = false →
    (∀ x, waits x s = true → touches c s x = false) →
    exec c s = .next (place b (runOf c (leaveQueue c s)).sent (runOf c (leaveQueue c s)).state))
  ∧ (∀ (c : Instr) (x : Block) (s : State), touches c s x = true ↔
    ownerOf c = some x ∨ x ∈ asksOf c s ∨ ownedDiffers x s (runOf c (leaveQueue c s)).state = true)
  ∧ (∀ (x : Block) (s : State), (∃ m ∈ s.link.held, m.owner = x) ∨ (∃ c ∈ s.link.due, ownerOf c = some x) →
    waits x s = true)
  ∧ (∀ (x : Block) (s : State), s.link.due = [] → (waits x s = true ↔ ∃ m ∈ s.link.held, m.owner = x))
  ∧ (∀ (c : Instr) (x : Block) (s : State), s.link.due = [c] →
    ((∃ m ∈ s.link.held, touches c s m.owner = true) →
      (waits x s = true ↔ (∃ m ∈ s.link.held, m.owner = x) ∨ ownerOf c = some x))
    ∧ ((∀ m ∈ s.link.held, touches c s m.owner = false) →
      (waits x s = true ↔ (∃ m ∈ s.link.held, m.owner = x) ∨ touches c s x = true)))
  ∧ (∀ (c : Instr) (x : Block) (s : State), s.link.held = [] → c ∈ s.link.due → touches c s x = true →
    waits x s = true)
  ∧ (∀ (c : Instr) (h : Header) (y mo d ho mi se : Nat) (s : State), waits .store s = true →
    waits .calendar s = false → overtakes c s = false → c ∈ s.link.requests → c ∉ s.link.due →
    (c = .calendarSet h y mo d ho mi se ∧ calendarFieldsOk y mo d ho mi se = true
      ∨ c = .minuteMark h ∧ s.calendar.state = .running) →
    exec c s = .next (s.withLink { s.link with due := s.link.due ++ [c] }))
  ∧ (∀ s : State, waits .store s = true → waits .calendar s = false → s.calendar.state = .running →
    s.calendar.now.second = 59 → lastMinute s.calendar.now = false →
    exec .secondEvent s = .next ((s.withCalendar { s.calendar with
      phase := 1000 * (s.calendar.phase / 1000 + 1) }).withLink { s.link with due := s.link.due ++ [.secondEvent] }))
  ∧ ∀ (u : Nat) (r : RunningUnit) (b : Basket) (s : State), waits .basketTable s = true →
    waits .evaluator s = false → s.evaluator.units[u]? = some (some r) → r.discard = false →
    findBasket r.basket s = some b → basisHolds r b s = true →
    exec (.evaluationCompletion u) s
      = .next (s.withLink { s.link with due := s.link.due ++ [.evaluationCompletion u] })

/-- Every command answers a next state; a request that is taken receives at that event exactly one reply, with its
kind, lane byte and tag, or, for TOTAL, OFFER WRITE, OFFER RETIRE, SECTOR ERASE and ERASE SUSPEND alone, none at that
event (R178; what answers those later, their own statements say). -/
def Obligations.OneReplyEach : Prop :=
  ∀ (c : Instr) (s : State),
    (∃ t, exec c s = .next t)
    ∧ ∀ k h p, encodeRequest c = some (k, h, p) → Unhindered c s →
      ∃ t, exec c s = .next t
        ∧ (let replies := fun (u : State) => ((u.link.transmit ++ u.link.held.map HeldMessage.message).filter
              fun m => decide (m.kind = .reply k ∧ m.lane = h.lane ∧ m.tag = h.tag)).length
           replies t = replies s + 1
           ∨ (replies t = replies s
              ∧ (k = .total ∨ k = .offerWrite ∨ k = .offerRetire ∨ k = .sectorErase ∨ k = .eraseSuspend)))

/-! ### Modes, RESTART and engine status -/

/-- TRADING START: WRONG_MODE outside MAINTENANCE, then CALENDAR_UNSET, then NO_IDENTITY; else the mode becomes
TRADING and the reply carries the identity and the count of OPEN lanes (R182). TRADING STOP: WRONG_MODE in
MAINTENANCE; in TRADING the mode becomes MAINTENANCE with no non-free basket and QUIESCING otherwise; in QUIESCING it
stays; the reply carries the mode after it and the counts of non-free, parked and expired baskets (R183). -/
def Obligations.TradingModes : Prop :=
  (∀ (h : Header) (s : State) (c : Instr), c = .tradingStart h → Unhindered c s →
    (s.link.mode ≠ .maintenance → Refuses c .link .tradingStart h .wrongMode s)
    ∧ (s.link.mode = .maintenance → s.calendar.state = .unset → Refuses c .link .tradingStart h .calendarUnset s)
    ∧ (s.link.mode = .maintenance → s.calendar.state = .running → s.tables.identity = none →
        Refuses c .link .tradingStart h .noIdentity s)
    ∧ (∀ n, s.link.mode = .maintenance → s.calendar.state = .running → s.tables.identity = some n →
        Takes c .link s ((leaveQueue c s).withMode .trading)
          [replyTo .tradingStart h .ok (.tradingStarted n
            (s.basketTable.lanes.toList.filter fun r => decide (r.state = .opened)).length)]))
  ∧ ∀ (h : Header) (s : State) (c : Instr), c = .tradingStop h → Unhindered c s →
    (s.link.mode = .maintenance → Refuses c .link .tradingStop h .wrongMode s)
    ∧ ∀ m, (m = .maintenance ∧ s.link.mode = .trading ∧ s.basketTable.baskets = []
          ∨ m = .quiescing ∧ s.link.mode = .trading ∧ s.basketTable.baskets ≠ []
          ∨ m = .quiescing ∧ s.link.mode = .quiescing) →
        Takes c .link s ((leaveQueue c s).withMode m)
          [replyTo .tradingStop h .ok (.tradingStopped m s.basketTable.baskets.length
            (s.basketTable.baskets.filter fun b => decide (b.state = .parked)).length
            (s.basketTable.baskets.filter fun b => b.expired).length)]

/-- RESTART, in every mode: every outstanding TOTAL is answered RESTARTED in ascending lane order, then RESTART with
its counts; baskets, park list, overrides, presentations, accounts and the waiting count are cleared, lanes CLOSED
with their profiles, routes masked, running units marked for discard, the mode MAINTENANCE; tables, calendar, offer
store, journal, link queues and the next basket number are kept (R186). -/
def Obligations.RestartClears : Prop :=
  ∀ (h : Header) (s : State) (c : Instr), c = .restart h → Unhindered c s →
    ∃ t totals, Takes c .link s t (totals ++ [replyTo .restart h .ok (.restarted s.basketTable.baskets.length
          (s.basketTable.baskets.filter fun b => decide (b.state = .parked)).length totals.length)])
      ∧ totals = (List.range 16).flatMap (fun l => s.basketTable.baskets.flatMap fun b =>
          match b.outstanding with
          | some g => if b.lane = some l then [replyTo .total g .restarted .none] else []
          | none => [])
      ∧ t.basketTable.baskets = [] ∧ t.basketTable.parkList = []
      ∧ t.basketTable.nextNumber = s.basketTable.nextNumber
      ∧ (∀ l : Nat, t.basketTable.lanes[l]? = (s.basketTable.lanes[l]?).map fun (r : Lane) =>
          { r with state := .closed, active := none })
      ∧ t.evaluator.queue = []
      ∧ (∀ u : Nat, t.evaluator.units[u]? = (s.evaluator.units[u]?).map (Option.map fun (r : RunningUnit) =>
          { r with discard := true }))
      ∧ t.overrides = []
      ∧ (∀ l : Nat, t.router.routes[l]? = (s.router.routes[l]?).map fun (r : Route) =>
          { r with masked := true, presented := none })
      ∧ (∀ d : Nat, t.router.desks[d]? = (s.router.desks[d]?).map fun (k : Desk) => { k with openCount := 0 })
      ∧ t.accounts.entries = [] ∧ t.accounts.idle = []
      ∧ t.settlement.waiting = 0 ∧ t.settlement.journal = s.settlement.journal
      ∧ t.link = { (leaveQueue c s).link with mode := .maintenance }
      ∧ t.store = s.store ∧ t.calendar = s.calendar ∧ t.tables = s.tables ∧ t.pending = s.pending

/-- ENGINE STATUS: a clear flag other than 0 or 1 is refused BAD_FIELD; else the reply carries the engine as it
stands, and flag 1 returns both link counts to 0 after they are copied; nothing else changes (R188). The request queue
is counted without the request itself and the transmit queue without its reply (log 13). -/
def Obligations.EngineStatusRule : Prop :=
  ∀ (h : Header) (clear : Nat) (s : State) (c : Instr), c = .engineStatus h clear → Unhindered c s →
    (1 < clear → Refuses c .link .engineStatus h .badField s)
    ∧ (clear ≤ 1 →
        Takes c .link s
          (if clear = 1 then
            (leaveQueue c s).withLink { (leaveQueue c s).link with frameErrors := 0, refusalsLost := 0 }
           else leaveQueue c s)
          [replyTo .engineStatus h .ok (.engineStatus
            { mode := s.link.mode, calendar := s.calendar.state, controller := s.store.controller
              identity := s.tables.identity, cause := s.link.resetCause
              openLanes := (s.basketTable.lanes.toList.filter fun r => decide (r.state = .opened)).length
              baskets := s.basketTable.baskets.length
              parked := (s.basketTable.baskets.filter fun b => decide (b.state = .parked)).length
              expired := (s.basketTable.baskets.filter fun b => b.expired).length
              queued := s.evaluator.queue.length
              running := (s.evaluator.units.toList.filter fun u => u.isSome).length
              overrides := s.overrides.length
              notices := (s.router.routes.toList.filter fun r => r.presented.isSome).length
              accounts := s.accounts.entries.length
              holds := (s.accounts.entries.map fun e => e.holds.length).sum
              journal := s.settlement.journal.length, waiting := s.settlement.waiting
              requests := (s.link.requests.erase c).length, transmit := s.link.transmit.length
              frameErrors := s.link.frameErrors, refusalsLost := s.link.refusalsLost })])

/-! ### Lanes -/

/-- LANE OPEN, LANE CLOSE and LANE PROFILE: WRONG_MODE in MAINTENANCE and BAD_FIELD for a header lane above 15; LANE
OPEN opens the lane whatever its state, LANE CLOSE and LANE PROFILE are refused LANE_BUSY while the lane has an active
basket, and LANE PROFILE replaces the four profile fields together; nothing else changes (R2, R3). -/
def Obligations.LaneRequests : Prop :=
  ∀ (h : Header) (k m f g : Nat) (s : State) (c : Instr) (kind : RequestKind),
    (c = .laneOpen h ∧ kind = .laneOpen ∨ c = .laneClose h ∧ kind = .laneClose
      ∨ c = .laneProfile h k m f g ∧ kind = .laneProfile) → Unhindered c s →
    (s.link.mode = .maintenance → Refuses c .basketTable kind h .wrongMode s)
    ∧ (s.link.mode ≠ .maintenance → 16 ≤ h.lane.toNat → Refuses c .basketTable kind h .badField s)
    ∧ (s.link.mode ≠ .maintenance → ∀ r, s.basketTable.lanes[h.lane.toNat]? = some r →
        (kind = .laneOpen → Takes c .basketTable s
          ((leaveQueue c s).withBasketTable { s.basketTable with
            lanes := s.basketTable.lanes.setIfInBounds h.lane.toNat { r with state := .opened } })
          [replyTo kind h .ok .none])
        ∧ (kind = .laneClose → r.active = none → Takes c .basketTable s
          ((leaveQueue c s).withBasketTable { s.basketTable with
            lanes := s.basketTable.lanes.setIfInBounds h.lane.toNat { r with state := .closed } })
          [replyTo kind h .ok .none])
        ∧ (kind = .laneClose → r.active ≠ none → Refuses c .basketTable kind h .laneBusy s)
        ∧ (kind = .laneProfile → (4 ≤ k ∨ 32 ≤ m ∨ 99999999 < f ∨ 99999999 < g) →
            Refuses c .basketTable kind h .badField s)
        ∧ (kind = .laneProfile → k < 4 → m < 32 → f ≤ 99999999 → g ≤ 99999999 → r.active ≠ none →
            Refuses c .basketTable kind h .laneBusy s)
        ∧ (∀ lc : LaneClass, kind = .laneProfile → lc.code = k → m < 32 → f ≤ 99999999 → g ≤ 99999999 →
            r.active = none → Takes c .basketTable s
              ((leaveQueue c s).withBasketTable { s.basketTable with
                lanes := s.basketTable.lanes.setIfInBounds h.lane.toNat
                  { r with laneClass := lc, maskEntry := m, floorLimit := f, basketLimit := g } })
              [replyTo kind h .ok .none]))

/-! ### Baskets -/

/-- BASKET OPEN: WRONG_MODE outside TRADING, BAD_FIELD for no lane, LANE_CLOSED, LANE_BUSY, then NO_SLOT with 20
non-free baskets; else the first number from the next number on that no basket holds is issued to a new OPEN basket,
the lane's active basket becomes that number and the next number the one that follows (R7, R8). -/
def Obligations.BasketOpenRule : Prop :=
  ∀ (h : Header) (s : State) (c : Instr), c = .basketOpen h → Unhindered c s →
    (s.link.mode ≠ .trading → Refuses c .basketTable .basketOpen h .wrongMode s)
    ∧ (s.link.mode = .trading → 16 ≤ h.lane.toNat → Refuses c .basketTable .basketOpen h .badField s)
    ∧ (s.link.mode = .trading → ∀ r, s.basketTable.lanes[h.lane.toNat]? = some r →
        (r.state = .closed → Refuses c .basketTable .basketOpen h .laneClosed s)
        ∧ (r.state = .opened → r.active ≠ none → Refuses c .basketTable .basketOpen h .laneBusy s)
        ∧ (r.state = .opened → r.active = none → 20 ≤ s.basketTable.baskets.length →
            Refuses c .basketTable .basketOpen h .noSlot s)
        ∧ (r.state = .opened → r.active = none → s.basketTable.baskets.length < 20 →
            ∃ steps n, steps ≤ 20 ∧ n = numberAfter steps s.basketTable.nextNumber
              ∧ findBasket n s = none
              ∧ (∀ j, j < steps → (findBasket (numberAfter j s.basketTable.nextNumber) s).isSome = true)
              ∧ Takes c .basketTable s
                  ((leaveQueue c s).withBasketTable
                    { lanes := s.basketTable.lanes.setIfInBounds h.lane.toNat { r with active := some n }
                      baskets := s.basketTable.baskets ++
                        [{ number := n, state := .opened, lane := some h.lane.toNat, generation := 0, lines := []
                           nextLine := 1, coupons := [], account := none, plan := none, current := false
                           planSeq := 0, heldOffers := [], parkTime := none, parkTimer := none, expired := false
                           outstanding := none, keyingCount := 1 }]
                      nextNumber := followingNumber n
                      parkList := s.basketTable.parkList })
                  [replyTo .basketOpen h .ok (.half n)]))

/-- The checks of R4, in order, for every basket request but RECALL, CANCEL and BASKET OPEN: WRONG_MODE in
MAINTENANCE, BAD_FIELD for a header lane above 15, NO_BASKET for a number no basket holds or a basket active on
another lane, and BASKET_STATE for a PARKED basket unless the request is PLAN LINES; a refused request leaves every
piece of state as it was. -/
def Obligations.BasketChecks : Prop :=
  ∀ (c : Instr) (k : RequestKind) (n : Nat) (h : Header) (blk : Block) (s : State),
    basketRequest c = some (k, n) → headerOf c = some h → ownerOf c = some blk → Unhindered c s →
    (s.link.mode = .maintenance → Refuses c blk k h .wrongMode s)
    ∧ (s.link.mode ≠ .maintenance → 16 ≤ h.lane.toNat → Refuses c blk k h .badField s)
    ∧ (s.link.mode ≠ .maintenance → h.lane.toNat < 16 → findBasket n s = none → Refuses c blk k h .noBasket s)
    ∧ (∀ b, s.link.mode ≠ .maintenance → h.lane.toNat < 16 → findBasket n s = some b → b.state ≠ .parked →
        b.lane ≠ some h.lane.toNat → Refuses c blk k h .noBasket s)
    ∧ (∀ b, s.link.mode ≠ .maintenance → h.lane.toNat < 16 → findBasket n s = some b → b.state = .parked →
        k ≠ .planLines → Refuses c blk k h .basketState s)

/-- A change counted by R14 acts on a basket by its state (R15): TOTALLED becomes OPEN with its plan no longer
current, any other state stays; the generation rises by 1, counting on from 65,535 to 0. A stale claim applies it once
to each basket it names, and PLAN STALE goes, in ascending lane order, to the lane of each that was TOTALLED. The lane
order is stated for mask writes and loads (R53, R147) and is log 8's reading for a retirement. -/
def Obligations.ChangesMakePlansStale : Prop :=
  (∀ b : Basket,
    (b.state = .totalled → b.raised = { b with generation := b.generation + 1, state := .opened, current := false })
    ∧ (b.state ≠ .totalled → b.raised = { b with generation := b.generation + 1 }))
  ∧ ∀ (ns : List Nat) (s : State),
      (staleClaim ns s).state.basketTable = { s.basketTable with
        baskets := s.basketTable.baskets.map fun b => if b.number ∈ ns then b.raised else b }
      ∧ (staleClaim ns s).sent = (List.range 16).flatMap fun l =>
          (s.basketTable.baskets.filter fun b =>
            decide (b.number ∈ ns) && decide (b.state = .totalled) && decide (b.lane = some l)).map fun b =>
            noticeTo .planStale (some l) (.planStale b.number (b.generation + 1) b.planSeq)

/-- LINE ADD taken (R9, R50): the new line joins the tail with the next line number, the group of the range that holds
its item code, or 0 with both permissions, and each permission set only when both sides set it; the next line number
rises by 1 and the change acts as R15 states. -/
def Obligations.LineAddRule : Prop :=
  ∀ (h : Header) (n item q u : Nat) (meas con earn : Bool) (l : Nat) (b : Basket) (s : State) (c : Instr),
    c = .lineAdd h n item q u meas con earn → Unhindered c s → Served h n l b s →
    ((item = 0 ∨ 999999999 < item ∨ q = 0 ∨ 999 < q ∨ (meas = true ∧ q ≠ 1) ∨ u = 0 ∨ 9999999 < u
        ∨ 99999999 < q * u ∨ 99999999 < linesTotal b.lines + q * u) →
      Refuses c .basketTable .lineAdd h .badField s)
    ∧ ((1 ≤ item ∧ item ≤ 999999999 ∧ 1 ≤ q ∧ q ≤ 999 ∧ (meas = true → q = 1) ∧ 1 ≤ u ∧ u ≤ 9999999
        ∧ q * u ≤ 99999999 ∧ linesTotal b.lines + q * u ≤ 99999999) →
      (64 ≤ b.lines.length → Refuses c .basketTable .lineAdd h .linesFull s)
      ∧ (b.lines.length < 64 → 256 ≤ b.nextLine → Refuses c .basketTable .lineAdd h .lineNumbersUsed s)
      ∧ (b.lines.length < 64 → b.nextLine ≤ 255 →
          ∀ g gc ge,
            ((∃ r, (s.tables.ranges.find? fun r => decide (r.first ≤ item) && decide (item ≤ r.last)) = some r
                ∧ g = r.group ∧ gc = r.concession ∧ ge = r.earn)
              ∨ ((∀ r ∈ s.tables.ranges, ¬ (r.first ≤ item ∧ item ≤ r.last)) ∧ g = 0 ∧ gc = true ∧ ge = true)) →
            Takes c .basketTable s
              ((leaveQueue c s).withBaskets (s.basketTable.baskets.map fun x =>
                if x.number = n then
                  Basket.raised { x with
                    lines := x.lines ++
                      [{ number := b.nextLine, item := item, group := g, quantity := q, price := u, measured := meas
                         concession := con && gc, earn := earn && ge }]
                    nextLine := x.nextLine + 1 }
                else x))
              [replyTo .lineAdd h .ok (.lineAdded b.nextLine g)]))

/-- LINE QUANTITY (R10, R114 to R116, R131): NO_LINE, then BAD_FIELD; the present quantity again changes nothing; a
line without an override record takes the new quantity; a record that waits, or a GRANTED one whose new reduction
stays within what was authorised, takes the new reduction with it; a GRANTED one that outgrows it is granted anew by
the lane whose authority it has, or returns to PENDING with its count at 0 and is handed to the router; a presented
one has its notice taken back, and is removed on a SINGLE route or waits again with its count on a PERSISTENT one, and
the pass follows; a record removed so is told by the side note. -/
def Obligations.LineQuantityRule : Prop :=
  ∀ (h : Header) (n line q l : Nat) (b : Basket) (s : State) (c : Instr),
    c = .lineQuantity h n line q → Unhindered c s → Served h n l b s →
    ((∀ x ∈ b.lines, x.number ≠ line) → Refuses c .basketTable .lineQuantity h .noLine s)
    ∧ ∀ x, (b.lines.find? fun y => decide (y.number = line)) = some x →
      ((x.measured = true ∨ q = 0 ∨ 999 < q ∨ 99999999 < q * x.price
          ∨ 99999999 < linesTotal (setQuantity line q b).lines) →
        Refuses c .basketTable .lineQuantity h .badField s)
      ∧ (∀ (r : OverrideRecord) (cut : Nat) (changed : State), x.measured = false → 1 ≤ q → q ≤ 999 →
          q * x.price ≤ 99999999 → linesTotal (setQuantity line q b).lines ≤ 99999999 → q ≠ x.quantity →
          recordOf n line s = some r → cut = (x.price - r.price) * q →
          changed = (leaveQueue c s).withBaskets (s.basketTable.baskets.map fun y =>
            if y.number = n then (setQuantity line q y).raised else y) →
          (∀ (who : Authority) (most lanePart : Nat) (lane : Lane) (grants : Prop),
            r.state = .granted who most → most < cut → s.basketTable.lanes[l]? = some lane →
            lanePart = ((s.overrides.filter fun z => decide (z.basket = n) && decide (z.line ≠ line)).map fun z =>
              match z.state with
              | .granted .lane _ => z.reduction
              | .granted (.desk _ _) _ => 0
              | .pending _ _ => 0).sum →
            (grants ↔ who = .lane ∧ r.reason ≠ .goodwill ∧ 0 < r.price ∧ cut ≤ lane.floorLimit
              ∧ lanePart + cut ≤ lane.basketLimit) →
            (grants → Takes c .basketTable s
              (changed.withOverrides (s.overrides.map fun z => if z.basket = n ∧ z.line = line then
                { z with reduction := cut, state := .granted .lane cut } else z))
              [replyTo .lineQuantity h .ok (.sideNote false)])
            ∧ (¬ grants → ∀ (route : Route) (e : Effect), s.router.routes[l]? = some route →
              e = presentationPass (changed.withOverrides (s.overrides.map fun z =>
                if z.basket = n ∧ z.line = line then { z with reduction := cut, state := .pending 0 false } else z)) →
              ((route.mode = .persistent ∨ ∃ z, recordOf n line e.state = some z ∧ isPresented z = true) →
                Takes c .basketTable s e.state (replyTo .lineQuantity h .ok (.sideNote false) :: e.sent))
              ∧ (route.mode = .single → (∀ z, recordOf n line e.state = some z → isPresented z = false) →
                Takes c .basketTable s
                  (e.state.withOverrides
                    (e.state.overrides.filter fun z => decide (¬ (z.basket = n ∧ z.line = line))))
                  (replyTo .lineQuantity h .ok (.sideNote true) :: e.sent))))
          ∧ (∀ (count : Nat) (route : Route) (p : Presentation) (k : Desk) (kept : List OverrideRecord) (e : Effect),
            r.state = .pending count true → s.router.routes[l]? = some route → route.presented = some p →
            p.basket = n → p.line = line → s.router.desks[p.desk]? = some k →
            kept = (if route.mode = .single then
                s.overrides.filter fun z => decide (¬ (z.basket = n ∧ z.line = line))
              else s.overrides.map fun z => if z.basket = n ∧ z.line = line then
                { z with reduction := cut, state := .pending (presentationCount z) false } else z) →
            e = presentationPass ((changed.withRouter
                { routes := s.router.routes.setIfInBounds l { route with presented := none }
                  desks := s.router.desks.setIfInBounds p.desk { k with openCount := k.openCount - 1 } }).withOverrides
              kept) →
            Takes c .basketTable s e.state
              (replyTo .lineQuantity h .ok (.sideNote (decide (route.mode = .single))) ::
                noticeTo .noticeWithdrawn (some l) (.noticeWithdrawn p.desk route.tag line .lane n) :: e.sent)))
      ∧ (x.measured = false → 1 ≤ q → q ≤ 999 → q * x.price ≤ 99999999 →
          linesTotal (setQuantity line q b).lines ≤ 99999999 →
          (q = x.quantity → Takes c .basketTable s (leaveQueue c s) [replyTo .lineQuantity h .ok (.sideNote false)])
          ∧ (q ≠ x.quantity →
              (recordOf n line s = none →
                Takes c .basketTable s
                  ((leaveQueue c s).withBaskets (s.basketTable.baskets.map fun y =>
                    if y.number = n then (setQuantity line q y).raised else y))
                  [replyTo .lineQuantity h .ok (.sideNote false)])
              ∧ (∀ r, recordOf n line s = some r →
                  ((∃ count, r.state = .pending count false)
                    ∨ (∃ a m, r.state = .granted a m ∧ (x.price - r.price) * q ≤ m)) →
                  Takes c .basketTable s
                    (((leaveQueue c s).withBaskets (s.basketTable.baskets.map fun y =>
                        if y.number = n then (setQuantity line q y).raised else y)).withOverrides
                      (s.overrides.map fun z =>
                        if z.basket = n ∧ z.line = line then { z with reduction := (x.price - r.price) * q } else z))
                    [replyTo .lineQuantity h .ok (.sideNote false)])))

/-- LINE VOID and OVERRIDE WITHDRAW of a line whose override record no desk holds (R11, R112, R113): the line, or the
record alone, goes; the record goes with the line; one change to the basket. -/
def Obligations.LineVoidAndOverrideWithdraw : Prop :=
  ∀ (h : Header) (n line l : Nat) (b : Basket) (s : State), Served h n l b s →
    (∀ p, presentationOf l s = some p → ¬ (p.basket = n ∧ p.line = line)) →
    (∀ c, c = .lineVoid h n line → Unhindered c s →
      ((∀ x ∈ b.lines, x.number ≠ line) → Refuses c .basketTable .lineVoid h .noLine s)
      ∧ ((∃ x ∈ b.lines, x.number = line) →
          Takes c .basketTable s
            (((leaveQueue c s).withBaskets (s.basketTable.baskets.map fun y =>
                if y.number = n then Basket.raised { y with lines := y.lines.filter fun x => decide (x.number ≠ line) }
                else y)).withOverrides
              (s.overrides.filter fun r => decide (¬ (r.basket = n ∧ r.line = line))))
            [replyTo .lineVoid h .ok .none]))
    ∧ (∀ c, c = .overrideWithdraw h n line → Unhindered c s →
      ((∀ r ∈ s.overrides, ¬ (r.basket = n ∧ r.line = line)) →
          Refuses c .overrides .overrideWithdraw h .noOverride s)
      ∧ (∀ r, recordOf n line s = some r →
          Takes c .overrides s
            (((leaveQueue c s).withBaskets (s.basketTable.baskets.map fun y =>
                if y.number = n then y.raised else y)).withOverrides
              (s.overrides.filter fun r => decide (¬ (r.basket = n ∧ r.line = line))))
            [replyTo .overrideWithdraw h .ok (.word r.reduction)]))

/-- COUPON PRESENT and COUPON WITHDRAW (R12). -/
def Obligations.CouponRules : Prop :=
  ∀ (h : Header) (n key l : Nat) (b : Basket) (s : State), Served h n l b s →
    (∀ c, c = .couponPresent h n key → Unhindered c s →
      (key = 0 → Refuses c .basketTable .couponPresent h .badField s)
      ∧ (key ≠ 0 → key ∈ b.coupons → Refuses c .basketTable .couponPresent h .duplicate s)
      ∧ (key ≠ 0 → key ∉ b.coupons → 8 ≤ b.coupons.length → Refuses c .basketTable .couponPresent h .couponsFull s)
      ∧ (key ≠ 0 → key ∉ b.coupons → b.coupons.length < 8 →
          Takes c .basketTable s
            ((leaveQueue c s).withBaskets (s.basketTable.baskets.map fun y =>
              if y.number = n then Basket.raised { y with coupons := y.coupons ++ [key] } else y))
            [replyTo .couponPresent h .ok .none]))
    ∧ (∀ c, c = .couponWithdraw h n key → Unhindered c s →
      (key ∉ b.coupons → Refuses c .basketTable .couponWithdraw h .noCoupon s)
      ∧ (key ∈ b.coupons →
          Takes c .basketTable s
            ((leaveQueue c s).withBaskets (s.basketTable.baskets.map fun y =>
              if y.number = n then Basket.raised { y with coupons := y.coupons.filter fun x => decide (x ≠ key) } else y))
            [replyTo .couponWithdraw h .ok .none]))

/-- TOTAL (R16, R79): in OPEN the basket becomes TOTALLING with its TOTAL outstanding, joins the tail of the
evaluation queue, and the lowest-numbered idle unit, if there is one, takes the head of the queue; in TOTALLING it is
refused EVALUATING; in TOTALLED it is answered at once with the summary of the current plan. -/
def Obligations.TotalRule : Prop :=
  ∀ (h : Header) (n l : Nat) (b : Basket) (s : State) (c : Instr), c = .total h n → Unhindered c s →
    Served h n l b s →
    (b.state = .opened → ∃ t, Takes c .basketTable s t []
        ∧ findBasket n t = some { b with state := .totalling, outstanding := some h }
        ∧ t = unitTakes (((leaveQueue c s).withBaskets (s.basketTable.baskets.map fun y =>
            if y.number = n then { y with state := .totalling, outstanding := some h } else y)).withEvaluator
              { s.evaluator with queue := s.evaluator.queue ++ [n] })
        ∧ (∀ m, m ≠ n → findBasket m t = findBasket m s)
        ∧ t.basketTable.parkList = s.basketTable.parkList ∧ t.basketTable.nextNumber = s.basketTable.nextNumber
        ∧ ((∀ u : Nat, u < 4 → s.evaluator.units[u]? ≠ some none) →
            t.evaluator = { s.evaluator with queue := s.evaluator.queue ++ [n] })
        ∧ (∀ u : Nat, s.evaluator.queue = [] → s.evaluator.units[u]? = some none →
            (∀ v : Nat, v < u → s.evaluator.units[v]? ≠ some none) →
            t.evaluator.queue = []
            ∧ (∀ v : Nat, v ≠ u → t.evaluator.units[v]? = s.evaluator.units[v]?)
            ∧ ∃ r : RunningUnit, t.evaluator.units[u]? = some (some r) ∧ r.basket = n ∧ r.discard = false
                ∧ r.snapshot.generation = b.generation ∧ r.snapshot.lines = b.lines
                ∧ r.snapshot.stamp = s.calendar.now)
        ∧ t.link = (leaveQueue c s).link ∧ t.basketTable.lanes = s.basketTable.lanes ∧ t.store = s.store
        ∧ t.tables = s.tables ∧ t.overrides = s.overrides ∧ t.accounts = s.accounts ∧ t.calendar = s.calendar
        ∧ t.router = s.router ∧ t.settlement = s.settlement ∧ t.pending = s.pending)
    ∧ (b.state = .totalling → Refuses c .basketTable .total h .evaluating s)
    ∧ (∀ p, b.state = .totalled → b.plan = some p →
        Takes c .basketTable s (leaveQueue c s) [replyTo .total h .ok (.planSummary p)])

/-- PLAN LINES (R104): BASKET_STATE before the first plan, BAD_FIELD for a start index above the plan's count; else at
most 16 entries from the start index on, the plan's number and mark, its count and the held-offer list; taken in
PARKED too, with any header lane of 0 to 15; no state changes. -/
def Obligations.PlanLinesRule : Prop :=
  ∀ (h : Header) (n start l : Nat) (b : Basket) (s : State) (c : Instr), c = .planLines h n start →
    Unhindered c s → s.link.mode ≠ .maintenance → laneOf h = some l → findBasket n s = some b →
    (b.state = .parked ∨ b.lane = some l) →
    (b.planSeq = 0 → Refuses c .basketTable .planLines h .basketState s)
    ∧ (∀ p, b.planSeq ≠ 0 → b.plan = some p → p.lines.length < start →
        Refuses c .basketTable .planLines h .badField s)
    ∧ (∀ p, b.planSeq ≠ 0 → b.plan = some p → start ≤ p.lines.length →
        Takes c .basketTable s (leaveQueue c s)
          [replyTo .planLines h .ok (.planLines b.planSeq b.current p.lines.length
            ((p.lines.drop start).take 16) b.heldOffers)])

/-- PARK (R17): EVALUATING, OVERRIDE_PENDING, HOLD_ACTIVE, then PARK_FULL; else the basket is PARKED at the tail of
the park list with no lane, the present stamp, the expired mark clear and its timer at the park lifetime; its
generation does not change. -/
def Obligations.ParkRule : Prop :=
  ∀ (h : Header) (n l : Nat) (b : Basket) (r : Lane) (s : State) (c : Instr), c = .park h n → Unhindered c s →
    Served h n l b s → s.basketTable.lanes[l]? = some r →
    (b.state = .totalling → Refuses c .basketTable .park h .evaluating s)
    ∧ (b.state ≠ .totalling → (∃ o ∈ s.overrides, o.basket = n ∧ isPending o = true) →
        Refuses c .basketTable .park h .overridePending s)
    ∧ (b.state ≠ .totalling → (∀ o ∈ s.overrides, o.basket = n → isPending o = false) → basketHold b s ≠ none →
        Refuses c .basketTable .park h .holdActive s)
    ∧ (b.state ≠ .totalling → (∀ o ∈ s.overrides, o.basket = n → isPending o = false) → basketHold b s = none →
        (8 ≤ s.basketTable.parkList.length → Refuses c .basketTable .park h .parkFull s)
        ∧ (s.basketTable.parkList.length < 8 →
            Takes c .basketTable s
              ((leaveQueue c s).withBasketTable { s.basketTable with
                lanes := s.basketTable.lanes.setIfInBounds l { r with active := none }
                baskets := s.basketTable.baskets.map fun y =>
                  if y.number = n then
                    { y with state := .parked, lane := none, current := false, parkTime := some s.calendar.now
                             expired := false, parkTimer := some (1000 * s.tables.limits.parkLifetime) }
                  else y
                parkList := s.basketTable.parkList ++ [n] })
              [replyTo .park h .ok .none]))

/-- RECALL (R20): WRONG_MODE in MAINTENANCE, BAD_FIELD, LANE_CLOSED, LANE_BUSY, then NOT_PARKED; else the basket
leaves the park list and is OPEN on the header lane, its timer stopped, its generation up by 1 and, when it carried
the expired mark, the waiting count down by 1. -/
def Obligations.RecallRule : Prop :=
  ∀ (h : Header) (n : Nat) (s : State) (c : Instr), c = .basketRecall h n → Unhindered c s →
    (s.link.mode = .maintenance → Refuses c .basketTable .basketRecall h .wrongMode s)
    ∧ (s.link.mode ≠ .maintenance → 16 ≤ h.lane.toNat → Refuses c .basketTable .basketRecall h .badField s)
    ∧ (s.link.mode ≠ .maintenance → ∀ r, s.basketTable.lanes[h.lane.toNat]? = some r →
        (r.state = .closed → Refuses c .basketTable .basketRecall h .laneClosed s)
        ∧ (r.state = .opened → r.active ≠ none → Refuses c .basketTable .basketRecall h .laneBusy s)
        ∧ (r.state = .opened → r.active = none → n ∉ s.basketTable.parkList →
            Refuses c .basketTable .basketRecall h .notParked s)
        ∧ (∀ b, r.state = .opened → r.active = none → n ∈ s.basketTable.parkList → findBasket n s = some b →
            Takes c .basketTable s
              (((leaveQueue c s).withBasketTable { s.basketTable with
                lanes := s.basketTable.lanes.setIfInBounds h.lane.toNat { r with active := some n }
                baskets := s.basketTable.baskets.map fun y =>
                  if y.number = n then
                    { y with state := .opened, lane := some h.lane.toNat, parkTime := none, expired := false
                             parkTimer := none, generation := y.generation + 1 }
                  else y
                parkList := s.basketTable.parkList.filter fun m => decide (m ≠ n) }).withSettlement
                { s.settlement with
                  waiting := if b.expired then s.settlement.waiting - 1 else s.settlement.waiting })
              [replyTo .basketRecall h .ok (.recalled n (b.generation + 1))]))

/-- ACCOUNT ATTACH and ACCOUNT DETACH (R13, R150): the basket's account field and the entry's reference count change
together; an entry leaves the idle list when its count rises from 0 and joins its tail when it falls to 0. -/
def Obligations.AttachAndDetach : Prop :=
  ∀ (h : Header) (n a l : Nat) (b : Basket) (s : State), Served h n l b s →
    (∀ c, c = .accountAttach h n a → Unhindered c s →
      (b.account ≠ none → Refuses c .basketTable .accountAttach h .accountAttached s)
      ∧ (b.account = none → findAccount a s = none → Refuses c .basketTable .accountAttach h .notLoaded s)
      ∧ (∀ e, b.account = none → findAccount a s = some e →
          Takes c .basketTable s
            (((leaveQueue c s).withBaskets (s.basketTable.baskets.map fun y =>
                if y.number = n then Basket.raised { y with account := some a } else y)).withAccounts
              { entries := s.accounts.entries.map fun x => if x.number = a then { x with refs := x.refs + 1 } else x
                idle := if e.refs = 0 then s.accounts.idle.filter fun x => decide (x ≠ a) else s.accounts.idle })
            [replyTo .accountAttach h .ok .none]))
    ∧ (∀ c, c = .accountDetach h n → Unhindered c s →
      (b.account = none → Refuses c .basketTable .accountDetach h .noAccount s)
      ∧ (b.account ≠ none → basketHold b s ≠ none → Refuses c .basketTable .accountDetach h .holdActive s)
      ∧ (∀ e, b.account = some a → findAccount a s = some e → basketHold b s = none →
          Takes c .basketTable s
            (((leaveQueue c s).withBaskets (s.basketTable.baskets.map fun y =>
                if y.number = n then Basket.raised { y with account := none } else y)).withAccounts
              { entries := s.accounts.entries.map fun x => if x.number = a then { x with refs := x.refs - 1 } else x
                idle := if e.refs = 1 then s.accounts.idle ++ [a] else s.accounts.idle })
            [replyTo .accountDetach h .ok .none]))

/-- CANCEL (R4, R21, R131, R150, R158, R162): WRONG_MODE in MAINTENANCE, NO_BASKET for a number no basket holds or an
active basket named with another lane, JOURNAL_FULL with 128 records; else an outstanding TOTAL is answered CANCELLED
and then the CANCEL OK, the basket leaves its lane, the park list and the evaluation queue, a unit working on it will
drop its result, its overrides go and a presented one has its notice taken back, its account gives up the hold and the
reference, and a CANCELLED record with cause HOST joins the journal; a presentation pass follows a taking back. The
order of the notices is log 9's reading. -/
def Obligations.CancelRule : Prop :=
  ∀ (h : Header) (n : Nat) (s : State) (c : Instr), c = .cancel h n → Unhindered c s →
    (s.link.mode = .maintenance → Refuses c .basketTable .cancel h .wrongMode s)
    ∧ (s.link.mode ≠ .maintenance → findBasket n s = none → Refuses c .basketTable .cancel h .noBasket s)
    ∧ (∀ b, s.link.mode ≠ .maintenance → findBasket n s = some b →
        (b.state ≠ .parked → b.lane ≠ laneOf h → Refuses c .basketTable .cancel h .noBasket s)
        ∧ (b.state = .parked ∨ b.lane = laneOf h →
            (128 ≤ s.settlement.journal.length → Refuses c .basketTable .cancel h .journalFull s)
            ∧ ∀ (totals waiting : List Message) (back : Effect) (accounts : AccountTable) (remaining : List Basket)
                (ended : State), s.settlement.journal.length < 128 →
              totals = (match b.outstanding with
                | some g => [replyTo .total g .cancelled .none]
                | none => []) →
              waiting = (if s.settlement.journal.length + 1 = s.tables.limits.threshold then
                [noticeTo .journalWaiting none (.journalWaiting (s.settlement.journal.length + 1) s.settlement.waiting
                  s.tables.limits.threshold)]
                else []) →
              ((∀ l p, b.lane = some l → presentationOf l s = some p → p.basket ≠ n)
                  ∧ back = { state := leaveQueue c s, sent := [] }
                ∨ ∃ (l : Nat) (q : Route) (p : Presentation) (k : Desk), b.lane = some l
                  ∧ s.router.routes[l]? = some q ∧ q.presented = some p ∧ p.basket = n
                  ∧ s.router.desks[p.desk]? = some k
                  ∧ back =
                    { state := (leaveQueue c s).withRouter
                        { routes := s.router.routes.setIfInBounds l { q with presented := none }
                          desks := s.router.desks.setIfInBounds p.desk { k with openCount := k.openCount - 1 } }
                      sent := [noticeTo .noticeWithdrawn (some l)
                        (.noticeWithdrawn p.desk q.tag p.line .lane n)] }) →
              (b.account = none ∧ accounts = s.accounts
                ∨ ∃ (a : Nat) (e : Account), b.account = some a ∧ findAccount a s = some e
                  ∧ accounts =
                    { entries := s.accounts.entries.map fun x => if x.number = a then
                        { x with refs := x.refs - 1, holds := x.holds.filter fun y => decide (y.basket ≠ n) } else x
                      idle := if e.refs = 1 then s.accounts.idle ++ [a] else s.accounts.idle }) →
              remaining = (s.basketTable.baskets.filter fun y => decide (y.number ≠ n)) →
              ended = { back.state with
                link := { (leaveQueue c s).link with
                  mode := if s.link.mode = .quiescing ∧ remaining = [] then .maintenance else s.link.mode }
                basketTable :=
                  { lanes := s.basketTable.lanes.map fun r => if r.active = some n then { r with active := none } else r
                    baskets := remaining
                    nextNumber := s.basketTable.nextNumber
                    parkList := s.basketTable.parkList.filter fun m => decide (m ≠ n) }
                evaluator :=
                  { queue := s.evaluator.queue.filter fun m => decide (m ≠ n)
                    units := s.evaluator.units.map fun u =>
                      u.map fun r => if r.basket = n then { r with discard := true } else r }
                overrides := s.overrides.filter fun r => decide (r.basket ≠ n)
                accounts := accounts
                settlement := { s.settlement with
                  journal := s.settlement.journal ++ [.cancelled
                    { identity := s.tables.identity.getD 0, basket := n
                      lane := b.lane.bind fun l => (s.basketTable.lanes[l]?).map fun r => (l, r.laneClass)
                      account := b.account, stamp := s.calendar.now, cause := .host, parkTime := none }] } } →
              (back.sent = [] → Takes c .basketTable s ended (totals ++ replyTo .cancel h .ok .none :: waiting))
              ∧ (∀ f : Effect, back.sent ≠ [] → f = presentationPass ended →
                Takes c .basketTable s f.state
                  (totals ++ replyTo .cancel h .ok .none :: (back.sent ++ f.sent ++ waiting)))))

/-! ### Price overrides and the router -/

/-- OVERRIDE KEY (R107, R108, R110, R111, R128): the checks in order; then, for a line whose record, if it has one, no
desk holds, the old record goes, the new one takes the keying count, and it is GRANTED by the lane within both limits
or PENDING and handed to the router, where a SINGLE route that does not present it at once removes it, DECLINED. -/
def Obligations.OverrideKeyRule : Prop :=
  ∀ (h : Header) (n line price reason l : Nat) (b : Basket) (s : State) (c : Instr),
    c = .overrideKey h n line price reason → Unhindered c s → Served h n l b s →
    ((reason = 0 ∨ 4 < reason ∨ 9999999 < price) → Refuses c .overrides .overrideKey h .badField s)
    ∧ (1 ≤ reason → reason ≤ 4 → price ≤ 9999999 → (∀ x ∈ b.lines, x.number ≠ line) →
        Refuses c .overrides .overrideKey h .noLine s)
    ∧ ∀ why x, reasonOf reason = some why → price ≤ 9999999 →
      (b.lines.find? fun y => decide (y.number = line)) = some x →
      (x.price ≤ price → Refuses c .overrides .overrideKey h .notReduction s)
      ∧ (price < x.price →
          (65535 < b.keyingCount → Refuses c .overrides .overrideKey h .overrideLimit s)
          ∧ (b.keyingCount ≤ 65535 → recordOf n line s = none →
              8 ≤ (s.overrides.filter fun r => decide (r.basket = n)).length →
              Refuses c .overrides .overrideKey h .overrideLimit s)
          ∧ (b.keyingCount ≤ 65535 → recordOf n line s = none →
              (s.overrides.filter fun r => decide (r.basket = n)).length < 8 → 96 ≤ s.overrides.length →
              Refuses c .overrides .overrideKey h .overridesFull s)
          ∧ (∀ (lane : Lane) (cut : Nat) (lanePart : Nat) (keyed : OverrideState → State),
              b.keyingCount ≤ 65535 →
              (recordOf n line s = none → s.overrides.length < 96 ∧
                (s.overrides.filter fun r => decide (r.basket = n)).length < 8) →
              (∀ p, presentationOf l s = some p → ¬ (p.basket = n ∧ p.line = line)) →
              s.basketTable.lanes[l]? = some lane →
              cut = (x.price - price) * x.quantity →
              lanePart = ((s.overrides.filter fun r =>
                decide (r.basket = n) && decide (r.line ≠ line)).map fun r =>
                  match r.state with
                  | .granted .lane _ => r.reduction
                  | .granted (.desk _ _) _ => 0
                  | .pending _ _ => 0).sum →
              keyed = (fun st =>
                ((leaveQueue c s).withBaskets (s.basketTable.baskets.map fun y =>
                    if y.number = n then Basket.raised { y with keyingCount := y.keyingCount + 1 } else y)).withOverrides
                  ((s.overrides.filter fun r => decide (¬ (r.basket = n ∧ r.line = line))) ++
                    [{ basket := n, line := line, seq := b.keyingCount, price := price, reason := why
                       reduction := cut, state := st }])) →
              ((why ≠ .goodwill ∧ 0 < price ∧ cut ≤ lane.floorLimit ∧ lanePart + cut ≤ lane.basketLimit) →
                Takes c .overrides s (keyed (.granted .lane cut))
                  [replyTo .overrideKey h .ok (.overrideKeyed .granted b.keyingCount cut)])
              ∧ (¬ (why ≠ .goodwill ∧ 0 < price ∧ cut ≤ lane.floorLimit ∧ lanePart + cut ≤ lane.basketLimit) →
                ∀ (route : Route) (e : Effect), s.router.routes[l]? = some route →
                  e = presentationPass (keyed (.pending 0 false)) →
                  ((route.mode = .persistent ∨ ∃ r, recordOf n line e.state = some r ∧ isPresented r = true) →
                    Takes c .overrides s e.state
                      (replyTo .overrideKey h .ok (.overrideKeyed .pending b.keyingCount cut) :: e.sent))
                  ∧ (route.mode = .single → (∀ r, recordOf n line e.state = some r → isPresented r = false) →
                    Takes c .overrides s
                      (e.state.withOverrides
                        (e.state.overrides.filter fun r => decide (¬ (r.basket = n ∧ r.line = line))))
                      (replyTo .overrideKey h .ok (.overrideKeyed .declined b.keyingCount cut) :: e.sent)))))

/-- A lane action takes a presented record's notice back (R109, R112, R113, R131): OVERRIDE WITHDRAW, LINE VOID and an
OVERRIDE KEY for the same line end the presentation, lower the desk's open count alone, remove the record with one
change to the basket, and send the reply, NOTICE WITHDRAWN with cause LANE and then what the presentation pass
presents; the record an OVERRIDE KEY makes in its place is GRANTED by the lane or handed to the router as any new one.
One pass runs, at the end of the event, also where an OVERRIDE KEY takes a notice back and leaves a PENDING record:
log 10's DEDUCED reading of R127. -/
def Obligations.LaneActionTakesNoticeBack : Prop :=
  ∀ (h : Header) (n line l : Nat) (b : Basket) (q : Route) (p : Presentation) (k : Desk) (ended : State → State)
      (withdrawn : Message) (s : State),
    Served h n l b s → s.router.routes[l]? = some q → q.presented = some p → p.basket = n → p.line = line →
    s.router.desks[p.desk]? = some k →
    ended = (fun u => (u.withRouter { s.router with
        routes := s.router.routes.setIfInBounds l { q with presented := none }
        desks := s.router.desks.setIfInBounds p.desk { k with openCount := k.openCount - 1 } }).withOverrides
      (s.overrides.filter fun r => decide (¬ (r.basket = n ∧ r.line = line)))) →
    withdrawn = noticeTo .noticeWithdrawn (some l) (.noticeWithdrawn p.desk q.tag line .lane n) →
    (∀ c r, c = .overrideWithdraw h n line → Unhindered c s → recordOf n line s = some r →
      ∀ e : Effect, e = presentationPass (ended ((leaveQueue c s).withBaskets (s.basketTable.baskets.map fun y =>
          if y.number = n then y.raised else y))) →
        Takes c .overrides s e.state (replyTo .overrideWithdraw h .ok (.word r.reduction) :: withdrawn :: e.sent))
    ∧ (∀ c, c = .lineVoid h n line → Unhindered c s → (∃ x ∈ b.lines, x.number = line) →
      ∀ e : Effect, e = presentationPass (ended ((leaveQueue c s).withBaskets (s.basketTable.baskets.map fun y =>
          if y.number = n then
            Basket.raised { y with lines := y.lines.filter fun x => decide (x.number ≠ line) } else y))) →
        Takes c .basketTable s e.state (replyTo .lineVoid h .ok .none :: withdrawn :: e.sent))
    ∧ (∀ (c : Instr) (price reason : Nat) (why : Reason) (x : Line) (lane : Lane) (cut lanePart : Nat) (grants : Prop)
        (keyed : OverrideState → State), c = .overrideKey h n line price reason → Unhindered c s →
      reasonOf reason = some why → price ≤ 9999999 → (b.lines.find? fun y => decide (y.number = line)) = some x →
      price < x.price → b.keyingCount ≤ 65535 → recordOf n line s ≠ none → s.basketTable.lanes[l]? = some lane →
      cut = (x.price - price) * x.quantity →
      lanePart = ((s.overrides.filter fun r => decide (r.basket = n) && decide (r.line ≠ line)).map fun r =>
        match r.state with
        | .granted .lane _ => r.reduction
        | .granted (.desk _ _) _ => 0
        | .pending _ _ => 0).sum →
      (grants ↔ why ≠ .goodwill ∧ 0 < price ∧ cut ≤ lane.floorLimit ∧ lanePart + cut ≤ lane.basketLimit) →
      keyed = (fun st =>
        let u := ended ((leaveQueue c s).withBaskets (s.basketTable.baskets.map fun y =>
          if y.number = n then Basket.raised { y with keyingCount := y.keyingCount + 1 } else y))
        u.withOverrides (u.overrides ++ [{ basket := n, line := line, seq := b.keyingCount, price := price, reason := why
                                           reduction := cut, state := st }])) →
      (grants → ∀ e : Effect, e = presentationPass (keyed (.granted .lane cut)) →
        Takes c .overrides s e.state
          (replyTo .overrideKey h .ok (.overrideKeyed .granted b.keyingCount cut) :: withdrawn :: e.sent))
      ∧ (¬ grants → ∀ e : Effect, e = presentationPass (keyed (.pending 0 false)) →
        ((q.mode = .persistent ∨ ∃ r, recordOf n line e.state = some r ∧ isPresented r = true) →
          Takes c .overrides s e.state
            (replyTo .overrideKey h .ok (.overrideKeyed .pending b.keyingCount cut) :: withdrawn :: e.sent))
        ∧ (q.mode = .single → (∀ r, recordOf n line e.state = some r → isPresented r = false) →
          Takes c .overrides s
            (e.state.withOverrides (e.state.overrides.filter fun r => decide (¬ (r.basket = n ∧ r.line = line))))
            (replyTo .overrideKey h .ok (.overrideKeyed .declined b.keyingCount cut) :: withdrawn :: e.sent))))

/-- When a route presents (R124, R125), what a presentation does (R117, R126), and the pass over the routes in
ascending lane number (R127). -/
def Obligations.PresentationRule : Prop :=
  (∀ s : State, presentationPass s =
    (List.range 16).foldl (fun e l => e.andThen (presentIfAble l)) { state := s, sent := [] })
  ∧ (∀ (l : Nat) (s : State), canPresent l s = none → presentIfAble l s = { state := s, sent := [] })
  ∧ (∀ (l : Nat) (s : State), canPresent l s = none ↔
      ∀ (q : Route) (b : Basket) (d : Nat) (k : Desk), s.router.routes[l]? = some q → q.masked = false →
        q.presented = none → activeBasket l s = some b → (q.desk = none ∨ q.desk = some d) →
        s.router.desks[d]? = some k → k.onDuty = true → k.openCount < 8 →
        ∀ r ∈ s.overrides, r.basket = b.number → isWaiting r = false)
  ∧ ∀ (l d : Nat) (s : State) (r : OverrideRecord), canPresent l s = some (r, d) →
      ∃ (q : Route) (b : Basket) (k : Desk),
        s.router.routes[l]? = some q ∧ activeBasket l s = some b ∧ s.router.desks[d]? = some k
        ∧ r ∈ s.overrides ∧ r.basket = b.number ∧ isWaiting r = true
        ∧ (∀ o ∈ s.overrides, o.basket = b.number → isWaiting o = true → r.seq ≤ o.seq)
        ∧ k.onDuty = true ∧ k.openCount < 8
        ∧ (∀ e : Nat, q.desk = some e → e = d)
        ∧ (q.desk = none → ∀ (e : Nat) (m : Desk), s.router.desks[e]? = some m → m.onDuty = true →
            k.openCount < m.openCount ∨ k.openCount = m.openCount ∧ d ≤ e)
        ∧ ∀ x : Line, ((findBasket r.basket s).bind fun y => y.lines.find? fun z => decide (z.number = r.line)) = some x →
          presentIfAble l s =
            { state := (s.withRouter
                { routes := s.router.routes.setIfInBounds l { q with
                    tag := q.tag + 1
                    presented := some { basket := r.basket, line := r.line, seq := r.seq, desk := d
                                        timer := 1000 * s.tables.limits.noticeLimit } }
                  desks := s.router.desks.setIfInBounds d { k with
                    openCount := k.openCount + 1, presentedTotal := k.presentedTotal + 1 } }).withOverrides
                (s.overrides.map fun o => if o.basket = r.basket ∧ o.line = r.line then
                  { o with state := .pending (min (presentationCount o + 1) 255) true } else o)
              sent := [noticeTo .deskNotice (some l) (.deskNotice
                { desk := d, tag := q.tag + 1, code := q.code, line := r.line, basket := r.basket, seq := r.seq
                  item := x.item, quantity := x.quantity, shelfPrice := x.price, price := r.price
                  reason := r.reason, count := min (presentationCount r + 1) 255, reduction := r.reduction })] }

/-- AUTHORISE and DECLINE (R118, R129, R130): WRONG_MODE, BAD_FIELD, then TOO_LATE with the route's present tag, or
none with nothing presented, unless tag and desk are those of the presentation; a decision taken ends the
presentation, grants or removes the record with one change to the basket, and sends the reply, OVERRIDE OUTCOME, PLAN
STALE if the basket was TOTALLED, and then what the presentation pass presents. -/
def Obligations.DecisionRule : Prop :=
  ∀ (h : Header) (desk : Nat) (tag : Byte) (op : Nat) (s : State) (c : Instr) (k : RequestKind),
    (c = .authorise h desk tag op ∧ k = .authorise ∨ c = .decline h desk tag op ∧ k = .decline) → Unhindered c s →
    (s.link.mode = .maintenance → Refuses c .router k h .wrongMode s)
    ∧ (s.link.mode ≠ .maintenance → (16 ≤ h.lane.toNat ∨ 4 ≤ desk) → Refuses c .router k h .badField s)
    ∧ (s.link.mode ≠ .maintenance → h.lane.toNat < 16 → desk < 4 →
        ∀ q : Route, s.router.routes[h.lane.toNat]? = some q →
        (q.presented = none → Takes c .router s (leaveQueue c s) [replyTo k h .tooLate (.tooLate none)])
        ∧ (∀ p, q.presented = some p → (q.tag ≠ tag ∨ p.desk ≠ desk) →
            Takes c .router s (leaveQueue c s) [replyTo k h .tooLate (.tooLate (some q.tag))])
        ∧ (∀ (p : Presentation) (d : Desk) (r : OverrideRecord) (ended : State),
            q.presented = some p → q.tag = tag → p.desk = desk → s.router.desks[desk]? = some d →
            recordOf p.basket p.line s = some r →
            ended = (leaveQueue c s).withRouter
              { routes := s.router.routes.setIfInBounds h.lane.toNat { q with presented := none }
                desks := s.router.desks.setIfInBounds desk { d with
                  openCount := d.openCount - 1, decidedTotal := d.decidedTotal + 1 } } →
            (k = .authorise → ∀ e f : Effect,
              e = staleClaim [p.basket] (ended.withOverrides (s.overrides.map fun o =>
                if o.basket = p.basket ∧ o.line = p.line then { o with state := .granted (.desk desk op) o.reduction }
                else o)) →
              f = presentationPass e.state →
              Takes c .router s f.state
                ([replyTo k h .ok (.decided p.basket p.line p.seq),
                  noticeTo .overrideOutcome (some h.lane.toNat) (.overrideOutcome
                    { basket := p.basket, line := p.line, outcome := .granted, seq := r.seq, cause := none
                      desk := some desk, operator := op, authorised := r.reduction, count := 0 })]
                  ++ e.sent ++ f.sent))
            ∧ (k = .decline → ∀ e f : Effect,
              e = staleClaim [p.basket] (ended.withOverrides (s.overrides.filter fun o =>
                decide (¬ (o.basket = p.basket ∧ o.line = p.line)))) →
              f = presentationPass e.state →
              Takes c .router s f.state
                ([replyTo k h .ok (.decided p.basket p.line p.seq),
                  noticeTo .overrideOutcome (some h.lane.toNat) (.overrideOutcome
                    { basket := p.basket, line := p.line, outcome := .declined, seq := r.seq
                      cause := some .deskDeclined, desk := some desk, operator := 0, authorised := 0, count := 0 })]
                  ++ e.sent ++ f.sent))))

/-- A recall (R119, R132): the presentation ends, the desk's open count alone falls, NOTICE WITHDRAWN goes out with
the cause; a SINGLE route's record is removed DECLINED, a PERSISTENT route's record at the presentations limit is
removed LAPSED, and one below it waits again with its count. Recalls of several routes follow one another. The order
of NOTICE WITHDRAWN, OVERRIDE OUTCOME and PLAN STALE is log 9's reading. -/
def Obligations.RecallOfNotices : Prop :=
  (∀ (cause : Cause) (l : Nat) (s : State), presentationOf l s = none → recallLane cause l s = { state := s, sent := [] })
  ∧ (∀ (cause : Cause) (l : Nat) (ls : List Nat) (s : State),
      recallLanes cause [] s = { state := s, sent := [] }
      ∧ recallLanes cause (l :: ls) s = (recallLane cause l s).andThen (recallLanes cause ls))
  ∧ ∀ (cause : Cause) (l : Nat) (s : State) (q : Route) (p : Presentation) (d : Desk) (r : OverrideRecord)
      (ended : List OverrideRecord → State) (withdrawn : Message) (outcome : OverrideOutcome → Nat → Message),
      s.router.routes[l]? = some q → q.presented = some p → s.router.desks[p.desk]? = some d →
      recordOf p.basket p.line s = some r →
      ended = (fun os => (s.withRouter
        { routes := s.router.routes.setIfInBounds l { q with presented := none }
          desks := s.router.desks.setIfInBounds p.desk { d with openCount := d.openCount - 1 } }).withOverrides os) →
      withdrawn = noticeTo .noticeWithdrawn (some l) (.noticeWithdrawn p.desk q.tag p.line cause p.basket) →
      outcome = (fun o count => noticeTo .overrideOutcome (some l) (.overrideOutcome
        { basket := p.basket, line := p.line, outcome := o, seq := r.seq, cause := some cause, desk := some p.desk
          operator := 0, authorised := 0, count := count })) →
      (∀ e : Effect,
        e = staleClaim [p.basket] (ended (s.overrides.filter fun o =>
          decide (¬ (o.basket = p.basket ∧ o.line = p.line)))) →
        (q.mode = .single →
          recallLane cause l s = { state := e.state, sent := withdrawn :: outcome .declined 0 :: e.sent })
        ∧ (q.mode = .persistent → s.tables.limits.presentations ≤ presentationCount r →
          recallLane cause l s =
            { state := e.state, sent := withdrawn :: outcome .lapsed (presentationCount r) :: e.sent }))
      ∧ (q.mode = .persistent → presentationCount r < s.tables.limits.presentations →
          recallLane cause l s =
            { state := ended (s.overrides.map fun o =>
                if o.basket = p.basket ∧ o.line = p.line then { o with state := .pending (presentationCount o) false }
                else o)
              sent := [withdrawn] })

/-- The notice timer's expiry, DESK RECALL and DESK DUTY (R133 to R135): the presentations concerned are recalled in
ascending lane order with their cause, one presentation pass follows, and the reply with the number recalled goes out
first; a desk put on duty is followed by a pass; the duty a desk has already changes nothing. -/
def Obligations.RecallsAndDuty : Prop :=
  ∀ (h : Header) (desk duty code l : Nat) (s : State),
    (∀ c, c = .noticeTimerExpiry l → Unhindered c s →
      ∀ e f : Effect, presentationOf l s ≠ none → e = recallLane .timedOut l (leaveQueue c s) →
        f = presentationPass e.state → Takes c .router s f.state (e.sent ++ f.sent))
    ∧ (∀ c, c = .deskRecall h code → Unhindered c s →
      (256 ≤ code → Refuses c .router .deskRecall h .badField s)
      ∧ (∀ (ls : List Nat) (e f : Effect), code < 256 →
          ls = ((List.range 16).filter fun i => (s.router.routes[i]?).any fun q =>
            q.presented.isSome && decide (q.code = code)) →
          e = recallLanes .recalled ls (leaveQueue c s) → f = presentationPass e.state →
          Takes c .router s f.state (replyTo .deskRecall h .ok (.byte ls.length) :: e.sent ++ f.sent)))
    ∧ (∀ c, c = .deskDuty h desk duty → Unhindered c s →
      ((4 ≤ desk ∨ 2 ≤ duty) → Refuses c .router .deskDuty h .badField s)
      ∧ ∀ (k : Desk) (on : Bool) (turned : State), s.router.desks[desk]? = some k →
          (duty = 0 ∧ on = false ∨ duty = 1 ∧ on = true) →
          turned = (leaveQueue c s).withRouter { s.router with
            desks := s.router.desks.setIfInBounds desk { k with onDuty := on } } →
          (k.onDuty = on → Takes c .router s (leaveQueue c s) [replyTo .deskDuty h .ok (.deskDuty on 0)])
          ∧ (k.onDuty = false → on = true → ∀ f : Effect, f = presentationPass turned →
              Takes c .router s f.state (replyTo .deskDuty h .ok (.deskDuty true 0) :: f.sent))
          ∧ (∀ (ls : List Nat) (e f : Effect), k.onDuty = true → on = false →
              ls = ((List.range 16).filter fun i => (presentationOf i s).any fun p => decide (p.desk = desk)) →
              e = recallLanes .deskOff ls turned → f = presentationPass e.state →
              Takes c .router s f.state
                (replyTo .deskDuty h .ok (.deskDuty false ls.length) :: e.sent ++ f.sent)))

/-- ROUTE MASK and ROUTE SET (R137, R138): the field checks; ROUTE_BUSY unless the route is masked with nothing
presented; the three route fields replaced together, and on a change to SINGLE the PENDING records of the lane's
basket removed as one change, with OVERRIDE OUTCOME for each in keying order and PLAN STALE after them. The reply to
ROUTE MASK tells of a presentation as the request finds it (log 26, the model's reading). -/
def Obligations.RouteRequests : Prop :=
  ∀ (h : Header) (desk mode code setting : Nat) (s : State),
    (∀ c, c = .routeMask h setting → Unhindered c s →
      ((16 ≤ h.lane.toNat ∨ 2 ≤ setting) → Refuses c .router .routeMask h .badField s)
      ∧ ∀ (q : Route) (on : Bool) (turned : State), s.router.routes[h.lane.toNat]? = some q →
          (setting = 0 ∧ on = false ∨ setting = 1 ∧ on = true) →
          turned = (leaveQueue c s).withRouter { s.router with
            routes := s.router.routes.setIfInBounds h.lane.toNat { q with masked := on } } →
          (q.masked = on → Takes c .router s (leaveQueue c s)
            [replyTo .routeMask h .ok (.routeMask on q.presented.isSome)])
          ∧ (q.masked = false → on = true → Takes c .router s turned
            [replyTo .routeMask h .ok (.routeMask true q.presented.isSome)])
          ∧ (q.masked = true → on = false → ∀ f : Effect, f = presentationPass turned →
            Takes c .router s f.state (replyTo .routeMask h .ok (.routeMask false q.presented.isSome) :: f.sent)))
    ∧ (∀ c, c = .routeSet h desk mode code → Unhindered c s →
      ((16 ≤ h.lane.toNat ∨ (4 ≤ desk ∧ desk ≠ 255) ∨ 2 ≤ mode ∨ 256 ≤ code) →
        Refuses c .router .routeSet h .badField s)
      ∧ ∀ (q : Route) (target : Option Nat) (m : RouteMode) (turned : State),
          s.router.routes[h.lane.toNat]? = some q →
          (desk < 4 ∧ target = some desk ∨ desk = 255 ∧ target = none) →
          (mode = 0 ∧ m = .single ∨ mode = 1 ∧ m = .persistent) → code < 256 →
          turned = (leaveQueue c s).withRouter { s.router with
            routes := s.router.routes.setIfInBounds h.lane.toNat { q with desk := target, mode := m, code := code } } →
          ((q.masked = false ∨ q.presented ≠ none) → Refuses c .router .routeSet h .routeBusy s)
          ∧ (q.masked = true → q.presented = none →
              (m = .persistent ∨ (∀ b, activeBasket h.lane.toNat s = some b →
                ∀ r ∈ s.overrides, r.basket = b.number → isPending r = false)) →
              Takes c .router s turned [replyTo .routeSet h .ok .none])
          ∧ (∀ (b : Basket) (rs : List OverrideRecord) (e : Effect), q.masked = true → q.presented = none →
              m = .single → activeBasket h.lane.toNat s = some b →
              rs = bySeq (s.overrides.filter fun r => decide (r.basket = b.number) && isPending r) → rs ≠ [] →
              e = staleClaim [b.number] (turned.withOverrides (s.overrides.filter fun r =>
                !(decide (r.basket = b.number) && isPending r))) →
              Takes c .router s e.state
                (replyTo .routeSet h .ok .none ::
                  (rs.map fun r => noticeTo .overrideOutcome (some h.lane.toNat) (.overrideOutcome
                    { basket := r.basket, line := r.line, outcome := .declined, seq := r.seq
                      cause := some .routeClosed, desk := none, operator := 0, authorised := 0, count := 0 }))
                  ++ e.sent)))

/-- DESK STATUS, ACCOUNT READ, OFFER READ and STORE STATUS (R33, R45, R141, R149): the reply carries the desk, the
account, the slot or the store as it stands; nothing changes. -/
def Obligations.ReadsReportAndChangeNothing : Prop :=
  ∀ (h : Header) (desk a slot : Nat) (s : State),
    (∀ c, c = .deskStatus h desk → Unhindered c s →
      (4 ≤ desk → Refuses c .router .deskStatus h .badField s)
      ∧ ∀ k : Desk, s.router.desks[desk]? = some k →
          Takes c .router s (leaveQueue c s) [replyTo .deskStatus h .ok
            (.deskStatus k.onDuty k.openCount k.presentedTotal k.decidedTotal
              ((List.range 16).flatMap fun l =>
                match s.router.routes[l]? with
                | some q =>
                  match q.presented with
                  | some p =>
                    if p.desk = desk then
                      [{ lane := l, tag := q.tag, basket := p.basket, line := p.line, seconds := p.timer / 1000 }]
                    else []
                  | none => []
                | none => []))])
    ∧ (∀ c, c = .accountRead h a → Unhindered c s →
      ((a = 0 ∨ 9999999999 < a) → Refuses c .accounts .accountRead h .badField s)
      ∧ (1 ≤ a → a ≤ 9999999999 → findAccount a s = none → Refuses c .accounts .accountRead h .notLoaded s)
      ∧ (∀ (e : Account) (report : AccountReport), 1 ≤ a → a ≤ 9999999999 → findAccount a s = some e →
          (a ∉ s.accounts.idle → report.idlePosition = none) →
          (a ∈ s.accounts.idle → ∃ k, report.idlePosition = some k ∧ s.accounts.idle[k]? = some a
            ∧ ∀ j, j < k → s.accounts.idle[j]? ≠ some a) →
          report.account = e → report.heldTotal = (e.holds.map Hold.points).sum →
          report.available = e.balance - (e.holds.map Hold.points).sum →
          report.entries = s.accounts.entries.length → report.idleEntries = s.accounts.idle.length →
          report.holds = (e.holds.map fun x =>
            { basket := x.basket, lane := x.lane, points := x.points, seconds := x.timer / 1000 }) →
          Takes c .accounts s (leaveQueue c s) [replyTo .accountRead h .ok (.accountRead report)]))
    ∧ (∀ c, c = .offerRead h slot → Unhindered c s →
      (512 ≤ slot → Refuses c .store .offerRead h .badField s)
      ∧ (∀ cond state active record, slot < 512 → s.store.condemned[slot / 64]? = some cond →
          (OfferArray.read s.store.slots slot = none ∧ state = .erased ∧ active = false ∧ record = none
            ∨ (∃ r a, OfferArray.read s.store.slots slot = some (.live r a)
                ∧ state = .live ∧ active = a ∧ record = some r)
            ∨ (∃ r, OfferArray.read s.store.slots slot = some (.retired r)
                ∧ state = .retired ∧ active = false ∧ record = some r)
            ∨ OfferArray.read s.store.slots slot = some .damaged ∧ state = .damaged ∧ active = false ∧ record = none) →
          Takes c .store s (leaveQueue c s) [replyTo .offerRead h .ok
            (.offerRead state (decide (s.store.withdrawing = some slot)) active cond
              (decide (s.store.program.map Program.slot = some slot)) record)]))
    ∧ (∀ c, c = .storeStatus h → Unhindered c s →
      Takes c .store s (leaveQueue c s) [replyTo .storeStatus h .ok (.storeStatus
        { controller := s.store.controller, inProgress := s.store.inProgress
          waiting := s.store.waiting.toList.map List.length
          condemned := s.store.condemned.toList, withdrawing := s.store.withdrawing
          programming := s.store.program.map Program.slot
          counts :=
            { erased := 512 - s.store.slots.length
              live := (s.store.slots.filter fun p => decide (slotState (some p.2) = .live)).length
              retired := (s.store.slots.filter fun p => decide (slotState (some p.2) = .retired)).length
              damaged := (s.store.slots.filter fun p => decide (slotState (some p.2) = .damaged)).length }
          active := (s.store.slots.filter fun p =>
            match p.2 with
            | .live _ a => a
            | .retired _ => false
            | .damaged => false).length })])

/-! ### Accounts and point holds -/

/-- ACCOUNT LOAD and ACCOUNT EVICT (R145 to R148): BAD_FIELD; a new entry joins the table and the tail of the idle
list, in place of the idle list's head when the table is full; a refresh is refused HOLDS_EXCEED below the held total,
else replaces tier, flags and balance, moves an idle entry to the tail and sends a stale claim when tier or flags
change; an eviction is refused NOT_LOADED or IN_USE, else the entry leaves the table and the idle list. -/
def Obligations.AccountLoadAndEvict : Prop :=
  ∀ (h : Header) (a tier : Nat) (flags : Flags) (balance : Nat) (s : State),
    (∀ c, c = .accountLoad h a tier flags balance → Unhindered c s →
      ((a = 0 ∨ 9999999999 < a ∨ 5 ≤ tier ∨ 99999999 < balance) → Refuses c .accounts .accountLoad h .badField s)
      ∧ ∀ t : Tier, 1 ≤ a → a ≤ 9999999999 → tierOf tier = some t → balance ≤ 99999999 →
        (∀ fresh : Account, findAccount a s = none →
          fresh = { number := a, tier := t, flags := flags, balance := balance, holds := [], refs := 0 } →
          (s.accounts.entries.length < 256 →
            Takes c .accounts s
              ((leaveQueue c s).withAccounts
                { entries := s.accounts.entries ++ [fresh], idle := s.accounts.idle ++ [a] })
              [replyTo .accountLoad h .ok (.accountLoaded true none balance 0)])
          ∧ (∀ old rest, 256 ≤ s.accounts.entries.length → s.accounts.idle = old :: rest →
            Takes c .accounts s
              ((leaveQueue c s).withAccounts
                { entries := (s.accounts.entries.filter fun x => decide (x.number ≠ old)) ++ [fresh]
                  idle := rest ++ [a] })
              [replyTo .accountLoad h .ok (.accountLoaded true (some old) balance 0)]))
        ∧ (∀ (e : Account) (held : Nat) (refreshed : State) (f : Effect), findAccount a s = some e →
          held = (e.holds.map Hold.points).sum →
          refreshed = (leaveQueue c s).withAccounts
            { entries := s.accounts.entries.map fun x =>
                if x.number = a then { x with tier := t, flags := flags, balance := balance } else x
              idle := if e.refs = 0 then (s.accounts.idle.filter fun x => decide (x ≠ a)) ++ [a]
                else s.accounts.idle } →
          f = staleClaim ((s.basketTable.baskets.filter fun b => decide (b.account = some a)).map Basket.number)
            refreshed →
          (balance < held → Takes c .accounts s (leaveQueue c s)
            [replyTo .accountLoad h .holdsExceed (.word held)])
          ∧ (held ≤ balance → t = e.tier → flags = e.flags →
              Takes c .accounts s refreshed
                [replyTo .accountLoad h .ok (.accountLoaded false none (balance - held) e.refs)])
          ∧ (held ≤ balance → (t ≠ e.tier ∨ flags ≠ e.flags) →
              Takes c .accounts s f.state
                (replyTo .accountLoad h .ok (.accountLoaded false none (balance - held) e.refs) :: f.sent))))
    ∧ (∀ c, c = .accountEvict h a → Unhindered c s →
      ((a = 0 ∨ 9999999999 < a) → Refuses c .accounts .accountEvict h .badField s)
      ∧ (1 ≤ a → a ≤ 9999999999 → findAccount a s = none → Refuses c .accounts .accountEvict h .notLoaded s)
      ∧ ∀ e, 1 ≤ a → a ≤ 9999999999 → findAccount a s = some e →
        ((e.refs ≠ 0 ∨ e.holds ≠ []) →
          Takes c .accounts s (leaveQueue c s) [replyTo .accountEvict h .inUse (.byte e.refs)])
        ∧ (e.refs = 0 → e.holds = [] →
          Takes c .accounts s
            ((leaveQueue c s).withAccounts
              { entries := s.accounts.entries.filter fun x => decide (x.number ≠ a)
                idle := s.accounts.idle.filter fun x => decide (x ≠ a) })
            [replyTo .accountEvict h .ok (.word e.balance)]))

/-- REDEEM (R151 to R153): PLAN_STALE in OPEN, EVALUATING in TOTALLING, BAD_FIELD, NO_ACCOUNT, REDEEM_EXCEEDS with the
payable, INSUFFICIENT with the points available to the basket, HOLDS_FULL; else the basket's hold is placed, amended
with a fresh timer, or let go at 0 points; the balance does not change. -/
def Obligations.RedeemRule : Prop :=
  ∀ (h : Header) (n points l : Nat) (b : Basket) (s : State) (c : Instr), c = .redeem h n points → Unhindered c s →
    Served h n l b s →
    (b.state = .opened → Refuses c .accounts .redeem h .planStale s)
    ∧ (b.state = .totalling → Refuses c .accounts .redeem h .evaluating s)
    ∧ (b.state = .totalled → 99999999 < points → Refuses c .accounts .redeem h .badField s)
    ∧ (b.state = .totalled → points ≤ 99999999 → b.account = none → Refuses c .accounts .redeem h .noAccount s)
    ∧ ∀ (a payable others value : Nat) (p : Plan) (e : Account) (held : List Hold → State),
        b.state = .totalled → points ≤ 99999999 → b.plan = some p → p.payable = payable →
        b.account = some a → findAccount a s = some e →
        others = ((e.holds.filter fun x => decide (x.basket ≠ n)).map Hold.points).sum →
        value = points * s.tables.limits.pointValue / 100 →
        held = (fun xs => (leaveQueue c s).withAccounts { s.accounts with
          entries := s.accounts.entries.map fun x => if x.number = a then { x with holds := xs } else x }) →
        (s.accounts.entries.map Account.number).Nodup →
        (payable < value → Takes c .accounts s (leaveQueue c s)
          [replyTo .redeem h .redeemExceeds (.word payable)])
        ∧ (value ≤ payable → e.balance - others < points → Takes c .accounts s (leaveQueue c s)
          [replyTo .redeem h .insufficient (.word (e.balance - others))])
        ∧ (value ≤ payable → points ≤ e.balance - others → 0 < points → (∀ x ∈ e.holds, x.basket ≠ n) →
            (4 ≤ e.holds.length → Refuses c .accounts .redeem h .holdsFull s)
            ∧ (e.holds.length < 4 → Takes c .accounts s
                (held (e.holds ++ [{ basket := n, lane := l, points := points
                                     timer := 1000 * s.tables.limits.holdLifetime }]))
                [replyTo .redeem h .ok (.redeemed points value s.tables.limits.holdLifetime
                  (e.balance - (others + points)))]))
        ∧ (value ≤ payable → points ≤ e.balance - others → 0 < points → (∃ x ∈ e.holds, x.basket = n) →
            (e.holds.map Hold.basket).Nodup →
            Takes c .accounts s
              (held (e.holds.map fun x => if x.basket = n then
                { x with points := points, timer := 1000 * s.tables.limits.holdLifetime } else x))
              [replyTo .redeem h .ok (.redeemed points value s.tables.limits.holdLifetime
                (e.balance - (others + points)))])
        ∧ (points = 0 → Takes c .accounts s
            (held (e.holds.filter fun x => decide (x.basket ≠ n)))
            [replyTo .redeem h .ok (.redeemed 0 0 0 (e.balance - others))])

/-- How a hold goes without a settlement (R154, R155): REDEEM RELEASE is refused NO_ACCOUNT, else lets the basket's
hold go and answers with its points, or 0; the hold timer's expiry removes the hold and sends HOLD LAPSED to its lane.
-/
def Obligations.HoldsEnd : Prop :=
  ∀ (h : Header) (n : Nat) (s : State),
    (∀ c (l : Nat) (b : Basket), c = .redeemRelease h n → Unhindered c s → Served h n l b s →
      (b.account = none → Refuses c .accounts .redeemRelease h .noAccount s)
      ∧ (∀ (a : Nat) (e : Account), b.account = some a → findAccount a s = some e →
          ∀ points, (∃ x, (e.holds.find? fun x => decide (x.basket = n)) = some x ∧ points = x.points)
              ∨ ((∀ x ∈ e.holds, x.basket ≠ n) ∧ points = 0) →
            Takes c .accounts s
              ((leaveQueue c s).withAccounts { s.accounts with
                entries := s.accounts.entries.map fun x => if x.number = a then
                  { x with holds := x.holds.filter fun y => decide (y.basket ≠ n) } else x })
              [replyTo .redeemRelease h .ok (.word points)]))
    ∧ (∀ c, c = .holdTimerExpiry n → Unhindered c s →
      ∀ (e : Account) (x : Hold),
        (s.accounts.entries.find? fun e => e.holds.any fun y => decide (y.basket = n)) = some e →
        (e.holds.find? fun y => decide (y.basket = n)) = some x →
        Takes c .accounts s
          ((leaveQueue c s).withAccounts { s.accounts with
            entries := s.accounts.entries.map fun y => if y.number = e.number then
              { y with holds := y.holds.filter fun z => decide (z.basket ≠ n) } else y })
          [noticeTo .holdLapsed (some x.lane) (.holdLapsed n e.number x.points)])

/-! ### The offer store -/

/-- The check of an offer record (R25, section 2.2), and OFFER WRITE with the completion of its program (R29, R30,
R42): BAD_FIELD, STORE_FAULT, STORE_BUSY, SECTOR_ERASING, NOT_BLANK, DUPLICATE_OFFER, else the program starts and the
reply waits; success makes the slot LIVE with its active mark matched at that moment, failure makes it DAMAGED and the
controller FAULT, and in suspension abandons the erasure, FAILED before ABANDONED (log 14, the model's reading). -/
def Obligations.OfferWriteRule : Prop :=
  (∀ r : OfferRecord, recordOk r = true ↔
    1 ≤ r.number ∧ r.number ≤ 65535 ∧ 1 ≤ r.kind ∧ r.kind ≤ 5 ∧ r.priority ≤ 15
    ∧ ((r.kind = 1 ∨ r.kind = 2) → r.stacking ≤ 1)
    ∧ (r.kind = 3 → r.stacking = 0 ∧ 2 ≤ r.buy ∧ r.buy ≤ 20 ∧ 1 ≤ r.pay ∧ r.pay ≤ r.buy - 1)
    ∧ ((r.kind = 1 ∨ r.kind = 2) → r.form ≤ 1 ∧ 1 ≤ r.value
        ∧ (r.form = 0 → r.value ≤ 9999999) ∧ (r.form = 1 → r.value ≤ 10000))
    ∧ (r.kind = 4 → r.form ≤ 1 ∧ 1 ≤ r.value ∧ (r.form = 0 → r.value ≤ 99999999) ∧ (r.form = 1 → r.value ≤ 10000))
    ∧ (r.kind = 2 → 2 ≤ r.threshold ∧ r.threshold ≤ 999)
    ∧ (r.kind = 4 → r.threshold ≤ 99999999 ∧ r.couponKey ≠ 0)
    ∧ (r.kind = 5 → 1 ≤ r.extra ∧ r.extra ≤ 100)
    ∧ (r.enables.getLsbD 0 = true → realDay r.startDate.year r.startDate.month r.startDate.day = true)
    ∧ (r.enables.getLsbD 1 = true → realDay r.endDate.year r.endDate.month r.endDate.day = true)
    ∧ (r.enables.getLsbD 0 = true → r.enables.getLsbD 1 = true → dateLE r.startDate r.endDate = true)
    ∧ (r.enables.getLsbD 2 = true → ∃ d : Nat, d < 7 ∧ r.weekdays.getLsbD d = true)
    ∧ (r.enables.getLsbD 3 = true → r.fromMinute ≤ 1439 ∧ r.toMinute ≤ 1439 ∧ r.fromMinute ≠ r.toMinute))
  ∧ ∀ (h : Header) (slot : Nat) (r : OfferRecord) (s : State) (st : ControllerState),
    s.store.controller = st →
    (∀ c, c = .offerWrite h slot r → Unhindered c s →
      ((512 ≤ slot ∨ recordOk r = false) → Refuses c .store .offerWrite h .badField s)
      ∧ (slot < 512 → recordOk r = true →
        (st = .fault → Refuses c .store .offerWrite h .storeFault s)
        ∧ (st ≠ .fault → st ≠ .ready → st ≠ .suspended → Refuses c .store .offerWrite h .storeBusy s)
        ∧ (st = .ready ∨ st = .suspended →
          (s.store.condemned[slot / 64]? = some true → Refuses c .store .offerWrite h .sectorErasing s)
          ∧ (s.store.condemned[slot / 64]? = some false →
            (OfferArray.read s.store.slots slot ≠ none → Refuses c .store .offerWrite h .notBlank s)
            ∧ (OfferArray.read s.store.slots slot = none →
                (∃ k q a, (k, Slot.live q a) ∈ s.store.slots ∧ q.number = r.number) →
                Refuses c .store .offerWrite h .duplicateOffer s)
            ∧ (OfferArray.read s.store.slots slot = none →
                (∀ k q a, (k, Slot.live q a) ∈ s.store.slots → q.number ≠ r.number) →
                Takes c .store s
                  ((leaveQueue c s).withStore { s.store with
                    controller := if st = .suspended then .programmingInSuspend else .programming
                    program := some { slot := slot, job := .offer r, request := h } }) [])))))
    ∧ (∀ c outcome, c = .offerProgramCompletion outcome → Unhindered c s →
      (s.store.program = some { slot := slot, job := .offer r, request := h } →
        (outcome = .success → Takes c .store s
          ((leaveQueue c s).withStore { s.store with
            controller := if st = .programmingInSuspend then .suspended else .ready
            program := none
            slots := OfferArray.put slot (.live r (windowMatches s.calendar r)) s.store.slots })
          [replyTo .offerWrite h .ok .none])
        ∧ (outcome = .failure → st ≠ .programmingInSuspend → Takes c .store s
          ((leaveQueue c s).withStore { s.store with
            controller := .fault, program := none, inProgress := none, waiting := Vector.replicate 8 []
            slots := OfferArray.put slot .damaged s.store.slots })
          [replyTo .offerWrite h .failed .none])
        ∧ (∀ slots, outcome = .failure → st = .programmingInSuspend →
          (s.store.inProgress = none ∧ slots = OfferArray.put slot .damaged s.store.slots
            ∨ ∃ k, s.store.inProgress = some k
                ∧ slots = OfferArray.damageSector k (OfferArray.put slot .damaged s.store.slots)) →
          Takes c .store s
            ((leaveQueue c s).withStore { s.store with
              controller := .fault, program := none, inProgress := none, waiting := Vector.replicate 8 []
              slots := slots })
            (replyTo .offerWrite h .failed .none :: s.store.waiting.toList.flatten.map fun g =>
              replyTo .sectorErase g .abandoned .none))))

/-- OFFER RETIRE and the completion of its program (R26, R31, R32, R42): BAD_FIELD, STORE_FAULT, STORE_BUSY,
SECTOR_ERASING, NOT_LIVE; else the slot is withdrawing, the program starts, and every non-free basket that holds the
offer takes a stale claim; success makes the slot RETIRED, failure DAMAGED, and either clears the withdrawing mark.
The order of its PLAN STALE notices and of FAILED before ABANDONED is the model's reading (logs 8 and 14). -/
def Obligations.OfferRetireRule : Prop :=
  ∀ (h : Header) (slot : Nat) (s : State) (st : ControllerState), s.store.controller = st →
    (∀ c, c = .offerRetire h slot → Unhindered c s →
      (512 ≤ slot → Refuses c .store .offerRetire h .badField s)
      ∧ (slot < 512 → st = .fault → Refuses c .store .offerRetire h .storeFault s)
      ∧ (slot < 512 → st ≠ .fault → st ≠ .ready → st ≠ .suspended → Refuses c .store .offerRetire h .storeBusy s)
      ∧ (slot < 512 → st = .ready ∨ st = .suspended →
          (s.store.condemned[slot / 64]? = some true → Refuses c .store .offerRetire h .sectorErasing s)
          ∧ (s.store.condemned[slot / 64]? = some false →
            ((s.store.withdrawing = some slot ∨ ∀ r a, OfferArray.read s.store.slots slot ≠ some (.live r a)) →
              Refuses c .store .offerRetire h .notLive s)
            ∧ (∀ r a (e : Effect), s.store.withdrawing ≠ some slot →
                OfferArray.read s.store.slots slot = some (.live r a) →
                e = staleClaim
                  ((s.basketTable.baskets.filter fun b => decide (r.number ∈ b.heldOffers)).map Basket.number)
                  ((leaveQueue c s).withStore { s.store with
                    controller := if st = .suspended then .programmingInSuspend else .programming
                    program := some { slot := slot, job := .retire, request := h }
                    withdrawing := some slot }) →
                Takes c .store s e.state e.sent))))
    ∧ (∀ c outcome, c = .retireProgramCompletion outcome → Unhindered c s →
      (s.store.program = some { slot := slot, job := .retire, request := h } →
        (∀ r a, outcome = .success → OfferArray.read s.store.slots slot = some (.live r a) → Takes c .store s
          ((leaveQueue c s).withStore { s.store with
            controller := if st = .programmingInSuspend then .suspended else .ready
            program := none, withdrawing := none
            slots := OfferArray.put slot (.retired r) s.store.slots })
          [replyTo .offerRetire h .ok .none])
        ∧ (∀ slots, outcome = .failure →
          (st ≠ .programmingInSuspend ∧ slots = OfferArray.put slot .damaged s.store.slots
            ∨ st = .programmingInSuspend ∧ s.store.inProgress = none
                ∧ slots = OfferArray.put slot .damaged s.store.slots
            ∨ ∃ k, st = .programmingInSuspend ∧ s.store.inProgress = some k
                ∧ slots = OfferArray.damageSector k (OfferArray.put slot .damaged s.store.slots)) →
          Takes c .store s
            ((leaveQueue c s).withStore { s.store with
              controller := .fault, program := none, inProgress := none, waiting := Vector.replicate 8 []
              withdrawing := none, slots := slots })
            (replyTo .offerRetire h .failed .none ::
              (if st = .programmingInSuspend then
                s.store.waiting.toList.flatten.map fun g => replyTo .sectorErase g .abandoned .none
               else [])))))

/-- SECTOR ERASE and the end of gathering (R34 to R36): BAD_FIELD, STORE_FAULT, STORE_BUSY (with 4 requests waiting on
the sector too), IN_USE while a LIVE slot of the sector holds an offer some basket holds; else the sector is
condemned, the request waits and the gather timer starts anew; at its expiry the lowest sector of the erase set
begins. -/
def Obligations.SectorEraseRule : Prop :=
  ∀ (h : Header) (k : Nat) (s : State) (st : ControllerState), s.store.controller = st →
    (∀ c, c = .sectorErase h k → Unhindered c s →
      (8 ≤ k → Refuses c .store .sectorErase h .badField s)
      ∧ ∀ ws, s.store.waiting[k]? = some ws →
        (st = .fault → Refuses c .store .sectorErase h .storeFault s)
        ∧ (st ≠ .fault → (st ≠ .ready ∧ st ≠ .gathering ∨ st = .gathering ∧ 4 ≤ ws.length) →
            Refuses c .store .sectorErase h .storeBusy s)
        ∧ ((st = .ready ∨ st = .gathering ∧ ws.length < 4) →
          ((∃ j r a b, (j, Slot.live r a) ∈ s.store.slots ∧ j / 64 = k ∧ b ∈ s.basketTable.baskets
              ∧ r.number ∈ b.heldOffers) → Refuses c .store .sectorErase h .inUse s)
          ∧ ((∀ j r a b, (j, Slot.live r a) ∈ s.store.slots → j / 64 = k → b ∈ s.basketTable.baskets →
              r.number ∉ b.heldOffers) →
            Takes c .store s
              ((leaveQueue c s).withStore { s.store with
                controller := .gathering
                waiting := s.store.waiting.setIfInBounds k (ws ++ [h])
                condemned := s.store.condemned.setIfInBounds k true
                gatherTimer := some s.tables.limits.gatherWindow }) [])))
    ∧ (∀ c, c = .gatherTimerExpiry → Unhindered c s →
      ∀ j ws, st = .gathering → s.store.gatherTimer ≠ none → s.store.waiting[j]? = some ws → ws ≠ [] →
        (∀ i, i < j → s.store.waiting[i]? = some []) →
        Takes c .store s
          ((leaveQueue c s).withStore { s.store with
            controller := .erasing, inProgress := some j, gatherTimer := none }) [])

/-- The completion of an erase (R37, R38): success erases the sector's slots, clears its mark, answers its waiting
requests OK and, unless a suspend is in flight, begins the lowest sector left or makes the controller READY; failure
damages the slots, empties the erase set and makes the controller FAULT, answering FAILED, ABANDONED and STORE_FAULT.
The order among the FAILED replies is log 27's reading. -/
def Obligations.EraseCompletionRule : Prop :=
  ∀ (outcome : StoreOutcome) (s : State) (c : Instr), c = .eraseCompletion outcome → Unhindered c s →
    ∀ k ws, s.store.inProgress = some k → s.store.waiting[k]? = some ws →
      (∀ erased : OfferStore, outcome = .success →
          erased = { s.store with
            slots := s.store.slots.filter fun p => decide (p.1 / 64 ≠ k)
            condemned := s.store.condemned.setIfInBounds k false
            waiting := s.store.waiting.setIfInBounds k []
            inProgress := none } →
          (s.store.controller = .suspending → Takes c .store s ((leaveQueue c s).withStore erased)
            (ws.map fun h => replyTo .sectorErase h .ok .none))
          ∧ (s.store.controller = .erasing → (∀ j : Nat, j < 8 → j ≠ k → s.store.waiting[j]? = some []) →
            Takes c .store s ((leaveQueue c s).withStore { erased with controller := .ready })
              (ws.map fun h => replyTo .sectorErase h .ok .none))
          ∧ (∀ (j : Nat) xs, s.store.controller = .erasing → j ≠ k → s.store.waiting[j]? = some xs → xs ≠ [] →
            (∀ i : Nat, i < j → i ≠ k → s.store.waiting[i]? = some []) →
            Takes c .store s ((leaveQueue c s).withStore { erased with controller := .erasing, inProgress := some j })
              (ws.map fun h => replyTo .sectorErase h .ok .none)))
      ∧ (outcome = .failure → (s.store.controller = .erasing ∨ s.store.controller = .suspending) →
          Takes c .store s
            ((leaveQueue c s).withStore { s.store with
              slots := OfferArray.damageSector k s.store.slots
              waiting := Vector.replicate 8 [], inProgress := none, controller := .fault, suspend := none })
            ((ws.map fun h => replyTo .sectorErase h .failed .none)
              ++ ((s.store.waiting.setIfInBounds k []).toList.flatten.map fun h =>
                  replyTo .sectorErase h .abandoned .none)
              ++ (match s.store.suspend with
                  | some g => [replyTo .eraseSuspend g .storeFault .none]
                  | none => [])))

/-- ERASE SUSPEND, the suspend's completion, ERASE RESUME and STORE CLEAR FAULT in every controller state (R39, R40,
R43, R44). -/
def Obligations.SuspendAndResume : Prop :=
  ∀ (h : Header) (s : State) (st : ControllerState), s.store.controller = st →
    (∀ c, c = .eraseSuspend h → Unhindered c s →
      (st = .erasing → Takes c .store s
        ((leaveQueue c s).withStore { s.store with controller := .suspending, suspend := some h }) [])
      ∧ (st = .gathering → Takes c .store s
        ((leaveQueue c s).withStore { s.store with
          controller := .suspended, gatherTimer := none, inProgress := none })
        [replyTo .eraseSuspend h .ok .none])
      ∧ ((st = .suspending ∨ st = .suspended ∨ st = .programmingInSuspend) →
        Refuses c .store .eraseSuspend h .alreadySuspended s)
      ∧ ((st = .ready ∨ st = .programming ∨ st = .fault) → Refuses c .store .eraseSuspend h .notErasing s))
    ∧ (∀ c, c = .suspendCompletion → Unhindered c s →
      ∀ g, st = .suspending → s.store.suspend = some g → Takes c .store s
        ((leaveQueue c s).withStore { s.store with controller := .suspended, suspend := none })
        [replyTo .eraseSuspend g .ok .none])
    ∧ (∀ c, c = .eraseResume h → Unhindered c s →
      (st = .programmingInSuspend → Refuses c .store .eraseResume h .storeBusy s)
      ∧ (st ≠ .programmingInSuspend → st ≠ .suspended → Refuses c .store .eraseResume h .notSuspended s)
      ∧ (∀ k, st = .suspended → s.store.inProgress = some k → Takes c .store s
        ((leaveQueue c s).withStore { s.store with controller := .erasing }) [replyTo .eraseResume h .ok .none])
      ∧ (∀ (j : Nat) ws, st = .suspended → s.store.inProgress = none → s.store.waiting[j]? = some ws → ws ≠ [] →
        (∀ i : Nat, i < j → s.store.waiting[i]? = some []) → Takes c .store s
        ((leaveQueue c s).withStore { s.store with controller := .erasing, inProgress := some j })
        [replyTo .eraseResume h .ok .none])
      ∧ (st = .suspended → s.store.inProgress = none → (∀ i : Nat, i < 8 → s.store.waiting[i]? = some []) →
        Takes c .store s ((leaveQueue c s).withStore { s.store with controller := .ready })
        [replyTo .eraseResume h .ok .none]))
    ∧ (∀ c, c = .storeClearFault h → Unhindered c s →
      Takes c .store s
        ((leaveQueue c s).withStore { s.store with controller := if st = .fault then .ready else st })
        [replyTo .storeClearFault h .ok .none])

/-- An expiry of a timer that does not run, and a completion of work that is not in flight, leave everything as it was
(log 2: the model's reading; such events do not occur in the part). -/
def Obligations.EventsThatCannotOccur : Prop :=
  ∀ (c : Instr) (blk : Block) (s : State), Unhindered c s →
    ((∃ n, c = .parkTimerExpiry n ∧ blk = .basketTable
        ∧ ∀ b, findBasket n s = some b → b.state ≠ .parked ∨ b.parkTimer = none)
      ∨ (∃ n, c = .holdTimerExpiry n ∧ blk = .accounts ∧ ∀ e ∈ s.accounts.entries, ∀ x ∈ e.holds, x.basket ≠ n)
      ∨ (∃ l, c = .noticeTimerExpiry l ∧ blk = .router ∧ presentationOf l s = none)
      ∨ (c = .gatherTimerExpiry ∧ blk = .store ∧ (s.store.controller ≠ .gathering ∨ s.store.gatherTimer = none))
      ∨ (∃ u : Nat, c = .evaluationCompletion u ∧ blk = .evaluator ∧ s.evaluator.units[u]? = some none)
      ∨ (∃ o, c = .offerProgramCompletion o ∧ blk = .store ∧ ∀ p, s.store.program = some p → p.job = .retire)
      ∨ (∃ o, c = .retireProgramCompletion o ∧ blk = .store ∧ ∀ p, s.store.program = some p → p.job ≠ .retire)
      ∨ (∃ o, c = .eraseCompletion o ∧ blk = .store
        ∧ (s.store.inProgress = none ∨ s.store.controller ≠ .erasing ∧ s.store.controller ≠ .suspending))
      ∨ (c = .suspendCompletion ∧ blk = .store ∧ (s.store.controller ≠ .suspending ∨ s.store.suspend = none))) →
    Takes c blk s (leaveQueue c s) []

/-! ### Reference tables -/

/-- GROUP RANGE ADD, GROUP RANGE REMOVE and GROUP TABLE CLEAR (R47 to R49), over a table in its order. -/
def Obligations.GroupRangeRequests : Prop :=
  ∀ (h : Header) (f l g : Nat) (con earn : Bool) (s : State), RangesOrdered s →
    (∀ c, c = .groupRangeAdd h f l g con earn → Unhindered c s →
      (s.link.mode ≠ .maintenance → Refuses c .tables .groupRangeAdd h .wrongMode s)
      ∧ (s.link.mode = .maintenance →
        ((f = 0 ∨ 999999999 < f ∨ l = 0 ∨ 999999999 < l ∨ l < f ∨ g = 0 ∨ 255 < g) →
          Refuses c .tables .groupRangeAdd h .badField s)
        ∧ (1 ≤ f → f ≤ l → l ≤ 999999999 → 1 ≤ g → g ≤ 255 →
          (∀ r, (s.tables.ranges.find? fun r => decide (f ≤ r.last) && decide (r.first ≤ l)) = some r →
            Takes c .tables s (leaveQueue c s) [replyTo .groupRangeAdd h .overlap (.word r.first)])
          ∧ ((∀ r ∈ s.tables.ranges, r.last < f ∨ l < r.first) →
            (256 ≤ s.tables.ranges.length → Refuses c .tables .groupRangeAdd h .tableFull s)
            ∧ (s.tables.ranges.length < 256 →
              Takes c .tables s
                ((leaveQueue c s).withTables { s.tables with
                  ranges := (s.tables.ranges.filter fun r => decide (r.first < f))
                    ++ { first := f, last := l, group := g, concession := con, earn := earn }
                    :: (s.tables.ranges.filter fun r => decide (f < r.first)) })
                [replyTo .groupRangeAdd h .ok (.rangeAdded
                  (s.tables.ranges.filter fun r => decide (r.first < f)).length (s.tables.ranges.length + 1))])))))
    ∧ (∀ c, c = .groupRangeRemove h f → Unhindered c s →
      (s.link.mode ≠ .maintenance → Refuses c .tables .groupRangeRemove h .wrongMode s)
      ∧ (s.link.mode = .maintenance → (f = 0 ∨ 999999999 < f) → Refuses c .tables .groupRangeRemove h .badField s)
      ∧ (s.link.mode = .maintenance → 1 ≤ f → f ≤ 999999999 → (∀ r ∈ s.tables.ranges, r.first ≠ f) →
        Refuses c .tables .groupRangeRemove h .noRange s)
      ∧ (∀ r ∈ s.tables.ranges, s.link.mode = .maintenance → r.first = f →
        Takes c .tables s
          ((leaveQueue c s).withTables { s.tables with ranges := s.tables.ranges.erase r })
          [replyTo .groupRangeRemove h .ok
            (.rangeRemoved r.last r.group r.concession r.earn (s.tables.ranges.length - 1))]))
    ∧ (∀ c, c = .groupTableClear h → Unhindered c s →
      (s.link.mode ≠ .maintenance → Refuses c .tables .groupTableClear h .wrongMode s)
      ∧ (s.link.mode = .maintenance → Takes c .tables s
        ((leaveQueue c s).withTables { s.tables with ranges := [] })
        [replyTo .groupTableClear h .ok (.half s.tables.ranges.length)]))

/-- The mask table (R51 to R54): entry 0 holds every flag and entry 16 + k every flag but k, always; MASK WRITE gives
the target the flags sent that are also in the through-entry, answers with them and then makes the plans stale of the
active baskets of the lanes that name the target; MASK READ reports an entry and changes nothing. TIER SET, LIMITS SET
and STORE IDENTITY (R56, R57, R59): their checks, what they replace and their replies. -/
def Obligations.MasksRatesLimitsIdentity : Prop :=
  ((∀ (t : Tables) (k i : Nat), k < 16 → i < 16 →
    (maskValue t 0).getLsbD i = true ∧ (maskValue t (16 + k)).getLsbD i = decide (i ≠ k))
  ∧ (∀ (t : Tables) (e : Nat) (v : Flags), 1 ≤ e → e ≤ 15 → t.masks[e - 1]? = some v → maskValue t e = v)
  ∧ ∀ (h : Header) (e u : Nat) (flags : Flags) (s : State),
    (∀ c, c = .maskWrite h e flags u → Unhindered c s →
      ((32 ≤ e ∨ 32 ≤ u) → Refuses c .tables .maskWrite h .badField s)
      ∧ (e < 32 → u < 32 → (e = 0 ∨ 16 ≤ e) → Refuses c .tables .maskWrite h .readOnly s)
      ∧ (∀ f : Effect, 1 ≤ e → e ≤ 15 → u < 32 →
          f = staleClaim
            (s.basketTable.lanes.toList.filterMap fun r => if r.maskEntry = e then r.active else none)
            ((leaveQueue c s).withTables { s.tables with
              masks := s.tables.masks.setIfInBounds (e - 1) (flags &&& maskValue s.tables u) }) →
          Takes c .tables s f.state
            (replyTo .maskWrite h .ok (.flags (flags &&& maskValue s.tables u)) :: f.sent)))
    ∧ (∀ c, c = .maskRead h e → Unhindered c s →
      (32 ≤ e → Refuses c .tables .maskRead h .badField s)
      ∧ (e < 32 → Takes c .tables s (leaveQueue c s) [replyTo .maskRead h .ok
          (.maskRead (maskValue s.tables e) (decide (e = 0 ∨ 16 ≤ e))
            (s.basketTable.lanes.toList.filter fun r => decide (r.maskEntry = e)).length
            (s.basketTable.lanes.toList.filter fun r =>
              decide (r.maskEntry = e) && r.active.isSome).length)])))
  ∧ (∀ (h : Header) (s : State),
    (∀ c (tier rate : Nat), c = .tierSet h tier rate → Unhindered c s →
      (s.link.mode ≠ .maintenance → Refuses c .tables .tierSet h .wrongMode s)
      ∧ (s.link.mode = .maintenance → (5 ≤ tier ∨ 20 < rate) → Refuses c .tables .tierSet h .badField s)
      ∧ (s.link.mode = .maintenance → tier < 5 → rate ≤ 20 → Takes c .tables s
        ((leaveQueue c s).withTables { s.tables with rates := s.tables.rates.setIfInBounds tier rate })
        [replyTo .tierSet h .ok (.rates (s.tables.rates.toList.set tier rate))]))
    ∧ (∀ c (a b d e f g i : Nat), c = .limitsSet h a b d e f g i → Unhindered c s →
      ∀ ok : Prop, (ok ↔ (a = 0 ∨ 60 ≤ a ∧ a ≤ 3600) ∧ (b = 0 ∨ 15 ≤ b ∧ b ≤ 600) ∧ d ≤ 7
          ∧ (e = 0 ∨ 300 ≤ e ∧ e ≤ 14400) ∧ (f = 0 ∨ 5 ≤ f ∧ f ≤ 500) ∧ g ≤ 128 ∧ i ≤ 1000) →
        (¬ ok → Refuses c .tables .limitsSet h .badField s)
        ∧ (∀ new : Limits, ok →
            new.holdLifetime = (if a = 0 then s.tables.limits.holdLifetime else a) →
            new.noticeLimit = (if b = 0 then s.tables.limits.noticeLimit else b) →
            new.presentations = (if d = 0 then s.tables.limits.presentations else d) →
            new.parkLifetime = (if e = 0 then s.tables.limits.parkLifetime else e) →
            new.gatherWindow = (if f = 0 then s.tables.limits.gatherWindow else f) →
            new.threshold = (if g = 0 then s.tables.limits.threshold else g) →
            new.pointValue = (if i = 0 then s.tables.limits.pointValue else i) →
            Takes c .tables s ((leaveQueue c s).withTables { s.tables with limits := new })
              [replyTo .limitsSet h .ok (.limits new)]))
    ∧ (∀ c (n : Nat), c = .storeIdentity h n → Unhindered c s →
      ((n = 0 ∨ 65535 < n) → Refuses c .tables .storeIdentity h .badField s)
      ∧ (∀ m, 1 ≤ n → n ≤ 65535 → s.tables.identity = some m →
        Takes c .tables s (leaveQueue c s) [replyTo .storeIdentity h .alreadySet (.half m)])
      ∧ (1 ≤ n → n ≤ 65535 → s.tables.identity = none →
        Takes c .tables s ((leaveQueue c s).withTables { s.tables with identity := some n })
          [replyTo .storeIdentity h .ok (.half n)])))


/-! ### The calendar -/

/-- CALENDAR SET, CALENDAR READ and MINUTE MARK (R64 to R67): BAD_FIELD for fields out of range; a set calendar is
RUNNING at the fields sent with the weekday of its date; a MINUTE MARK drops seconds 0 to 29 and carries 30 to 59 into
the next minute, except at the end of the range; both re-check every LIVE slot's window before the reply. The second
phase starts anew at 0; a second event that was due takes its 1000 off it (log 20). Second events, carries and windows (R60 to R64, R69, R70, R72): an UNSET calendar takes
none; a second below 59 counts on; second 59 carries into the minute and re-checks the windows, except at the last
second of the range, which stands; minutes, hours, days, months, years and the weekday carry as stated; and when a
window matches. -/
def Obligations.CalendarRules : Prop :=
  (∀ (h : Header) (s : State) (rechecked : Calendar → State → State),
    rechecked = (fun cal u => (u.withCalendar cal).withStore { u.store with
      slots := u.store.slots.map fun p => (p.1,
        match p.2 with
        | .live r _ => .live r (windowMatches cal r)
        | .retired r => .retired r
        | .damaged => .damaged) }) →
    (∀ c (y mo d ho mi se : Nat), c = .calendarSet h y mo d ho mi se → Unhindered c s →
      ∀ ok : Prop, (ok ↔ 2000 ≤ y ∧ y ≤ 2099 ∧ 1 ≤ mo ∧ mo ≤ 12 ∧ 1 ≤ d ∧ d ≤ daysInMonth y mo ∧ ho ≤ 23
          ∧ mi ≤ 59 ∧ se ≤ 59) →
        (¬ ok → Refuses c .calendar .calendarSet h .badField s)
        ∧ (∀ now : Stamp, ok →
            now = { year := y, month := mo, day := d, weekday := weekdayOf y mo d, hour := ho, minute := mi
                    second := se } →
            Takes c .calendar s (rechecked { state := .running, now := now, phase := 0 } (leaveQueue c s))
              [replyTo .calendarSet h .ok (.stamp now)]))
    ∧ (∀ c, c = .calendarRead h → Unhindered c s →
      Takes c .calendar s (leaveQueue c s) [replyTo .calendarRead h .ok
        (.calendarRead s.calendar.state s.calendar.now (s.calendar.now.hour * 60 + s.calendar.now.minute))])
    ∧ (∀ c, c = .minuteMark h → Unhindered c s →
      (s.calendar.state = .unset → Refuses c .calendar .minuteMark h .calendarUnset s)
      ∧ (∀ now : Stamp, s.calendar.state = .running →
          ((s.calendar.now.second ≤ 29 ∨ lastMinute s.calendar.now = true)
              ∧ now = { s.calendar.now with second := 0 }
            ∨ 29 < s.calendar.now.second ∧ lastMinute s.calendar.now = false
              ∧ now = nextMinute { s.calendar.now with second := 0 }) →
          Takes c .calendar s (rechecked { state := .running, now := now, phase := 0 } (leaveQueue c s))
            [replyTo .minuteMark h .ok (.minuteMark now s.calendar.now.second)])))
  ∧ ((∀ (s : State) (c : Instr), c = .secondEvent → Unhindered c s →
    (s.calendar.state = .unset → Takes c .calendar s (leaveQueue c s) [])
    ∧ (s.calendar.state = .running → s.calendar.now.second < 59 → Takes c .calendar s
        ((leaveQueue c s).withCalendar { s.calendar with
          now := { s.calendar.now with second := s.calendar.now.second + 1 }, phase := s.calendar.phase - 1000 }) [])
    ∧ (s.calendar.state = .running → s.calendar.now.second = 59 → lastMinute s.calendar.now = true →
        Takes c .calendar s ((leaveQueue c s).withCalendar { s.calendar with phase := s.calendar.phase - 1000 }) [])
    ∧ (∀ cal : Calendar, s.calendar.state = .running → s.calendar.now.second = 59 →
        lastMinute s.calendar.now = false →
        cal = { s.calendar with now := nextMinute { s.calendar.now with second := 0 }, phase := s.calendar.phase - 1000 } →
        Takes c .calendar s
          (((leaveQueue c s).withCalendar cal).withStore { s.store with
            slots := s.store.slots.map fun p => (p.1,
              match p.2 with
              | .live r _ => .live r (windowMatches cal r)
              | .retired r => .retired r
              | .damaged => .damaged) }) []))
  ∧ (∀ t : Stamp, lastMinute t = true ↔
      t.year = 2099 ∧ t.month = 12 ∧ t.day = 31 ∧ t.hour = 23 ∧ t.minute = 59)
  ∧ (∀ t : Stamp,
      (t.minute < 59 → nextMinute t = { t with minute := t.minute + 1 })
      ∧ (t.minute = 59 → t.hour < 23 → nextMinute t = { t with minute := 0, hour := t.hour + 1 })
      ∧ (t.minute = 59 → t.hour = 23 → nextMinute t = nextDay { t with minute := 0, hour := 0 }))
  ∧ (∀ t : Stamp, t.month ≤ 12 → t.weekday ≤ 6 →
      (t.day < daysInMonth t.year t.month →
        nextDay t = { t with day := t.day + 1, weekday := (t.weekday + 1) % 7 })
      ∧ (daysInMonth t.year t.month ≤ t.day → t.month < 12 →
        nextDay t = { t with day := 1, month := t.month + 1, weekday := (t.weekday + 1) % 7 })
      ∧ (daysInMonth t.year t.month ≤ t.day → t.month = 12 →
        nextDay t = { t with day := 1, month := 1, year := t.year + 1, weekday := (t.weekday + 1) % 7 }))
  ∧ ∀ (cal : Calendar) (r : OfferRecord) (m : Nat), m = cal.now.hour * 60 + cal.now.minute →
      (windowMatches cal r = true ↔
        (cal.state = .unset ∧ ∀ i, i < 4 → r.enables.getLsbD i = false)
        ∨ (cal.state = .running
          ∧ (r.enables.getLsbD 0 = true →
              dateLE r.startDate { year := cal.now.year, month := cal.now.month, day := cal.now.day } = true)
          ∧ (r.enables.getLsbD 1 = true →
              dateLE { year := cal.now.year, month := cal.now.month, day := cal.now.day } r.endDate = true)
          ∧ (r.enables.getLsbD 2 = true → cal.now.weekday < 7 ∧ r.weekdays.getLsbD cal.now.weekday = true)
          ∧ (r.enables.getLsbD 3 = true →
              (r.fromMinute < r.toMinute ∧ r.fromMinute ≤ m ∧ m < r.toMinute)
              ∨ (r.toMinute ≤ r.fromMinute ∧ (r.fromMinute ≤ m ∨ m < r.toMinute))))))


/-! ### Evaluation -/

/-- The completion of an evaluation (R79, R98 to R103): a marked result is dropped; one whose basis still holds is
installed, with the next plan number, the held-offer list taking the plan's offers (unused ones leave it from the head
down to 32), and the TOTAL answered with the summary; any other goes back to the tail of the queue with no message;
then the unit takes the queue's head. -/
def Obligations.EvaluationCompletionRule : Prop :=
  (∀ (u : Nat) (s : State) (c : Instr), c = .evaluationCompletion u → Unhindered c s →
    ∀ (r : RunningUnit) (freed : State), s.evaluator.units[u]? = some (some r) →
      freed = (leaveQueue c s).withEvaluator { s.evaluator with units := s.evaluator.units.setIfInBounds u none } →
      (r.discard = true → Takes c .evaluator s (unitTakes freed) [])
      ∧ (∀ (b : Basket) (plan : Plan) (basis : Prop), r.discard = false → findBasket r.basket s = some b →
          (basis ↔ b.generation = r.snapshot.generation
            ∧ ∀ o ∈ (planOf r.snapshot).used, usable s.store o.slot = true) →
          plan = { planOf r.snapshot with seq := if b.planSeq < 255 then b.planSeq + 1 else 1 } →
          (basis → (s.basketTable.baskets.map Basket.number).Nodup →
            Takes c .evaluator s
              (unitTakes (freed.withBaskets (s.basketTable.baskets.map fun y =>
                if y.number = r.basket then
                  { y with planSeq := plan.seq, plan := some plan, current := true, state := .totalled
                           heldOffers := updateHeld y.heldOffers (plan.used.map UsedOffer.offer)
                           outstanding := none }
                else y)))
              (match b.outstanding with
                | some g => [replyTo .total g .ok (.planSummary plan)]
                | none => []))
          ∧ (¬ basis → Takes c .evaluator s
              (unitTakes (freed.withEvaluator
                { freed.evaluator with queue := s.evaluator.queue ++ [r.basket] })) [])))
  ∧ (∀ s : State, (s.evaluator.queue = [] ∨ ∀ v : Nat, v < 4 → s.evaluator.units[v]? ≠ some none) → unitTakes s = s)
  ∧ (∀ (s : State) (n v : Nat) (rest : List Nat) (b : Basket), s.evaluator.queue = n :: rest →
      s.evaluator.units[v]? = some none → (∀ w : Nat, w < v → s.evaluator.units[w]? ≠ some none) →
      findBasket n s = some b →
      unitTakes s = s.withEvaluator
        { queue := rest
          units := s.evaluator.units.setIfInBounds v
            (some { basket := n, snapshot := snapshotOf b s, discard := false }) })
  ∧ ∀ held used : List Nat, held.Nodup → used.Nodup → used.length ≤ 32 →
      (updateHeld held used).length ≤ 32
      ∧ (∀ o ∈ used, o ∈ updateHeld held used)
      ∧ (updateHeld held used).Sublist (held ++ used.filter fun o => decide (o ∉ held))
      ∧ ((held ++ used.filter fun o => decide (o ∉ held)).length ≤ 32 →
          updateHeld held used = held ++ used.filter fun o => decide (o ∉ held))
      ∧ ∀ joined, joined = held ++ (used.filter fun o => decide (o ∉ held)) → 32 < joined.length →
          (updateHeld held used).length = 32
          ∧ ∃ k, updateHeld held used = ((joined.take k).filter fun o => decide (o ∈ used)) ++ joined.drop k
              ∧ ((joined.take k).filter fun o => decide (o ∉ used)).length = joined.length - 32

/-- What a snapshot holds (R55, R80, R82): the basket as it stands, its overrides, the mask of its lane, the account,
the stamp, and as candidates exactly the LIVE slots that are usable, valid or held, within the effective entitlements,
and whose coupon is presented. -/
def Obligations.SnapshotRule : Prop :=
  ∀ (b : Basket) (s : State) (l : Nat) (lane : Lane) (snap : Snapshot), snap = snapshotOf b s →
    b.lane = some l → s.basketTable.lanes[l]? = some lane →
    snap.basket = b.number ∧ snap.generation = b.generation ∧ snap.lines = b.lines ∧ snap.coupons = b.coupons
    ∧ snap.heldOffers = b.heldOffers ∧ snap.stamp = s.calendar.now ∧ snap.mask = maskValue s.tables lane.maskEntry
    ∧ (b.account = none → snap.account = none)
    ∧ (∀ a e rate, b.account = some a → findAccount a s = some e → s.tables.rates[tierIndex e.tier]? = some rate →
        snap.account = some { tier := e.tier, flags := e.flags, rate := rate })
    ∧ snap.overrides = ((s.overrides.filter fun r => decide (r.basket = b.number)).map fun r =>
        { line := r.line, granted := !isPending r, price := r.price })
    ∧ (∀ (slot : Nat) (r : OfferRecord), (∃ x ∈ snap.candidates, x.slot = slot ∧ x.record = r) ↔
        ∃ active held, (slot, Slot.live r active) ∈ s.store.slots ∧ usable s.store slot = true
          ∧ (active = true ∨ r.number ∈ b.heldOffers)
          ∧ (match snap.account with
              | some a => held = (a.flags ||| 1#16) &&& snap.mask
              | none => held = 1#16 &&& snap.mask)
          ∧ r.required &&& held = r.required
          ∧ (r.couponKey = 0 ∨ r.couponKey ∈ b.coupons))
    ∧ snap.candidates.Pairwise (fun x y => x.record.priority < y.record.priority
        ∨ x.record.priority = y.record.priority ∧ x.record.number ≤ y.record.number)

/-- What one line offer does to the units (R84 to R86, R88 to R91): the units of a basket in unit order; how far an
offer reduces a unit; which units it reaches; a UNIT_CUT or a QUANTITY_BREAK at its threshold acts on the first units
up to its limit, claiming them in the exclusive pass and passing over units at 0 in the stackable one; a MULTI_BUY
orders the units by shelf price, highest first, and in each set of N claims all and reduces the last N - M to 0. -/
def Obligations.LineOfferRule : Prop :=
  (∀ (r : OfferRecord) (net : Nat),
    (r.form = 0 → unitReduction r net = min r.value net)
    ∧ (r.form = 1 → unitReduction r net = net * r.value / 10000))
  ∧ (∀ snap : Snapshot,
    (∀ (i : Nat) (u : WorkUnit), (unitsOf snap)[i]? = some u → u.index = i)
    ∧ ((unitsOf snap).map fun u => { u with index := 0 }) = snap.lines.flatMap fun l => List.replicate l.quantity
        { index := 0, line := l.number, group := l.group, measured := l.measured
          eligible := l.concession && decide (∀ o ∈ snap.overrides, o.line ≠ l.number)
          shelf := l.price, net := l.price, claimed := false })
  ∧ (∀ (w : Working) (r : OfferRecord) (kind : OfferKind) (u : WorkUnit),
    reaches w r kind u = true ↔ u.eligible = true ∧ (r.group = 0 ∨ u.group = r.group)
      ∧ (w.reductions.filter fun p => decide (p.1 = u.line)).length < 4 ∧ (u.measured = true → kind = .unitCut))
  ∧ (∀ (w : Working) (c : Candidate) (kind : OfferKind) (r : OfferRecord) (picked : WorkUnit → Bool) (enough : Prop),
    r = c.record → (kind = .unitCut ∨ kind = .quantityBreak) →
    (∀ u, picked u = true ↔ reaches w r kind u = true ∧ (if r.stacking = 0 then u.claimed = false else u.net ≠ 0)) →
    (enough ↔ kind = .unitCut ∨ r.threshold ≤ (w.units.filter fun u =>
      reaches w r kind u && (decide (r.stacking ≠ 0) || !u.claimed)).length) →
    (¬ enough → applyToUnits w c kind = (w.units, 0))
    ∧ (enough →
      (applyToUnits w c kind).2 = (if r.limit = 0 then (w.units.filter picked).length
        else min r.limit (w.units.filter picked).length)
      ∧ (applyToUnits w c kind).1.length = w.units.length
      ∧ ∀ (i : Nat) (u : WorkUnit), w.units[i]? = some u →
          (applyToUnits w c kind).1[i]? = some
            (if picked u = true ∧ (r.limit = 0 ∨ ((w.units.take i).filter picked).length < r.limit) then
              { u with net := u.net - unitReduction r u.net, claimed := u.claimed || decide (r.stacking = 0) }
             else u)))
  ∧ ∀ (w : Working) (c : Candidate) (r : OfferRecord), r = c.record → 2 ≤ r.buy →
    (∀ (i : Nat) (u : WorkUnit), w.units[i]? = some u → u.index = i) →
    ∃ (ordered : List WorkUnit) (sets : Nat),
      ordered.Perm (w.units.filter fun u => reaches w r .multiBuy u && !u.claimed)
      ∧ ordered.Pairwise (fun x y => y.shelf < x.shelf ∨ x.shelf = y.shelf ∧ x.index < y.index)
      ∧ sets = (if r.limit = 0 then ordered.length / r.buy else min (ordered.length / r.buy) r.limit)
      ∧ (applyToUnits w c .multiBuy).2 = sets
      ∧ (applyToUnits w c .multiBuy).1.length = w.units.length
      ∧ ∀ (i : Nat) (u : WorkUnit), w.units[i]? = some u →
        (∀ j, j < sets * r.buy → ordered[j]? = some u → (applyToUnits w c .multiBuy).1[i]? = some
          { u with claimed := true, net := if r.pay ≤ j % r.buy then 0 else u.net })
        ∧ ((∀ j, j < sets * r.buy → ordered[j]? ≠ some u) → (applyToUnits w c .multiBuy).1[i]? = some u)

/-- From the offers to the plan (R83, R86, R87, R92, R93, R95 to R97): a line offer makes an entry on each line it
reduced by more than 0, and is undone with none or as a 33rd used offer; the exclusive candidates come before the
stackable ones; the net of a line; a coupon's threshold, reduction and cap; the base points and the boosts; and the
fields of the plan. That a used line offer's applications count the units acted on, also where a unit's reduction came
out as 0, is log 11's DEDUCED reading of R86. -/
def Obligations.PlanFiguresRule : Prop :=
  (∀ (snap : Snapshot) (kind : OfferKind) (w : Working) (c : Candidate) (done : List WorkUnit × Nat)
      (netOf : List WorkUnit → Nat → Nat) (entries : List (Nat × Nat × Nat)),
    done = applyToUnits w c kind →
    netOf = (fun us line => ((us.filter fun u => decide (u.line = line)).map WorkUnit.net).sum) →
    entries = (snap.lines.filterMap fun l =>
      if netOf w.units l.number - netOf done.1 l.number = 0 then none
      else some (l.number, c.record.number, netOf w.units l.number - netOf done.1 l.number)) →
    (entries = [] ∨ 32 ≤ w.used.length → takeLineOffer snap kind w c = w)
    ∧ (entries ≠ [] → w.used.length < 32 → takeLineOffer snap kind w c =
        { units := done.1, reductions := w.reductions ++ entries
          used := w.used ++ [{ offer := c.record.number, slot := c.slot, kind := kind, applications := done.2
                               total := (entries.map fun p => p.2.2).sum }] }))
  ∧ (∀ (snap : Snapshot) (taken : Working → Candidate → Working),
    taken = (fun w c =>
      match offerKindOf c.record.kind with
      | some kind => takeLineOffer snap kind w c
      | none => w) →
    linePasses snap =
      (snap.candidates.filter fun c => decide ((c.record.kind = 1 ∨ c.record.kind = 2) ∧ c.record.stacking ≠ 0)).foldl
        taken
        ((snap.candidates.filter fun c =>
            decide (c.record.kind = 3 ∨ (c.record.kind = 1 ∨ c.record.kind = 2) ∧ c.record.stacking = 0)).foldl
          taken { units := unitsOf snap, reductions := [], used := [] }))
  ∧ (∀ (snap : Snapshot) (w : Working) (l : Line),
    ((∀ o ∈ snap.overrides, o.line ≠ l.number) → priceLine snap w l =
      { line := l, net := ((w.units.filter fun u => decide (u.line = l.number)).map WorkUnit.net).sum, granted := false })
    ∧ (∀ o, (snap.overrides.find? fun o => decide (o.line = l.number)) = some o → priceLine snap w l =
      if o.granted then { line := l, net := o.price * l.quantity, granted := true }
      else { line := l, net := l.quantity * l.price, granted := false }))
  ∧ (∀ (lines : List PricedLine) (w : BasketWork) (c : Candidate) (t full amount : Nat),
    t = ((lines.filter fun x => x.line.concession
      && (decide (c.record.group = 0) || decide (x.line.group = c.record.group))).map PricedLine.net).sum →
    (c.record.form = 0 ∧ full = c.record.value ∨ c.record.form = 1 ∧ full = t * c.record.value / 10000) →
    amount = min full w.payable →
    ((t < c.record.threshold ∨ amount = 0 ∨ 8 ≤ w.entries.length ∨ 32 ≤ w.used.length) → takeCoupon lines w c = w)
    ∧ (c.record.threshold ≤ t → 0 < amount → w.entries.length < 8 → w.used.length < 32 → takeCoupon lines w c =
        { payable := w.payable - amount, points := w.points
          entries := w.entries ++ [{ offer := c.record.number, kind := .basketCoupon, amount := amount }]
          used := w.used ++ [{ offer := c.record.number, slot := c.slot, kind := .basketCoupon, applications := 1
                               total := amount }] }))
  ∧ (∀ (lines : List PricedLine) (w : BasketWork) (c : Candidate) (g added : Nat),
    g = ((lines.filter fun x => x.line.earn && !x.granted
      && (decide (c.record.group = 0) || decide (x.line.group = c.record.group))).map PricedLine.net).sum →
    added = min (g / 100 * c.record.extra) (999999 - w.points) →
    ((added = 0 ∨ 8 ≤ w.entries.length ∨ 32 ≤ w.used.length) → takeBoost lines w c = w)
    ∧ (0 < added → w.entries.length < 8 → w.used.length < 32 → takeBoost lines w c =
        { payable := w.payable, points := w.points + added
          entries := w.entries ++ [{ offer := c.record.number, kind := .pointsBoost, amount := added }]
          used := w.used ++ [{ offer := c.record.number, slot := c.slot, kind := .pointsBoost, applications := 1
                               total := added }] }))
  ∧ (∀ (snap : Snapshot) (lines : List PricedLine) (w : BasketWork),
    (snap.account = none → pointsPass snap lines w = w)
    ∧ ∀ a, snap.account = some a → pointsPass snap lines w =
        (snap.candidates.filter fun c => decide (c.record.kind = 5)).foldl (takeBoost lines)
          { w with
            points := min (((lines.filter fun x => x.line.earn && !x.granted).map PricedLine.net).sum / 100 * a.rate) 999999 })
  ∧ ∀ (snap : Snapshot) (w : Working) (lines : List PricedLine) (done : BasketWork),
    w = linePasses snap → lines = snap.lines.map (priceLine snap w) →
    done = pointsPass snap lines ((snap.candidates.filter fun c => decide (c.record.kind = 4)).foldl (takeCoupon lines)
      { payable := (lines.map PricedLine.net).sum, points := 0, entries := [], used := w.used }) →
    planOf snap =
      { basket := snap.basket, seq := 0, stamp := snap.stamp
        gross := (snap.lines.map fun l => l.quantity * l.price).sum
        lineConcessions := (w.reductions.map fun p => p.2.2).sum
        overrideReductions := (lines.map fun x => if x.granted then x.line.quantity * x.line.price - x.net else 0).sum
        basketConcessions :=
          ((done.entries.filter fun e => decide (e.kind = .basketCoupon)).map BasketEntry.amount).sum
        payable := done.payable, points := done.points
        pendingOverrides := (snap.overrides.filter fun o => !o.granted).length
        lines := lines.map fun x =>
          { line := x.line.number, net := x.net
            pairs := (w.reductions.filter fun p => decide (p.1 = x.line.number)).map Prod.snd }
        entries := done.entries, used := done.used
        coupons := snap.coupons.filter fun k => snap.candidates.any fun c =>
          decide (c.record.couponKey = k) && done.used.any fun u => decide (u.offer = c.record.number) }

/-- The identity of the plan (R94): payable, line concessions, override reductions and basket concessions make up the
gross, payable stays within the gross and so within 99,999,999, and points within 999,999, for every snapshot that
holds to R105 and section 1.2. -/
def Obligations.PlanIdentity : Prop :=
  ∀ snap : Snapshot, snap.sound → (planOf snap).balanced ∧ (planOf snap).points ≤ 999999
    ∧ (planOf snap).payable ≤ (planOf snap).gross
    ∧ (linesTotal snap.lines ≤ 99999999 → (planOf snap).payable ≤ 99999999)
    ∧ (planOf snap).gross = linesTotal snap.lines ∧ (planOf snap).used.length ≤ 32
    ∧ (planOf snap).entries.length ≤ 8 ∧ ∀ e ∈ (planOf snap).lines, e.pairs.length ≤ 4

/-! ### Settlement and the journal -/

/-- SETTLE (R163 to R165): the seven checks in order; else the account takes the commit, the SETTLED record joins the
journal with the granted overrides in keying order (R166), the overrides go, the lane is free and the basket with it,
and the reply carries the figures of R165. -/
def Obligations.SettleRule : Prop :=
  ∀ (h : Header) (n points l : Nat) (b : Basket) (s : State) (c : Instr), c = .settle h n points → Unhindered c s →
    Served h n l b s →
    (99999999 < points → Refuses c .settlement .settle h .badField s)
    ∧ (points ≤ 99999999 → b.state = .opened → Refuses c .settlement .settle h .planStale s)
    ∧ (points ≤ 99999999 → b.state = .totalling → Refuses c .settlement .settle h .evaluating s)
    ∧ ∀ (p : Plan) (waiting held value : Nat), points ≤ 99999999 → b.state = .totalled → b.plan = some p →
      waiting = (s.overrides.filter fun r => decide (r.basket = n) && isPending r).length →
      held = ((basketHold b s).map Hold.points).getD 0 → value = held * s.tables.limits.pointValue / 100 →
      (b.lines = [] → Refuses c .settlement .settle h .empty s)
      ∧ (b.lines ≠ [] → waiting ≠ 0 →
          Takes c .settlement s (leaveQueue c s) [replyTo .settle h .overridePending (.byte waiting)])
      ∧ (b.lines ≠ [] → waiting = 0 → points ≠ 0 → held = 0 → Refuses c .settlement .settle h .holdLapsed s)
      ∧ (b.lines ≠ [] → waiting = 0 → points ≠ held → (points = 0 ∨ held ≠ 0) →
          Takes c .settlement s (leaveQueue c s) [replyTo .settle h .redemptionMismatch (.word held)])
      ∧ (b.lines ≠ [] → waiting = 0 → points = held → p.payable < value →
          Takes c .settlement s (leaveQueue c s) [replyTo .settle h .redeemExceeds (.settleExceeds p.payable value)])
      ∧ (b.lines ≠ [] → waiting = 0 → points = held → value ≤ p.payable → 128 ≤ s.settlement.journal.length →
          Refuses c .settlement .settle h .journalFull s)
      ∧ (b.lines ≠ [] → waiting = 0 → points = held → value ≤ p.payable → s.settlement.journal.length < 128 →
        ∃ (t : State) (record : SettledRecord) (balance : Option Nat),
          Takes c .settlement s t
            (replyTo .settle h .ok (.settled
              { basket := n, planSeq := p.seq, payable := p.payable, redeemed := held, redemptionValue := value
                amountDue := p.payable - value, points := p.points, balance := balance
                records := s.settlement.journal.length + 1 })
              :: (if s.settlement.journal.length + 1 = s.tables.limits.threshold then
                  [noticeTo .journalWaiting none (.journalWaiting (s.settlement.journal.length + 1)
                    s.settlement.waiting s.tables.limits.threshold)]
                else []))
          ∧ t.settlement = { s.settlement with journal := s.settlement.journal ++ [.settled record] }
          ∧ record.identity = s.tables.identity.getD 0 ∧ record.basket = n ∧ record.lane = l
          ∧ (∀ r : Lane, s.basketTable.lanes[l]? = some r → record.laneClass = r.laneClass)
          ∧ record.account = b.account ∧ record.stamp = s.calendar.now
          ∧ record.planSeq = p.seq ∧ record.planStamp = p.stamp ∧ record.gross = p.gross
          ∧ record.lineConcessions = p.lineConcessions ∧ record.overrideReductions = p.overrideReductions
          ∧ record.basketConcessions = p.basketConcessions ∧ record.payable = p.payable
          ∧ record.redeemed = held ∧ record.redemptionValue = value ∧ record.amountDue = p.payable - value
          ∧ record.offers = p.used ∧ record.coupons = p.coupons
          ∧ record.overrides = (bySeq (s.overrides.filter fun r => decide (r.basket = n))).filterMap (fun r =>
              match r.state with
              | .granted who _ =>
                some { line := r.line, reason := r.reason, price := r.price, reduction := r.reduction, authority := who }
              | .pending _ _ => none)
          ∧ (b.account = none → balance = none ∧ record.credit = none ∧ t.accounts = s.accounts)
          ∧ (∀ a e after, b.account = some a → findAccount a s = some e →
              after = min (e.balance - held + p.points) 99999999 →
              balance = some after ∧ record.credit = some (p.points, after, (e.balance - held + p.points) - after)
              ∧ t.accounts =
                { entries := s.accounts.entries.map fun x => if x.number = a then
                    { x with balance := min (x.balance - held + p.points) 99999999, refs := x.refs - 1
                             holds := x.holds.filter fun y => decide (y.basket ≠ n) } else x
                  idle := if e.refs = 1 then s.accounts.idle ++ [a] else s.accounts.idle })
          ∧ t.overrides = (s.overrides.filter fun r => decide (r.basket ≠ n))
          ∧ t.basketTable.baskets = (s.basketTable.baskets.filter fun x => decide (x.number ≠ n))
          ∧ (∀ i : Nat, t.basketTable.lanes[i]? = (s.basketTable.lanes[i]?).map fun (r : Lane) =>
              if r.active = some n then { r with active := none } else r)
          ∧ t.basketTable.nextNumber = s.basketTable.nextNumber
          ∧ t.basketTable.parkList = (s.basketTable.parkList.filter fun m => decide (m ≠ n))
          ∧ t.link = { (leaveQueue c s).link with
              mode := if s.link.mode = .quiescing ∧ t.basketTable.baskets = [] then .maintenance else s.link.mode }
          ∧ t.store = s.store ∧ t.tables = s.tables ∧ t.calendar = s.calendar ∧ t.router = s.router
          ∧ t.evaluator = s.evaluator ∧ t.pending = s.pending)

/-- The park timer's expiry, JOURNAL TAKE and JOURNAL COUNT (R18, R19, R168 to R170): with room in the journal the
parked basket is cancelled with its record and PARK EXPIRED, else it is marked and waits; JOURNAL TAKE removes the
oldest record and lets the waiting basket nearest the head of the park list take the place freed. -/
def Obligations.JournalAndParkExpiry : Prop :=
  ∀ (h : Header) (n : Nat) (s : State) (expired : Basket → State → Effect),
    expired = (fun b u =>
      { state := cancelBasket b .parkExpired u
        sent := noticeTo .parkExpired none (.parkExpired b.number b.account b.parkTime) ::
          (if u.settlement.journal.length + 1 = u.tables.limits.threshold then
            [noticeTo .journalWaiting none (.journalWaiting (u.settlement.journal.length + 1) u.settlement.waiting
              u.tables.limits.threshold)]
          else []) }) →
    (∀ c, c = .parkTimerExpiry n → Unhindered c s →
      ∀ b (e : Effect), findBasket n s = some b → b.state = .parked → b.parkTimer ≠ none →
        e = expired b (leaveQueue c s) →
        (s.settlement.journal.length < 128 → Takes c .basketTable s e.state e.sent)
        ∧ (128 ≤ s.settlement.journal.length → Takes c .basketTable s
            (((leaveQueue c s).withBaskets (s.basketTable.baskets.map fun y =>
              if y.number = n then { y with expired := true, parkTimer := none } else y)).withSettlement
              { s.settlement with waiting := s.settlement.waiting + 1 }) []))
    ∧ (∀ c, c = .journalTake h → Unhindered c s →
      (s.settlement.journal = [] →
        Takes c .settlement s (leaveQueue c s) [replyTo .journalTake h .journalEmpty (.byte s.settlement.waiting)])
      ∧ (∀ r rest, s.settlement.journal = r :: rest → s.settlement.waiting = 0 →
          Takes c .settlement s ((leaveQueue c s).withSettlement { s.settlement with journal := rest })
            [replyTo .journalTake h .ok (.journalTaken rest.length 0 r)])
      ∧ (∀ r rest b (e : Effect), s.settlement.journal = r :: rest → s.settlement.waiting ≠ 0 →
          ((s.basketTable.parkList.filterMap fun m => findBasket m s).find? fun x => x.expired) = some b →
          e = expired b ((leaveQueue c s).withSettlement
            { s.settlement with journal := rest, waiting := s.settlement.waiting - 1 }) →
          Takes c .settlement s e.state
            (replyTo .journalTake h .ok
              (.journalTaken (rest.length + 1) (s.settlement.waiting - 1) r) :: e.sent)))
    ∧ (∀ c, c = .journalCount h → Unhindered c s →
      ∀ settled, settled = (s.settlement.journal.filter fun r =>
          match r with
          | .settled _ => true
          | .cancelled _ => false).length →
        Takes c .settlement s (leaveQueue c s) [replyTo .journalCount h .ok
          (.journalCount s.settlement.journal.length settled (s.settlement.journal.length - settled)
            (128 - s.settlement.journal.length) s.settlement.waiting s.tables.limits.threshold)])
    ∧ (∀ (b : Basket) (u : State), b.state = .parked → b.lane = none →
        (cancelBasket b .parkExpired u).settlement.journal = u.settlement.journal ++ [.cancelled
          { identity := u.tables.identity.getD 0, basket := b.number, lane := none, account := b.account
            stamp := u.calendar.now, cause := .parkExpired, parkTime := b.parkTime }]
        ∧ (cancelBasket b .parkExpired u).basketTable =
          { u.basketTable with
            baskets := u.basketTable.baskets.filter fun x => decide (x.number ≠ b.number)
            lanes := u.basketTable.lanes.map fun r => if r.active = some b.number then { r with active := none } else r
            parkList := u.basketTable.parkList.filter fun m => decide (m ≠ b.number) }
        ∧ (cancelBasket b .parkExpired u).overrides = u.overrides.filter (fun r => decide (r.basket ≠ b.number))
        ∧ (cancelBasket b .parkExpired u).link.mode =
          (if u.link.mode = .quiescing ∧ (u.basketTable.baskets.filter fun x => decide (x.number ≠ b.number)) = [] then
            .maintenance else u.link.mode)
        ∧ (b.account = none → (cancelBasket b .parkExpired u).accounts = u.accounts)
        ∧ ∀ a e, b.account = some a → findAccount a u = some e →
          (cancelBasket b .parkExpired u).accounts =
            { entries := u.accounts.entries.map fun x => if x.number = a then
                { x with refs := x.refs - 1, holds := x.holds.filter fun y => decide (y.basket ≠ b.number) } else x
              idle := if e.refs = 1 then u.accounts.idle ++ [a] else u.accounts.idle })

/-! ### Relations that every step keeps -/


/-- Every step keeps the capacities, the offer array's and the range table's form and order (R22, R47), and a real day
with its weekday on the calendar (R60 to R62, R65). -/
def Obligations.StepsKeepTablesInForm : Prop :=
  ∀ s t : State, step s = .next t →
    (WithinCapacity s → WithinCapacity t) ∧ (StoreOrdered s → StoreOrdered t) ∧ (RangesOrdered s → RangesOrdered t)
    ∧ (CalendarReal s → CalendarReal t)

/-- Every step keeps the account relations (R142 to R144): no hold total above its balance, the idle list exact; each
desk's open count equal to the notices presented to it, at most 8 (R123); and, with lanes and baskets in agreement,
each reference count equal to the number of baskets attached and each hold on a basket that is attached and not parked
(R143). -/
def Obligations.StepsKeepAccountsAndDesks : Prop :=
  ∀ s t : State, step s = .next t →
    (AccountsCovered s → AccountsCovered t) ∧ (DesksAgree s → DesksAgree t)
    ∧ (BasketsAgree s → AccountsCovered s → AccountsAttached s → AccountsAttached t)

/-- Every step keeps lanes, baskets, park list, evaluation queue and units in agreement (R6, R78), and the
expired-parked waiting count equal to the number of baskets with the expired mark (R169). -/
def Obligations.StepsKeepBasketsAgreed : Prop :=
  ∀ s t : State, BasketsAgree s → EvaluationsAgree s → step s = .next t →
    BasketsAgree t ∧ EvaluationsAgree t ∧ (ExpiredCounted s → ExpiredCounted t)

/-- Every step keeps the override records in agreement with the lines they reduce (R105), every running unit's
snapshot sound, the presented marks in agreement with what the routes have presented and at most 8 records on a basket
(R105, R123), and every installed plan in balance with its amounts in range (R94). -/
def Obligations.StepsKeepOverridesAgreed : Prop :=
  ∀ s t : State, BasketsAgree s → EvaluationsAgree s → OverridesAgree s → step s = .next t →
    OverridesAgree t ∧ (PresentationsAgree s → PresentationsAgree t) ∧ (PlansBalanced s → PlansBalanced t)
end

