-- ==== Sys2Proof/Laws/Bytes.lean ====
section
/-! SUPPORT. Byte order: the lengths of fields, reading back what was written, and fields one after another. -/

namespace Sys2Proof

@[simp] theorem le_length (k n : Nat) : (le k n).length = k := by
  induction k generalizing n with
  | zero => rfl
  | succ k ih => simp [le, ih]

/-- A number that fits is read back from its bytes. -/
theorem leNat_le (k n : Nat) (h : n < 256 ^ k) : leNat (le k n) = n := by
  induction k generalizing n with
  | zero => simp at h; simp [le, leNat, h]
  | succ k ih =>
    have hk : n / 256 < 256 ^ k := by
      rw [Nat.div_lt_iff_lt_mul (by norm_num)]; rw [pow_succ] at h; exact h
    simp only [le, leNat, ih _ hk, BitVec.toNat_ofNat]
    omega

/-- The first field of a payload. -/
theorem field_le_append (k n : Nat) (rest : List Byte) (h : n < 256 ^ k) : field (le k n ++ rest) 0 k = n := by
  have : (le k n ++ rest).take k = le k n := by
    rw [List.take_append_of_le_length (by simp)]
    exact List.take_of_length_le (by simp)
  simp [field, this, leNat_le k n h]

/-- A field behind a first part of a payload. -/
theorem field_append (p rest : List Byte) (o k : Nat) : field (p ++ rest) (p.length + o) k = field rest o k := by
  have : p.drop (p.length + o) = [] := List.drop_eq_nil_of_le (by omega)
  simp [field, List.drop_append, this]

/-- A field behind a written field. -/
theorem field_skip (k n o j : Nat) (rest : List Byte) : field (le k n ++ rest) (k + o) j = field rest o j := by
  simpa using field_append (le k n) rest o j

/-- A byte of a field. -/
theorem le_getElem? (k n i : Nat) (h : i < k) : (le k n)[i]? = some (BitVec.ofNat 8 (n / 256 ^ i)) := by
  induction k generalizing n i with
  | zero => omega
  | succ k ih =>
    cases i with
    | zero => simp [le]
    | succ i => simp [le, ih _ _ (by omega : i < k), Nat.div_div_eq_div_mul, Nat.pow_succ, Nat.mul_comm]

/-- Entries of one size, one after another. -/
theorem length_flatMap_of_size {α : Type} (l : List α) (f : α → List Byte) (k : Nat) (h : ∀ x ∈ l, (f x).length = k) :
    (l.flatMap f).length = k * l.length := by
  induction l with
  | nil => simp
  | cons a l ih =>
    have h1 := ih fun x hx => h x (by simp [hx])
    have h2 := h a (by simp)
    simp only [List.flatMap_cons, List.length_append, h1, h2, List.length_cons, Nat.mul_succ]
    omega

namespace Machine

@[simp] theorem fields_nil : fields [] = [] := rfl
@[simp] theorem fields_cons (f : Nat × Nat) (fs : List (Nat × Nat)) : fields (f :: fs) = le f.1 f.2 ++ fields fs := rfl

@[simp] theorem fields_append (a b : List (Nat × Nat)) : fields (a ++ b) = fields a ++ fields b := by simp [fields]

theorem fields_flatMap {α : Type} (l : List α) (f : α → List (Nat × Nat)) :
    fields (l.flatMap f) = l.flatMap fun x => fields (f x) := by
  induction l with
  | nil => rfl
  | cons a l ih => simp [List.flatMap_cons, ih]

theorem fields_map {α : Type} (l : List α) (f : α → Nat × Nat) :
    fields (l.map f) = l.flatMap fun x => le (f x).1 (f x).2 := by
  induction l with
  | nil => rfl
  | cons a l ih => simp [List.flatMap_cons, ih]

theorem fields_length (fs : List (Nat × Nat)) : (fields fs).length = (fs.map Prod.fst).sum := by
  induction fs with
  | nil => rfl
  | cons a l ih => simp [ih]

/-- Padding behind bytes of a known length. -/
theorem padTo_of_length (size n : Nat) (bs : List Byte) (h : bs.length = n) :
    padTo size bs = bs ++ List.replicate (size - n) 0 := by simp [padTo, h]

end Machine

end Sys2Proof
end

