-- ==== Sys2Proof/Laws/State.lean ====
section
/-! SUPPORT. The fields of the state under each setter: one lemma per field per update, all true by definition. -/

namespace Sys2Proof.Machine.State

/-! ### withLink -/

@[simp] theorem link_withLink (s : State) (x : LinkController) : (s.withLink x).link = x := rfl
@[simp] theorem basketTable_withLink (s : State) (x : LinkController) : (s.withLink x).basketTable = s.basketTable := rfl
@[simp] theorem evaluator_withLink (s : State) (x : LinkController) : (s.withLink x).evaluator = s.evaluator := rfl
@[simp] theorem store_withLink (s : State) (x : LinkController) : (s.withLink x).store = s.store := rfl
@[simp] theorem calendar_withLink (s : State) (x : LinkController) : (s.withLink x).calendar = s.calendar := rfl
@[simp] theorem tables_withLink (s : State) (x : LinkController) : (s.withLink x).tables = s.tables := rfl
@[simp] theorem overrides_withLink (s : State) (x : LinkController) : (s.withLink x).overrides = s.overrides := rfl
@[simp] theorem router_withLink (s : State) (x : LinkController) : (s.withLink x).router = s.router := rfl
@[simp] theorem accounts_withLink (s : State) (x : LinkController) : (s.withLink x).accounts = s.accounts := rfl
@[simp] theorem settlement_withLink (s : State) (x : LinkController) : (s.withLink x).settlement = s.settlement := rfl
@[simp] theorem pending_withLink (s : State) (x : LinkController) : (s.withLink x).pending = s.pending := rfl

/-! ### withBasketTable -/

@[simp] theorem link_withBasketTable (s : State) (x : BasketTable) : (s.withBasketTable x).link = s.link := rfl
@[simp] theorem basketTable_withBasketTable (s : State) (x : BasketTable) : (s.withBasketTable x).basketTable = x := rfl
@[simp] theorem evaluator_withBasketTable (s : State) (x : BasketTable) : (s.withBasketTable x).evaluator = s.evaluator := rfl
@[simp] theorem store_withBasketTable (s : State) (x : BasketTable) : (s.withBasketTable x).store = s.store := rfl
@[simp] theorem calendar_withBasketTable (s : State) (x : BasketTable) : (s.withBasketTable x).calendar = s.calendar := rfl
@[simp] theorem tables_withBasketTable (s : State) (x : BasketTable) : (s.withBasketTable x).tables = s.tables := rfl
@[simp] theorem overrides_withBasketTable (s : State) (x : BasketTable) : (s.withBasketTable x).overrides = s.overrides := rfl
@[simp] theorem router_withBasketTable (s : State) (x : BasketTable) : (s.withBasketTable x).router = s.router := rfl
@[simp] theorem accounts_withBasketTable (s : State) (x : BasketTable) : (s.withBasketTable x).accounts = s.accounts := rfl
@[simp] theorem settlement_withBasketTable (s : State) (x : BasketTable) : (s.withBasketTable x).settlement = s.settlement := rfl
@[simp] theorem pending_withBasketTable (s : State) (x : BasketTable) : (s.withBasketTable x).pending = s.pending := rfl

/-! ### withEvaluator -/

@[simp] theorem link_withEvaluator (s : State) (x : Evaluator) : (s.withEvaluator x).link = s.link := rfl
@[simp] theorem basketTable_withEvaluator (s : State) (x : Evaluator) : (s.withEvaluator x).basketTable = s.basketTable := rfl
@[simp] theorem evaluator_withEvaluator (s : State) (x : Evaluator) : (s.withEvaluator x).evaluator = x := rfl
@[simp] theorem store_withEvaluator (s : State) (x : Evaluator) : (s.withEvaluator x).store = s.store := rfl
@[simp] theorem calendar_withEvaluator (s : State) (x : Evaluator) : (s.withEvaluator x).calendar = s.calendar := rfl
@[simp] theorem tables_withEvaluator (s : State) (x : Evaluator) : (s.withEvaluator x).tables = s.tables := rfl
@[simp] theorem overrides_withEvaluator (s : State) (x : Evaluator) : (s.withEvaluator x).overrides = s.overrides := rfl
@[simp] theorem router_withEvaluator (s : State) (x : Evaluator) : (s.withEvaluator x).router = s.router := rfl
@[simp] theorem accounts_withEvaluator (s : State) (x : Evaluator) : (s.withEvaluator x).accounts = s.accounts := rfl
@[simp] theorem settlement_withEvaluator (s : State) (x : Evaluator) : (s.withEvaluator x).settlement = s.settlement := rfl
@[simp] theorem pending_withEvaluator (s : State) (x : Evaluator) : (s.withEvaluator x).pending = s.pending := rfl

/-! ### withStore -/

@[simp] theorem link_withStore (s : State) (x : OfferStore) : (s.withStore x).link = s.link := rfl
@[simp] theorem basketTable_withStore (s : State) (x : OfferStore) : (s.withStore x).basketTable = s.basketTable := rfl
@[simp] theorem evaluator_withStore (s : State) (x : OfferStore) : (s.withStore x).evaluator = s.evaluator := rfl
@[simp] theorem store_withStore (s : State) (x : OfferStore) : (s.withStore x).store = x := rfl
@[simp] theorem calendar_withStore (s : State) (x : OfferStore) : (s.withStore x).calendar = s.calendar := rfl
@[simp] theorem tables_withStore (s : State) (x : OfferStore) : (s.withStore x).tables = s.tables := rfl
@[simp] theorem overrides_withStore (s : State) (x : OfferStore) : (s.withStore x).overrides = s.overrides := rfl
@[simp] theorem router_withStore (s : State) (x : OfferStore) : (s.withStore x).router = s.router := rfl
@[simp] theorem accounts_withStore (s : State) (x : OfferStore) : (s.withStore x).accounts = s.accounts := rfl
@[simp] theorem settlement_withStore (s : State) (x : OfferStore) : (s.withStore x).settlement = s.settlement := rfl
@[simp] theorem pending_withStore (s : State) (x : OfferStore) : (s.withStore x).pending = s.pending := rfl

/-! ### withCalendar -/

@[simp] theorem link_withCalendar (s : State) (x : Calendar) : (s.withCalendar x).link = s.link := rfl
@[simp] theorem basketTable_withCalendar (s : State) (x : Calendar) : (s.withCalendar x).basketTable = s.basketTable := rfl
@[simp] theorem evaluator_withCalendar (s : State) (x : Calendar) : (s.withCalendar x).evaluator = s.evaluator := rfl
@[simp] theorem store_withCalendar (s : State) (x : Calendar) : (s.withCalendar x).store = s.store := rfl
@[simp] theorem calendar_withCalendar (s : State) (x : Calendar) : (s.withCalendar x).calendar = x := rfl
@[simp] theorem tables_withCalendar (s : State) (x : Calendar) : (s.withCalendar x).tables = s.tables := rfl
@[simp] theorem overrides_withCalendar (s : State) (x : Calendar) : (s.withCalendar x).overrides = s.overrides := rfl
@[simp] theorem router_withCalendar (s : State) (x : Calendar) : (s.withCalendar x).router = s.router := rfl
@[simp] theorem accounts_withCalendar (s : State) (x : Calendar) : (s.withCalendar x).accounts = s.accounts := rfl
@[simp] theorem settlement_withCalendar (s : State) (x : Calendar) : (s.withCalendar x).settlement = s.settlement := rfl
@[simp] theorem pending_withCalendar (s : State) (x : Calendar) : (s.withCalendar x).pending = s.pending := rfl

/-! ### withTables -/

@[simp] theorem link_withTables (s : State) (x : Tables) : (s.withTables x).link = s.link := rfl
@[simp] theorem basketTable_withTables (s : State) (x : Tables) : (s.withTables x).basketTable = s.basketTable := rfl
@[simp] theorem evaluator_withTables (s : State) (x : Tables) : (s.withTables x).evaluator = s.evaluator := rfl
@[simp] theorem store_withTables (s : State) (x : Tables) : (s.withTables x).store = s.store := rfl
@[simp] theorem calendar_withTables (s : State) (x : Tables) : (s.withTables x).calendar = s.calendar := rfl
@[simp] theorem tables_withTables (s : State) (x : Tables) : (s.withTables x).tables = x := rfl
@[simp] theorem overrides_withTables (s : State) (x : Tables) : (s.withTables x).overrides = s.overrides := rfl
@[simp] theorem router_withTables (s : State) (x : Tables) : (s.withTables x).router = s.router := rfl
@[simp] theorem accounts_withTables (s : State) (x : Tables) : (s.withTables x).accounts = s.accounts := rfl
@[simp] theorem settlement_withTables (s : State) (x : Tables) : (s.withTables x).settlement = s.settlement := rfl
@[simp] theorem pending_withTables (s : State) (x : Tables) : (s.withTables x).pending = s.pending := rfl

/-! ### withOverrides -/

@[simp] theorem link_withOverrides (s : State) (x : List OverrideRecord) : (s.withOverrides x).link = s.link := rfl
@[simp] theorem basketTable_withOverrides (s : State) (x : List OverrideRecord) : (s.withOverrides x).basketTable = s.basketTable := rfl
@[simp] theorem evaluator_withOverrides (s : State) (x : List OverrideRecord) : (s.withOverrides x).evaluator = s.evaluator := rfl
@[simp] theorem store_withOverrides (s : State) (x : List OverrideRecord) : (s.withOverrides x).store = s.store := rfl
@[simp] theorem calendar_withOverrides (s : State) (x : List OverrideRecord) : (s.withOverrides x).calendar = s.calendar := rfl
@[simp] theorem tables_withOverrides (s : State) (x : List OverrideRecord) : (s.withOverrides x).tables = s.tables := rfl
@[simp] theorem overrides_withOverrides (s : State) (x : List OverrideRecord) : (s.withOverrides x).overrides = x := rfl
@[simp] theorem router_withOverrides (s : State) (x : List OverrideRecord) : (s.withOverrides x).router = s.router := rfl
@[simp] theorem accounts_withOverrides (s : State) (x : List OverrideRecord) : (s.withOverrides x).accounts = s.accounts := rfl
@[simp] theorem settlement_withOverrides (s : State) (x : List OverrideRecord) : (s.withOverrides x).settlement = s.settlement := rfl
@[simp] theorem pending_withOverrides (s : State) (x : List OverrideRecord) : (s.withOverrides x).pending = s.pending := rfl

/-! ### withRouter -/

@[simp] theorem link_withRouter (s : State) (x : Router) : (s.withRouter x).link = s.link := rfl
@[simp] theorem basketTable_withRouter (s : State) (x : Router) : (s.withRouter x).basketTable = s.basketTable := rfl
@[simp] theorem evaluator_withRouter (s : State) (x : Router) : (s.withRouter x).evaluator = s.evaluator := rfl
@[simp] theorem store_withRouter (s : State) (x : Router) : (s.withRouter x).store = s.store := rfl
@[simp] theorem calendar_withRouter (s : State) (x : Router) : (s.withRouter x).calendar = s.calendar := rfl
@[simp] theorem tables_withRouter (s : State) (x : Router) : (s.withRouter x).tables = s.tables := rfl
@[simp] theorem overrides_withRouter (s : State) (x : Router) : (s.withRouter x).overrides = s.overrides := rfl
@[simp] theorem router_withRouter (s : State) (x : Router) : (s.withRouter x).router = x := rfl
@[simp] theorem accounts_withRouter (s : State) (x : Router) : (s.withRouter x).accounts = s.accounts := rfl
@[simp] theorem settlement_withRouter (s : State) (x : Router) : (s.withRouter x).settlement = s.settlement := rfl
@[simp] theorem pending_withRouter (s : State) (x : Router) : (s.withRouter x).pending = s.pending := rfl

/-! ### withAccounts -/

@[simp] theorem link_withAccounts (s : State) (x : AccountTable) : (s.withAccounts x).link = s.link := rfl
@[simp] theorem basketTable_withAccounts (s : State) (x : AccountTable) : (s.withAccounts x).basketTable = s.basketTable := rfl
@[simp] theorem evaluator_withAccounts (s : State) (x : AccountTable) : (s.withAccounts x).evaluator = s.evaluator := rfl
@[simp] theorem store_withAccounts (s : State) (x : AccountTable) : (s.withAccounts x).store = s.store := rfl
@[simp] theorem calendar_withAccounts (s : State) (x : AccountTable) : (s.withAccounts x).calendar = s.calendar := rfl
@[simp] theorem tables_withAccounts (s : State) (x : AccountTable) : (s.withAccounts x).tables = s.tables := rfl
@[simp] theorem overrides_withAccounts (s : State) (x : AccountTable) : (s.withAccounts x).overrides = s.overrides := rfl
@[simp] theorem router_withAccounts (s : State) (x : AccountTable) : (s.withAccounts x).router = s.router := rfl
@[simp] theorem accounts_withAccounts (s : State) (x : AccountTable) : (s.withAccounts x).accounts = x := rfl
@[simp] theorem settlement_withAccounts (s : State) (x : AccountTable) : (s.withAccounts x).settlement = s.settlement := rfl
@[simp] theorem pending_withAccounts (s : State) (x : AccountTable) : (s.withAccounts x).pending = s.pending := rfl

/-! ### withSettlement -/

@[simp] theorem link_withSettlement (s : State) (x : Settlement) : (s.withSettlement x).link = s.link := rfl
@[simp] theorem basketTable_withSettlement (s : State) (x : Settlement) : (s.withSettlement x).basketTable = s.basketTable := rfl
@[simp] theorem evaluator_withSettlement (s : State) (x : Settlement) : (s.withSettlement x).evaluator = s.evaluator := rfl
@[simp] theorem store_withSettlement (s : State) (x : Settlement) : (s.withSettlement x).store = s.store := rfl
@[simp] theorem calendar_withSettlement (s : State) (x : Settlement) : (s.withSettlement x).calendar = s.calendar := rfl
@[simp] theorem tables_withSettlement (s : State) (x : Settlement) : (s.withSettlement x).tables = s.tables := rfl
@[simp] theorem overrides_withSettlement (s : State) (x : Settlement) : (s.withSettlement x).overrides = s.overrides := rfl
@[simp] theorem router_withSettlement (s : State) (x : Settlement) : (s.withSettlement x).router = s.router := rfl
@[simp] theorem accounts_withSettlement (s : State) (x : Settlement) : (s.withSettlement x).accounts = s.accounts := rfl
@[simp] theorem settlement_withSettlement (s : State) (x : Settlement) : (s.withSettlement x).settlement = x := rfl
@[simp] theorem pending_withSettlement (s : State) (x : Settlement) : (s.withSettlement x).pending = s.pending := rfl

/-! ### withPending -/

@[simp] theorem link_withPending (s : State) (x : List Instr) : (s.withPending x).link = s.link := rfl
@[simp] theorem basketTable_withPending (s : State) (x : List Instr) : (s.withPending x).basketTable = s.basketTable := rfl
@[simp] theorem evaluator_withPending (s : State) (x : List Instr) : (s.withPending x).evaluator = s.evaluator := rfl
@[simp] theorem store_withPending (s : State) (x : List Instr) : (s.withPending x).store = s.store := rfl
@[simp] theorem calendar_withPending (s : State) (x : List Instr) : (s.withPending x).calendar = s.calendar := rfl
@[simp] theorem tables_withPending (s : State) (x : List Instr) : (s.withPending x).tables = s.tables := rfl
@[simp] theorem overrides_withPending (s : State) (x : List Instr) : (s.withPending x).overrides = s.overrides := rfl
@[simp] theorem router_withPending (s : State) (x : List Instr) : (s.withPending x).router = s.router := rfl
@[simp] theorem accounts_withPending (s : State) (x : List Instr) : (s.withPending x).accounts = s.accounts := rfl
@[simp] theorem settlement_withPending (s : State) (x : List Instr) : (s.withPending x).settlement = s.settlement := rfl
@[simp] theorem pending_withPending (s : State) (x : List Instr) : (s.withPending x).pending = x := rfl

/-! ### withMode -/

@[simp] theorem link_withMode (s : State) (m : Mode) : (s.withMode m).link = { s.link with mode := m } := rfl
@[simp] theorem basketTable_withMode (s : State) (m : Mode) : (s.withMode m).basketTable = s.basketTable := rfl
@[simp] theorem evaluator_withMode (s : State) (m : Mode) : (s.withMode m).evaluator = s.evaluator := rfl
@[simp] theorem store_withMode (s : State) (m : Mode) : (s.withMode m).store = s.store := rfl
@[simp] theorem calendar_withMode (s : State) (m : Mode) : (s.withMode m).calendar = s.calendar := rfl
@[simp] theorem tables_withMode (s : State) (m : Mode) : (s.withMode m).tables = s.tables := rfl
@[simp] theorem overrides_withMode (s : State) (m : Mode) : (s.withMode m).overrides = s.overrides := rfl
@[simp] theorem router_withMode (s : State) (m : Mode) : (s.withMode m).router = s.router := rfl
@[simp] theorem accounts_withMode (s : State) (m : Mode) : (s.withMode m).accounts = s.accounts := rfl
@[simp] theorem settlement_withMode (s : State) (m : Mode) : (s.withMode m).settlement = s.settlement := rfl
@[simp] theorem pending_withMode (s : State) (m : Mode) : (s.withMode m).pending = s.pending := rfl

/-! ### withBaskets -/

@[simp] theorem link_withBaskets (s : State) (bs : List Basket) : (s.withBaskets bs).link = s.link := rfl
@[simp] theorem basketTable_withBaskets (s : State) (bs : List Basket) : (s.withBaskets bs).basketTable = { s.basketTable with baskets := bs } := rfl
@[simp] theorem evaluator_withBaskets (s : State) (bs : List Basket) : (s.withBaskets bs).evaluator = s.evaluator := rfl
@[simp] theorem store_withBaskets (s : State) (bs : List Basket) : (s.withBaskets bs).store = s.store := rfl
@[simp] theorem calendar_withBaskets (s : State) (bs : List Basket) : (s.withBaskets bs).calendar = s.calendar := rfl
@[simp] theorem tables_withBaskets (s : State) (bs : List Basket) : (s.withBaskets bs).tables = s.tables := rfl
@[simp] theorem overrides_withBaskets (s : State) (bs : List Basket) : (s.withBaskets bs).overrides = s.overrides := rfl
@[simp] theorem router_withBaskets (s : State) (bs : List Basket) : (s.withBaskets bs).router = s.router := rfl
@[simp] theorem accounts_withBaskets (s : State) (bs : List Basket) : (s.withBaskets bs).accounts = s.accounts := rfl
@[simp] theorem settlement_withBaskets (s : State) (bs : List Basket) : (s.withBaskets bs).settlement = s.settlement := rfl
@[simp] theorem pending_withBaskets (s : State) (bs : List Basket) : (s.withBaskets bs).pending = s.pending := rfl

end Sys2Proof.Machine.State
end

