-- ==== Sys2Proof/Laws/Ops.lean ====
section
/-! SUPPORT. What the shared operations can do: taking an event, placing messages, the step, changes to baskets and lanes,
and the basket checks. -/

namespace Sys2Proof.Machine

/-! ### leaveQueue and place: the fields -/

@[simp] theorem leaveQueue_basketTable (c : Instr) (s : State) : (leaveQueue c s).basketTable = s.basketTable := rfl
@[simp] theorem leaveQueue_evaluator (c : Instr) (s : State) : (leaveQueue c s).evaluator = s.evaluator := rfl
@[simp] theorem leaveQueue_store (c : Instr) (s : State) : (leaveQueue c s).store = s.store := rfl
@[simp] theorem leaveQueue_calendar (c : Instr) (s : State) : (leaveQueue c s).calendar = s.calendar := rfl
@[simp] theorem leaveQueue_tables (c : Instr) (s : State) : (leaveQueue c s).tables = s.tables := rfl
@[simp] theorem leaveQueue_overrides (c : Instr) (s : State) : (leaveQueue c s).overrides = s.overrides := rfl
@[simp] theorem leaveQueue_router (c : Instr) (s : State) : (leaveQueue c s).router = s.router := rfl
@[simp] theorem leaveQueue_accounts (c : Instr) (s : State) : (leaveQueue c s).accounts = s.accounts := rfl
@[simp] theorem leaveQueue_settlement (c : Instr) (s : State) : (leaveQueue c s).settlement = s.settlement := rfl
@[simp] theorem leaveQueue_pending (c : Instr) (s : State) : (leaveQueue c s).pending = s.pending := rfl
@[simp] theorem leaveQueue_link (c : Instr) (s : State) :
    (leaveQueue c s).link = { s.link with requests := s.link.requests.erase c } := rfl

/-! ### refuseFrame, waitOnQueue, withDue, runOut, stayDue: the fields -/

@[simp] theorem refuseFrame_basketTable (x : Byte) (h : Header) (st : Status) (s : State) :
    (refuseFrame x h st s).basketTable = s.basketTable := by unfold refuseFrame; split <;> rfl
@[simp] theorem refuseFrame_evaluator (x : Byte) (h : Header) (st : Status) (s : State) :
    (refuseFrame x h st s).evaluator = s.evaluator := by unfold refuseFrame; split <;> rfl
@[simp] theorem refuseFrame_store (x : Byte) (h : Header) (st : Status) (s : State) :
    (refuseFrame x h st s).store = s.store := by unfold refuseFrame; split <;> rfl
@[simp] theorem refuseFrame_calendar (x : Byte) (h : Header) (st : Status) (s : State) :
    (refuseFrame x h st s).calendar = s.calendar := by unfold refuseFrame; split <;> rfl
@[simp] theorem refuseFrame_tables (x : Byte) (h : Header) (st : Status) (s : State) :
    (refuseFrame x h st s).tables = s.tables := by unfold refuseFrame; split <;> rfl
@[simp] theorem refuseFrame_overrides (x : Byte) (h : Header) (st : Status) (s : State) :
    (refuseFrame x h st s).overrides = s.overrides := by unfold refuseFrame; split <;> rfl
@[simp] theorem refuseFrame_router (x : Byte) (h : Header) (st : Status) (s : State) :
    (refuseFrame x h st s).router = s.router := by unfold refuseFrame; split <;> rfl
@[simp] theorem refuseFrame_accounts (x : Byte) (h : Header) (st : Status) (s : State) :
    (refuseFrame x h st s).accounts = s.accounts := by unfold refuseFrame; split <;> rfl
@[simp] theorem refuseFrame_settlement (x : Byte) (h : Header) (st : Status) (s : State) :
    (refuseFrame x h st s).settlement = s.settlement := by unfold refuseFrame; split <;> rfl
@[simp] theorem refuseFrame_pending (x : Byte) (h : Header) (st : Status) (s : State) :
    (refuseFrame x h st s).pending = s.pending := by unfold refuseFrame; split <;> rfl
@[simp] theorem refuseFrame_due (x : Byte) (h : Header) (st : Status) (s : State) :
    (refuseFrame x h st s).link.due = s.link.due := by unfold refuseFrame; split <;> rfl
@[simp] theorem refuseFrame_requests (x : Byte) (h : Header) (st : Status) (s : State) :
    (refuseFrame x h st s).link.requests = s.link.requests := by unfold refuseFrame; split <;> rfl

/-- A request that is not taken stays on the request queue, joins its tail, or is refused with the queue full; an
event that is no request waits on no queue. -/
theorem waitOnQueue_cases (c : Instr) (s : State) :
    waitOnQueue c s = s
    ∨ (c ∉ s.link.requests ∧ s.link.requests.length < 32
        ∧ waitOnQueue c s = s.withLink { s.link with requests := s.link.requests ++ [c] })
    ∨ (c ∉ s.link.requests ∧ 32 ≤ s.link.requests.length
        ∧ ∃ x h, waitOnQueue c s = refuseFrame x h .queueFull s) := by
  unfold waitOnQueue
  split
  · exact .inl rfl
  · split
    · exact .inl rfl
    · split
      · exact .inr (.inl ⟨by assumption, by assumption, rfl⟩)
      · exact .inr (.inr ⟨by assumption, Nat.le_of_not_lt (by assumption), _, _, rfl⟩)

@[simp] theorem waitOnQueue_basketTable (c : Instr) (s : State) : (waitOnQueue c s).basketTable = s.basketTable := by
  rcases waitOnQueue_cases c s with h | ⟨_, _, h⟩ | ⟨_, _, _, _, h⟩ <;> simp [h]
@[simp] theorem waitOnQueue_evaluator (c : Instr) (s : State) : (waitOnQueue c s).evaluator = s.evaluator := by
  rcases waitOnQueue_cases c s with h | ⟨_, _, h⟩ | ⟨_, _, _, _, h⟩ <;> simp [h]
@[simp] theorem waitOnQueue_store (c : Instr) (s : State) : (waitOnQueue c s).store = s.store := by
  rcases waitOnQueue_cases c s with h | ⟨_, _, h⟩ | ⟨_, _, _, _, h⟩ <;> simp [h]
@[simp] theorem waitOnQueue_calendar (c : Instr) (s : State) : (waitOnQueue c s).calendar = s.calendar := by
  rcases waitOnQueue_cases c s with h | ⟨_, _, h⟩ | ⟨_, _, _, _, h⟩ <;> simp [h]
@[simp] theorem waitOnQueue_tables (c : Instr) (s : State) : (waitOnQueue c s).tables = s.tables := by
  rcases waitOnQueue_cases c s with h | ⟨_, _, h⟩ | ⟨_, _, _, _, h⟩ <;> simp [h]
@[simp] theorem waitOnQueue_overrides (c : Instr) (s : State) : (waitOnQueue c s).overrides = s.overrides := by
  rcases waitOnQueue_cases c s with h | ⟨_, _, h⟩ | ⟨_, _, _, _, h⟩ <;> simp [h]
@[simp] theorem waitOnQueue_router (c : Instr) (s : State) : (waitOnQueue c s).router = s.router := by
  rcases waitOnQueue_cases c s with h | ⟨_, _, h⟩ | ⟨_, _, _, _, h⟩ <;> simp [h]
@[simp] theorem waitOnQueue_accounts (c : Instr) (s : State) : (waitOnQueue c s).accounts = s.accounts := by
  rcases waitOnQueue_cases c s with h | ⟨_, _, h⟩ | ⟨_, _, _, _, h⟩ <;> simp [h]
@[simp] theorem waitOnQueue_settlement (c : Instr) (s : State) : (waitOnQueue c s).settlement = s.settlement := by
  rcases waitOnQueue_cases c s with h | ⟨_, _, h⟩ | ⟨_, _, _, _, h⟩ <;> simp [h]
@[simp] theorem waitOnQueue_pending (c : Instr) (s : State) : (waitOnQueue c s).pending = s.pending := by
  rcases waitOnQueue_cases c s with h | ⟨_, _, h⟩ | ⟨_, _, _, _, h⟩ <;> simp [h]
@[simp] theorem waitOnQueue_due (c : Instr) (s : State) : (waitOnQueue c s).link.due = s.link.due := by
  rcases waitOnQueue_cases c s with h | ⟨_, _, h⟩ | ⟨_, _, _, _, h⟩ <;> simp [h]

@[simp] theorem withDue_basketTable (cs : List Instr) (s : State) : (withDue cs s).basketTable = s.basketTable := rfl
@[simp] theorem withDue_evaluator (cs : List Instr) (s : State) : (withDue cs s).evaluator = s.evaluator := rfl
@[simp] theorem withDue_store (cs : List Instr) (s : State) : (withDue cs s).store = s.store := rfl
@[simp] theorem withDue_calendar (cs : List Instr) (s : State) : (withDue cs s).calendar = s.calendar := rfl
@[simp] theorem withDue_tables (cs : List Instr) (s : State) : (withDue cs s).tables = s.tables := rfl
@[simp] theorem withDue_overrides (cs : List Instr) (s : State) : (withDue cs s).overrides = s.overrides := rfl
@[simp] theorem withDue_router (cs : List Instr) (s : State) : (withDue cs s).router = s.router := rfl
@[simp] theorem withDue_accounts (cs : List Instr) (s : State) : (withDue cs s).accounts = s.accounts := rfl
@[simp] theorem withDue_settlement (cs : List Instr) (s : State) : (withDue cs s).settlement = s.settlement := rfl
@[simp] theorem withDue_pending (cs : List Instr) (s : State) : (withDue cs s).pending = s.pending := rfl
@[simp] theorem withDue_link (cs : List Instr) (s : State) : (withDue cs s).link = { s.link with due := cs } := rfl
@[simp] theorem withDue_self (s : State) : withDue s.link.due s = s := rfl

@[simp] theorem runOut_link (c : Instr) (s : State) : (runOut c s).link = s.link := by
  unfold runOut; split <;> (try split) <;> rfl
@[simp] theorem runOut_evaluator (c : Instr) (s : State) : (runOut c s).evaluator = s.evaluator := by
  unfold runOut; split <;> (try split) <;> rfl
@[simp] theorem runOut_calendar_state (c : Instr) (s : State) : (runOut c s).calendar.state = s.calendar.state := by
  unfold runOut; split <;> (try split) <;> rfl
@[simp] theorem runOut_calendar_now (c : Instr) (s : State) : (runOut c s).calendar.now = s.calendar.now := by
  unfold runOut; split <;> (try split) <;> rfl
theorem runOut_calendar {c : Instr} (hc : c ≠ .secondEvent) (s : State) : (runOut c s).calendar = s.calendar := by
  unfold runOut; split <;> (try split) <;> first | rfl | contradiction
@[simp] theorem runOut_secondEvent (s : State) : runOut .secondEvent s =
    s.withCalendar { s.calendar with phase := 1000 * (s.calendar.phase / 1000 + 1) } := rfl
@[simp] theorem runOut_tables (c : Instr) (s : State) : (runOut c s).tables = s.tables := by
  unfold runOut; split <;> (try split) <;> rfl
@[simp] theorem runOut_overrides (c : Instr) (s : State) : (runOut c s).overrides = s.overrides := by
  unfold runOut; split <;> (try split) <;> rfl
@[simp] theorem runOut_settlement (c : Instr) (s : State) : (runOut c s).settlement = s.settlement := by
  unfold runOut; split <;> (try split) <;> rfl
@[simp] theorem runOut_pending (c : Instr) (s : State) : (runOut c s).pending = s.pending := by
  unfold runOut; split <;> (try split) <;> rfl

/-- An event that stays due joins the tail of the due events with its timer run out; a request does so on the request
queue, or is refused with that queue full. -/
theorem stayDue_cases (c : Instr) (s : State) :
    (headerOf c = none ∧ stayDue c s = withDue (s.link.due ++ [c]) (runOut c s))
    ∨ (headerOf c ≠ none ∧ c ∈ (waitOnQueue c s).link.requests
        ∧ stayDue c s = withDue (s.link.due ++ [c]) (waitOnQueue c s))
    ∨ (headerOf c ≠ none ∧ c ∉ (waitOnQueue c s).link.requests ∧ stayDue c s = waitOnQueue c s) := by
  unfold stayDue
  split
  · exact .inl ⟨by assumption, rfl⟩
  · rename_i g hg
    simp only [waitOnQueue_due]
    split
    · exact .inr (.inl ⟨by simp [hg], by assumption, rfl⟩)
    · exact .inr (.inr ⟨by simp [hg], by assumption, rfl⟩)

@[simp] theorem stayDue_evaluator (c : Instr) (s : State) : (stayDue c s).evaluator = s.evaluator := by
  rcases stayDue_cases c s with ⟨_, h⟩ | ⟨_, _, h⟩ | ⟨_, _, h⟩ <;> simp [h]
@[simp] theorem stayDue_calendar_state (c : Instr) (s : State) :
    (stayDue c s).calendar.state = s.calendar.state := by
  rcases stayDue_cases c s with ⟨_, h⟩ | ⟨_, _, h⟩ | ⟨_, _, h⟩ <;> simp [h]
@[simp] theorem stayDue_calendar_now (c : Instr) (s : State) : (stayDue c s).calendar.now = s.calendar.now := by
  rcases stayDue_cases c s with ⟨_, h⟩ | ⟨_, _, h⟩ | ⟨_, _, h⟩ <;> simp [h]
theorem stayDue_calendar {c : Instr} (hc : c ≠ .secondEvent) (s : State) : (stayDue c s).calendar = s.calendar := by
  rcases stayDue_cases c s with ⟨_, h⟩ | ⟨_, _, h⟩ | ⟨_, _, h⟩ <;> simp [h, runOut_calendar hc]
/-- A second event that stays due puts the second phase at the start of the second it began (R61, log 20). -/
@[simp] theorem stayDue_secondEvent (s : State) : stayDue .secondEvent s =
    withDue (s.link.due ++ [.secondEvent])
      (s.withCalendar { s.calendar with phase := 1000 * (s.calendar.phase / 1000 + 1) }) := rfl
@[simp] theorem stayDue_tables (c : Instr) (s : State) : (stayDue c s).tables = s.tables := by
  rcases stayDue_cases c s with ⟨_, h⟩ | ⟨_, _, h⟩ | ⟨_, _, h⟩ <;> simp [h]
@[simp] theorem stayDue_overrides (c : Instr) (s : State) : (stayDue c s).overrides = s.overrides := by
  rcases stayDue_cases c s with ⟨_, h⟩ | ⟨_, _, h⟩ | ⟨_, _, h⟩ <;> simp [h]
@[simp] theorem stayDue_settlement (c : Instr) (s : State) : (stayDue c s).settlement = s.settlement := by
  rcases stayDue_cases c s with ⟨_, h⟩ | ⟨_, _, h⟩ | ⟨_, _, h⟩ <;> simp [h]
@[simp] theorem stayDue_pending (c : Instr) (s : State) : (stayDue c s).pending = s.pending := by
  rcases stayDue_cases c s with ⟨_, h⟩ | ⟨_, _, h⟩ | ⟨_, _, h⟩ <;> simp [h]

@[simp] theorem place_basketTable (b : Block) (ms : List Message) (s : State) :
    (place b ms s).basketTable = s.basketTable := rfl
@[simp] theorem place_evaluator (b : Block) (ms : List Message) (s : State) :
    (place b ms s).evaluator = s.evaluator := rfl
@[simp] theorem place_store (b : Block) (ms : List Message) (s : State) : (place b ms s).store = s.store := rfl
@[simp] theorem place_calendar (b : Block) (ms : List Message) (s : State) :
    (place b ms s).calendar = s.calendar := rfl
@[simp] theorem place_tables (b : Block) (ms : List Message) (s : State) : (place b ms s).tables = s.tables := rfl
@[simp] theorem place_overrides (b : Block) (ms : List Message) (s : State) :
    (place b ms s).overrides = s.overrides := rfl
@[simp] theorem place_router (b : Block) (ms : List Message) (s : State) : (place b ms s).router = s.router := rfl
@[simp] theorem place_accounts (b : Block) (ms : List Message) (s : State) :
    (place b ms s).accounts = s.accounts := rfl
@[simp] theorem place_settlement (b : Block) (ms : List Message) (s : State) :
    (place b ms s).settlement = s.settlement := rfl
@[simp] theorem place_pending (b : Block) (ms : List Message) (s : State) : (place b ms s).pending = s.pending := rfl
@[simp] theorem place_mode (b : Block) (ms : List Message) (s : State) :
    (place b ms s).link.mode = s.link.mode := rfl
@[simp] theorem place_due (b : Block) (ms : List Message) (s : State) : (place b ms s).link.due = s.link.due := rfl
@[simp] theorem place_requests (b : Block) (ms : List Message) (s : State) :
    (place b ms s).link.requests = s.link.requests := rfl

/-- Messages find places while the queue has them. -/
theorem place_of_room (b : Block) (ms : List Message) (s : State) (hh : s.link.held = [])
    (hr : s.link.transmit.length + ms.length ≤ 64) :
    place b ms s = s.withLink { s.link with transmit := s.link.transmit ++ ms } := by
  have hroom : room s = 64 - s.link.transmit.length := by simp [room, hh]
  have hle : ms.length ≤ room s := by omega
  simp [place, List.take_of_length_le hle, List.drop_eq_nil_of_le hle]

/-- Placing never passes the 64 places of the transmit queue (R179). -/
theorem place_transmit_le (b : Block) (ms : List Message) (s : State) (hs : s.link.transmit.length ≤ 64) :
    (place b ms s).link.transmit.length ≤ 64 := by
  simp only [place, State.link_withLink, List.length_append, List.length_take]
  by_cases hh : s.link.held = [] <;> simp [room, hh] <;> omega

/-! ### Waiting blocks -/

theorem waits_eq_true_iff (b : Block) (s : State) : waits b s = true ↔ b ∈ waitingBlocks s := by
  simp [waits]

theorem mem_all (b : Block) : b ∈ Block.all := by cases b <;> decide

/-- The block that takes an event is touched by it. -/
theorem touches_owner {c : Instr} {b : Block} (s : State) (h : ownerOf c = some b) : touches c s b = true := by
  simp [touches, h]

theorem mem_waitingOver_of_kept {b : Block} {kept : List Block} {s : State} (due : List Instr) (h : b ∈ kept) :
    b ∈ waitingOver s kept due := by
  induction due generalizing kept with
  | nil => exact h
  | cons c rest ih =>
    unfold waitingOver
    split
    · exact ih (List.mem_append_left _ h)
    · exact List.mem_append_right _ (ih h)

theorem mem_waitingOver_of_due {b : Block} {c : Instr} {s : State} {due : List Instr} (kept : List Block) (hc : c ∈ due)
    (h : ownerOf c = some b) : b ∈ waitingOver s kept due := by
  induction due generalizing kept with
  | nil => cases hc
  | cons d rest ih =>
    unfold waitingOver
    split
    · rcases List.mem_cons.1 hc with rfl | hr
      · exact mem_waitingOver_of_kept _ (by simp [h])
      · exact ih _ hr
    · rcases List.mem_cons.1 hc with rfl | hr
      · exact List.mem_append_left _ (List.mem_filter.2 ⟨mem_all b, touches_owner s h⟩)
      · exact List.mem_append_right _ (ih _ hr)

/-- A block that holds messages waits (R179). -/
theorem waits_of_held {m : HeldMessage} {s : State} (h : m ∈ s.link.held) : waits m.owner s = true :=
  (waits_eq_true_iff _ _).2 (mem_waitingOver_of_kept _ (List.mem_map_of_mem h))

/-- A block with an event that stays due waits (R179). -/
theorem waits_of_due {b : Block} {c : Instr} {s : State} (hc : c ∈ s.link.due) (h : ownerOf c = some b) :
    waits b s = true :=
  (waits_eq_true_iff _ _).2 (mem_waitingOver_of_due _ hc h)

theorem waitingBlocks_of_unhindered {c : Instr} {s : State} (hu : Unhindered c s) : waitingBlocks s = [] := by
  simp [waitingBlocks, hu.1, hu.2.1, waitingOver]

theorem waits_of_unhindered {c : Instr} {s : State} (hu : Unhindered c s) (b : Block) : waits b s = false := by
  simp [waits, waitingBlocks_of_unhindered hu]

/-! ### Taking an event -/

/-- Taking an event: a request that would overtake waits on the queue; a hindered event stays due, or cannot come about;
else its effect is applied to the state without the request, and its messages are placed. -/
theorem takeEvent_cases (c : Instr) (s : State) :
    takeEvent c s = waitOnQueue c s
    ∨ takeEvent c s = stayDue c s
    ∨ takeEvent c s = s
    ∨ takeEvent c s
        = place ((ownerOf c).getD .link) (runOf c (leaveQueue c s)).sent (runOf c (leaveQueue c s)).state := by
  unfold takeEvent
  split
  · exact .inl rfl
  · split
    · split
      · exact .inr (.inl rfl)
      · exact .inr (.inr (.inl rfl))
    · exact .inr (.inr (.inr rfl))

/-- What holds of the state, of the state with the event waiting or due, and of the state the effect leaves, holds
after. -/
theorem takeEvent_preserves (P : State → Prop) {c : Instr} {s : State} (hs : P s) (hwait : P (waitOnQueue c s))
    (hdue : P (stayDue c s))
    (hrun : P (place ((ownerOf c).getD .link) (runOf c (leaveQueue c s)).sent (runOf c (leaveQueue c s)).state)) :
    P (takeEvent c s) := by
  rcases takeEvent_cases c s with h | h | h | h <;> rw [h] <;> assumption

/-- Every command of a block is an event that its block takes. -/
theorem exec_eq_takeEvent {c : Instr} {b : Block} (s : State) (h : ownerOf c = some b) :
    exec c s = .next (takeEvent c s) := by
  cases c <;> first | rfl | cases h

/-- An unhindered event is taken. -/
theorem takeEvent_of_unhindered {c : Instr} {b : Block} {s : State} (hu : Unhindered c s) (h : ownerOf c = some b) :
    takeEvent c s = place b (runOf c (leaveQueue c s)).sent (runOf c (leaveQueue c s)).state := by
  simp [takeEvent, waitingBlocks_of_unhindered hu, hu.2.2, h]

/-- A request that would overtake its stream waits on the request queue. -/
theorem takeEvent_of_overtakes {c : Instr} {s : State} (ho : overtakes c s = true) :
    takeEvent c s = waitOnQueue c s := by
  simp [takeEvent, ho]

/-- An event that touches a waiting block stays due. -/
theorem takeEvent_of_waits {c : Instr} {x : Block} {s : State} (ho : overtakes c s = false) (hx : waits x s = true)
    (ht : touches c s x = true) (hf : fallsDue c s = true) : takeEvent c s = stayDue c s := by
  have : (waitingBlocks s).any (touches c s) = true := List.any_eq_true.2 ⟨x, (waits_eq_true_iff _ _).1 hx, ht⟩
  simp [takeEvent, ho, this, hf]

/-- An event that touches no waiting block is taken. -/
theorem takeEvent_of_free {c : Instr} {b : Block} {s : State} (ho : overtakes c s = false) (h : ownerOf c = some b)
    (hw : ∀ x, waits x s = true → touches c s x = false) :
    takeEvent c s = place b (runOf c (leaveQueue c s)).sent (runOf c (leaveQueue c s)).state := by
  have : (waitingBlocks s).any (touches c s) = false :=
    List.any_eq_false.2 fun x hx => by simp [hw x ((waits_eq_true_iff _ _).2 hx)]
  simp [takeEvent, ho, this, h]

/-! ### The part's own step -/

theorem takeDueEvent_eq {before after : List Instr} {c : Instr} {s t : State} (h : takeDueEvent before c after s = some t) :
    ∃ u, exec c (withDue before s) = .next u ∧ t = dropStopped (withDue (u.link.due ++ after) u) := by
  unfold takeDueEvent at h
  split at h
  · split at h
    · exact ⟨_, by assumption, (Option.some.inj h).symm⟩
    · cases h
  all_goals cases h

theorem takeDue_eq {before rest : List Instr} {s t : State} (h : takeDue before rest s = some t) :
    ∃ first c after u, rest = first ++ c :: after ∧ exec c (withDue (before ++ first) s) = .next u
      ∧ t = dropStopped (withDue (u.link.due ++ after) u) := by
  induction rest generalizing before with
  | nil => cases h
  | cons c rest ih =>
    unfold takeDue at h
    split at h
    · rename_i w hw
      obtain ⟨u, hu, ht⟩ := takeDueEvent_eq hw
      exact ⟨[], c, rest, u, rfl, by simpa using hu, (Option.some.inj h) ▸ ht⟩
    · obtain ⟨first, d, after, u, hr, hu, ht⟩ := ih h
      exact ⟨c :: first, d, after, u, by simp [hr], by simpa using hu, ht⟩

theorem deliverFirst_eq {cs : List Instr} {s t : State} (h : deliverFirst cs s = some t) :
    ∃ c ∈ cs, exec c s = .next t := by
  induction cs with
  | nil => cases h
  | cons c rest ih =>
    unfold deliverFirst at h
    split at h
    · rename_i w hw
      refine ⟨c, by simp, ?_⟩
      unfold deliver at hw
      split at hw
      · split at hw
        · cases hw
        · rwa [← Option.some.inj h, ← Option.some.inj hw]
      all_goals cases hw
    · obtain ⟨d, hd, hx⟩ := ih h
      exact ⟨d, by simp [hd], hx⟩

/-- With no command waiting the part takes a due event with those before it still due, delivers a queued request, or lets
one millisecond pass. -/
theorem idle_cases (s : State) :
    (∃ before c after u, s.link.due = before ++ c :: after ∧ exec c (withDue before s) = .next u
      ∧ idle s = dropStopped (withDue (u.link.due ++ after) u))
    ∨ (∃ c ∈ s.link.requests, exec c s = .next (idle s))
    ∨ idle s = tick s := by
  unfold idle
  split
  · rename_i t ht
    obtain ⟨first, c, after, u, hr, hu, h⟩ := takeDue_eq ht
    exact .inl ⟨first, c, after, u, hr, by simpa using hu, h⟩
  · split
    · rename_i t ht
      obtain ⟨c, hc, hx⟩ := deliverFirst_eq ht
      exact .inr (.inl ⟨c, hc, hx⟩)
    · exact .inr (.inr rfl)

/-- What every command keeps, a millisecond keeps, and neither the due events nor the waiting commands bear on, every step
keeps. -/
theorem step_preserves (P : State → Prop) (hexec : ∀ c s t, P s → exec c s = .next t → P t)
    (htick : ∀ s, P s → P (tick s)) (hdue : ∀ cs s, P s → P (withDue cs s))
    (hpending : ∀ cs (s : State), P s → P { s with pending := cs }) {s t : State} (hs : P s) (h : step s = .next t) : P t := by
  unfold step at h
  split at h
  · cases h
    rcases idle_cases s with ⟨before, c, after, u, _, hu, hi⟩ | ⟨c, _, hx⟩ | hi
    · rw [hi]
      exact hdue _ _ (hdue _ _ (hexec c _ _ (hdue _ _ hs) hu))
    · exact hexec c s _ hs hx
    · rw [hi]
      exact htick s hs
  · exact hexec _ _ _ (hpending _ _ hs) h

/-! ### Effects -/

@[simp] theorem answer_state (k : RequestKind) (h : Header) (st : Status) (p : Payload) (s : State) :
    (answer k h st p s).state = s := rfl
@[simp] theorem answer_sent (k : RequestKind) (h : Header) (st : Status) (p : Payload) (s : State) :
    (answer k h st p s).sent = [replyTo k h st p] := rfl
@[simp] theorem refuse_state (k : RequestKind) (h : Header) (st : Status) (s : State) :
    (refuse k h st s).state = s := rfl
@[simp] theorem refuse_sent (k : RequestKind) (h : Header) (st : Status) (s : State) :
    (refuse k h st s).sent = [replyTo k h st .none] := rfl
@[simp] theorem nothing_state (s : State) : (nothing s).state = s := rfl
@[simp] theorem nothing_sent (s : State) : (nothing s).sent = [] := rfl
@[simp] theorem Effect.after_state (e : Effect) (ms : List Message) : (e.after ms).state = e.state := rfl
@[simp] theorem Effect.after_sent (e : Effect) (ms : List Message) : (e.after ms).sent = ms ++ e.sent := rfl
@[simp] theorem Effect.andThen_state (e : Effect) (f : State → Effect) :
    (e.andThen f).state = (f e.state).state := rfl
@[simp] theorem Effect.andThen_sent (e : Effect) (f : State → Effect) :
    (e.andThen f).sent = e.sent ++ (f e.state).sent := rfl

/-! ### Baskets and lanes -/

@[simp] theorem findBasket_leaveQueue (c : Instr) (n : Nat) (s : State) :
    findBasket n (leaveQueue c s) = findBasket n s := rfl

theorem findBasket_number {n : Nat} {s : State} {b : Basket} (h : findBasket n s = some b) : b.number = n := by
  have := List.find?_some h
  simpa using this

theorem findBasket_mem {n : Nat} {s : State} {b : Basket} (h : findBasket n s = some b) :
    b ∈ s.basketTable.baskets := List.mem_of_find?_eq_some h

/-- A change of the basket numbered `n` that keeps its number is what a look-up of `n` then finds. -/
theorem findBasket_mapBasket (n : Nat) (f : Basket → Basket) (s : State) (hf : ∀ b, (f b).number = b.number) :
    findBasket n (mapBasket n f s) = (findBasket n s).map f := by
  simp only [findBasket, mapBasket, State.basketTable_withBaskets, List.find?_map]
  have hp : ((fun b : Basket => decide (b.number = n)) ∘ fun b => if b.number = n then f b else b)
      = fun b => decide (b.number = n) := by
    funext b
    by_cases hb : b.number = n <;> simp [hb, hf]
  rw [hp]
  cases h : s.basketTable.baskets.find? fun b => decide (b.number = n) with
  | none => simp
  | some b =>
    have hb := List.find?_some h
    simp only [decide_eq_true_eq] at hb
    simp [hb]

/-- A change of one basket leaves the others as they were. -/
theorem findBasket_mapBasket_of_ne (n m : Nat) (f : Basket → Basket) (s : State) (hm : m ≠ n)
    (hf : ∀ b, (f b).number = b.number) : findBasket m (mapBasket n f s) = findBasket m s := by
  simp only [findBasket, mapBasket, State.basketTable_withBaskets, List.find?_map]
  have hp : ((fun b : Basket => decide (b.number = m)) ∘ fun b => if b.number = n then f b else b)
      = fun b => decide (b.number = m) := by
    funext b
    by_cases hb : b.number = n <;> simp [hb, hf]
  rw [hp]
  cases h : s.basketTable.baskets.find? fun b => decide (b.number = m) with
  | none => simp
  | some b =>
    have hb := List.find?_some h
    simp only [decide_eq_true_eq] at hb
    simp [hb, hm]

@[simp] theorem raised_number (b : Basket) : b.raised.number = b.number := by
  unfold Basket.raised; split <;> rfl
@[simp] theorem raised_generation (b : Basket) : b.raised.generation = b.generation + 1 := by
  unfold Basket.raised; split <;> rfl
@[simp] theorem raised_lane (b : Basket) : b.raised.lane = b.lane := by
  unfold Basket.raised; split <;> rfl
@[simp] theorem raised_lines (b : Basket) : b.raised.lines = b.lines := by
  unfold Basket.raised; split <;> rfl

/-- What a change does to a basket, by its state (R15). -/
theorem raised_cases (b : Basket) :
    (b.state = .totalled ∧ b.raised = { b with generation := b.generation + 1, state := .opened, current := false })
    ∨ (b.state ≠ .totalled ∧ b.raised = { b with generation := b.generation + 1 }) := by
  unfold Basket.raised
  split
  · exact .inl ⟨by assumption, rfl⟩
  · exact .inr ⟨by assumption, rfl⟩

/-! ### The basket checks (R4) -/

/-- A served request passes the basket checks with its lane and basket. -/
theorem basketCheck_of_served {h : Header} {n l : Nat} {b : Basket} {s : State} (hs : Served h n l b s) :
    basketCheck h n s = .ok (l, b) := by
  obtain ⟨hm, hl, hb, _, hlane⟩ := hs
  simp [basketCheck, hm, hl, hb, hlane]

/-- A served request reaches its own rule. -/
theorem onServed_of_served {h : Header} {n l : Nat} {b : Basket} {s : State} (hs : Served h n l b s)
    (k : RequestKind) (f : Nat → Basket → State → Effect) : onServed k h n f s = f l b s := by
  simp [onServed, basketCheck_of_served hs, hs.2.2.2.1]

/-- A request of a lane outside MAINTENANCE reaches its own rule. -/
theorem onLane_of_lane {h : Header} {l : Nat} {s : State} (hm : s.link.mode ≠ .maintenance)
    (hl : laneOf h = some l) (k : RequestKind) (f : Nat → State → Effect) : onLane k h f s = f l s := by
  simp [onLane, hm, hl]

theorem served_leaveQueue {h : Header} {n l : Nat} {b : Basket} {s : State} (c : Instr)
    (hs : Served h n l b s) : Served h n l b (leaveQueue c s) := hs

end Sys2Proof.Machine
end

