-- ==== Sys2Proof/Laws/Frames.lean ====
section
/-! SUPPORT. What each shared operation leaves as it was, field by field. -/

namespace Sys2Proof.Machine

/-! ### mapBasket -/

@[simp] theorem mapBasket_link (n : Nat) (f : Basket → Basket) (s : State) : (mapBasket n f s).link = s.link := rfl
@[simp] theorem mapBasket_evaluator (n : Nat) (f : Basket → Basket) (s : State) :
    (mapBasket n f s).evaluator = s.evaluator := rfl
@[simp] theorem mapBasket_store (n : Nat) (f : Basket → Basket) (s : State) : (mapBasket n f s).store = s.store := rfl
@[simp] theorem mapBasket_calendar (n : Nat) (f : Basket → Basket) (s : State) :
    (mapBasket n f s).calendar = s.calendar := rfl
@[simp] theorem mapBasket_tables (n : Nat) (f : Basket → Basket) (s : State) :
    (mapBasket n f s).tables = s.tables := rfl
@[simp] theorem mapBasket_overrides (n : Nat) (f : Basket → Basket) (s : State) :
    (mapBasket n f s).overrides = s.overrides := rfl
@[simp] theorem mapBasket_router (n : Nat) (f : Basket → Basket) (s : State) :
    (mapBasket n f s).router = s.router := rfl
@[simp] theorem mapBasket_accounts (n : Nat) (f : Basket → Basket) (s : State) :
    (mapBasket n f s).accounts = s.accounts := rfl
@[simp] theorem mapBasket_settlement (n : Nat) (f : Basket → Basket) (s : State) :
    (mapBasket n f s).settlement = s.settlement := rfl
@[simp] theorem mapBasket_pending (n : Nat) (f : Basket → Basket) (s : State) :
    (mapBasket n f s).pending = s.pending := rfl

/-! ### ownChange -/

@[simp] theorem ownChange_link (n : Nat) (s : State) : (ownChange n s).link = s.link := rfl
@[simp] theorem ownChange_evaluator (n : Nat) (s : State) : (ownChange n s).evaluator = s.evaluator := rfl
@[simp] theorem ownChange_store (n : Nat) (s : State) : (ownChange n s).store = s.store := rfl
@[simp] theorem ownChange_calendar (n : Nat) (s : State) : (ownChange n s).calendar = s.calendar := rfl
@[simp] theorem ownChange_tables (n : Nat) (s : State) : (ownChange n s).tables = s.tables := rfl
@[simp] theorem ownChange_overrides (n : Nat) (s : State) : (ownChange n s).overrides = s.overrides := rfl
@[simp] theorem ownChange_router (n : Nat) (s : State) : (ownChange n s).router = s.router := rfl
@[simp] theorem ownChange_accounts (n : Nat) (s : State) : (ownChange n s).accounts = s.accounts := rfl
@[simp] theorem ownChange_settlement (n : Nat) (s : State) : (ownChange n s).settlement = s.settlement := rfl
@[simp] theorem ownChange_pending (n : Nat) (s : State) : (ownChange n s).pending = s.pending := rfl

/-! ### mapLane -/

@[simp] theorem mapLane_link (l : Nat) (f : Lane → Lane) (s : State) : (mapLane l f s).link = s.link := rfl
@[simp] theorem mapLane_evaluator (l : Nat) (f : Lane → Lane) (s : State) :
    (mapLane l f s).evaluator = s.evaluator := rfl
@[simp] theorem mapLane_store (l : Nat) (f : Lane → Lane) (s : State) : (mapLane l f s).store = s.store := rfl
@[simp] theorem mapLane_calendar (l : Nat) (f : Lane → Lane) (s : State) :
    (mapLane l f s).calendar = s.calendar := rfl
@[simp] theorem mapLane_tables (l : Nat) (f : Lane → Lane) (s : State) : (mapLane l f s).tables = s.tables := rfl
@[simp] theorem mapLane_overrides (l : Nat) (f : Lane → Lane) (s : State) :
    (mapLane l f s).overrides = s.overrides := rfl
@[simp] theorem mapLane_router (l : Nat) (f : Lane → Lane) (s : State) : (mapLane l f s).router = s.router := rfl
@[simp] theorem mapLane_accounts (l : Nat) (f : Lane → Lane) (s : State) :
    (mapLane l f s).accounts = s.accounts := rfl
@[simp] theorem mapLane_settlement (l : Nat) (f : Lane → Lane) (s : State) :
    (mapLane l f s).settlement = s.settlement := rfl
@[simp] theorem mapLane_pending (l : Nat) (f : Lane → Lane) (s : State) : (mapLane l f s).pending = s.pending := rfl

/-! ### staleClaim -/

@[simp] theorem staleClaim_link (ns : List Nat) (s : State) : (staleClaim ns s).state.link = s.link := rfl
@[simp] theorem staleClaim_evaluator (ns : List Nat) (s : State) :
    (staleClaim ns s).state.evaluator = s.evaluator := rfl
@[simp] theorem staleClaim_store (ns : List Nat) (s : State) : (staleClaim ns s).state.store = s.store := rfl
@[simp] theorem staleClaim_calendar (ns : List Nat) (s : State) : (staleClaim ns s).state.calendar = s.calendar := rfl
@[simp] theorem staleClaim_tables (ns : List Nat) (s : State) : (staleClaim ns s).state.tables = s.tables := rfl
@[simp] theorem staleClaim_overrides (ns : List Nat) (s : State) :
    (staleClaim ns s).state.overrides = s.overrides := rfl
@[simp] theorem staleClaim_router (ns : List Nat) (s : State) : (staleClaim ns s).state.router = s.router := rfl
@[simp] theorem staleClaim_accounts (ns : List Nat) (s : State) : (staleClaim ns s).state.accounts = s.accounts := rfl
@[simp] theorem staleClaim_settlement (ns : List Nat) (s : State) :
    (staleClaim ns s).state.settlement = s.settlement := rfl
@[simp] theorem staleClaim_pending (ns : List Nat) (s : State) : (staleClaim ns s).state.pending = s.pending := rfl

/-! ### endQuiescing -/

@[simp] theorem endQuiescing_basketTable (s : State) :
    (endQuiescing s).basketTable = s.basketTable := by unfold endQuiescing; split <;> rfl
@[simp] theorem endQuiescing_evaluator (s : State) :
    (endQuiescing s).evaluator = s.evaluator := by unfold endQuiescing; split <;> rfl
@[simp] theorem endQuiescing_store (s : State) :
    (endQuiescing s).store = s.store := by unfold endQuiescing; split <;> rfl
@[simp] theorem endQuiescing_calendar (s : State) :
    (endQuiescing s).calendar = s.calendar := by unfold endQuiescing; split <;> rfl
@[simp] theorem endQuiescing_tables (s : State) :
    (endQuiescing s).tables = s.tables := by unfold endQuiescing; split <;> rfl
@[simp] theorem endQuiescing_overrides (s : State) :
    (endQuiescing s).overrides = s.overrides := by unfold endQuiescing; split <;> rfl
@[simp] theorem endQuiescing_router (s : State) :
    (endQuiescing s).router = s.router := by unfold endQuiescing; split <;> rfl
@[simp] theorem endQuiescing_accounts (s : State) :
    (endQuiescing s).accounts = s.accounts := by unfold endQuiescing; split <;> rfl
@[simp] theorem endQuiescing_settlement (s : State) :
    (endQuiescing s).settlement = s.settlement := by unfold endQuiescing; split <;> rfl
@[simp] theorem endQuiescing_pending (s : State) :
    (endQuiescing s).pending = s.pending := by unfold endQuiescing; split <;> rfl

/-! ### freeBasket -/

@[simp] theorem freeBasket_evaluator (n : Nat) (s : State) :
    (freeBasket n s).evaluator = s.evaluator := by simp [freeBasket]
@[simp] theorem freeBasket_store (n : Nat) (s : State) : (freeBasket n s).store = s.store := by simp [freeBasket]
@[simp] theorem freeBasket_calendar (n : Nat) (s : State) :
    (freeBasket n s).calendar = s.calendar := by simp [freeBasket]
@[simp] theorem freeBasket_tables (n : Nat) (s : State) : (freeBasket n s).tables = s.tables := by simp [freeBasket]
@[simp] theorem freeBasket_overrides (n : Nat) (s : State) :
    (freeBasket n s).overrides = s.overrides := by simp [freeBasket]
@[simp] theorem freeBasket_router (n : Nat) (s : State) : (freeBasket n s).router = s.router := by simp [freeBasket]
@[simp] theorem freeBasket_accounts (n : Nat) (s : State) :
    (freeBasket n s).accounts = s.accounts := by simp [freeBasket]
@[simp] theorem freeBasket_settlement (n : Nat) (s : State) :
    (freeBasket n s).settlement = s.settlement := by simp [freeBasket]
@[simp] theorem freeBasket_pending (n : Nat) (s : State) :
    (freeBasket n s).pending = s.pending := by simp [freeBasket]

/-! ### appendRecord -/

@[simp] theorem appendRecord_link (r : JournalRecord) (s : State) : (appendRecord r s).link = s.link := rfl
@[simp] theorem appendRecord_basketTable (r : JournalRecord) (s : State) :
    (appendRecord r s).basketTable = s.basketTable := rfl
@[simp] theorem appendRecord_evaluator (r : JournalRecord) (s : State) :
    (appendRecord r s).evaluator = s.evaluator := rfl
@[simp] theorem appendRecord_store (r : JournalRecord) (s : State) : (appendRecord r s).store = s.store := rfl
@[simp] theorem appendRecord_calendar (r : JournalRecord) (s : State) :
    (appendRecord r s).calendar = s.calendar := rfl
@[simp] theorem appendRecord_tables (r : JournalRecord) (s : State) : (appendRecord r s).tables = s.tables := rfl
@[simp] theorem appendRecord_overrides (r : JournalRecord) (s : State) :
    (appendRecord r s).overrides = s.overrides := rfl
@[simp] theorem appendRecord_router (r : JournalRecord) (s : State) : (appendRecord r s).router = s.router := rfl
@[simp] theorem appendRecord_accounts (r : JournalRecord) (s : State) :
    (appendRecord r s).accounts = s.accounts := rfl
@[simp] theorem appendRecord_pending (r : JournalRecord) (s : State) : (appendRecord r s).pending = s.pending := rfl

/-! ### recheck -/

@[simp] theorem recheck_link (s : State) : (recheck s).link = s.link := rfl
@[simp] theorem recheck_basketTable (s : State) : (recheck s).basketTable = s.basketTable := rfl
@[simp] theorem recheck_evaluator (s : State) : (recheck s).evaluator = s.evaluator := rfl
@[simp] theorem recheck_calendar (s : State) : (recheck s).calendar = s.calendar := rfl
@[simp] theorem recheck_tables (s : State) : (recheck s).tables = s.tables := rfl
@[simp] theorem recheck_overrides (s : State) : (recheck s).overrides = s.overrides := rfl
@[simp] theorem recheck_router (s : State) : (recheck s).router = s.router := rfl
@[simp] theorem recheck_accounts (s : State) : (recheck s).accounts = s.accounts := rfl
@[simp] theorem recheck_settlement (s : State) : (recheck s).settlement = s.settlement := rfl
@[simp] theorem recheck_pending (s : State) : (recheck s).pending = s.pending := rfl

/-! ### mapRecord -/

@[simp] theorem mapRecord_link (n line : Nat) (f : OverrideRecord → OverrideRecord) (s : State) :
    (mapRecord n line f s).link = s.link := rfl
@[simp] theorem mapRecord_basketTable (n line : Nat) (f : OverrideRecord → OverrideRecord) (s : State) :
    (mapRecord n line f s).basketTable = s.basketTable := rfl
@[simp] theorem mapRecord_evaluator (n line : Nat) (f : OverrideRecord → OverrideRecord) (s : State) :
    (mapRecord n line f s).evaluator = s.evaluator := rfl
@[simp] theorem mapRecord_store (n line : Nat) (f : OverrideRecord → OverrideRecord) (s : State) :
    (mapRecord n line f s).store = s.store := rfl
@[simp] theorem mapRecord_calendar (n line : Nat) (f : OverrideRecord → OverrideRecord) (s : State) :
    (mapRecord n line f s).calendar = s.calendar := rfl
@[simp] theorem mapRecord_tables (n line : Nat) (f : OverrideRecord → OverrideRecord) (s : State) :
    (mapRecord n line f s).tables = s.tables := rfl
@[simp] theorem mapRecord_router (n line : Nat) (f : OverrideRecord → OverrideRecord) (s : State) :
    (mapRecord n line f s).router = s.router := rfl
@[simp] theorem mapRecord_accounts (n line : Nat) (f : OverrideRecord → OverrideRecord) (s : State) :
    (mapRecord n line f s).accounts = s.accounts := rfl
@[simp] theorem mapRecord_settlement (n line : Nat) (f : OverrideRecord → OverrideRecord) (s : State) :
    (mapRecord n line f s).settlement = s.settlement := rfl
@[simp] theorem mapRecord_pending (n line : Nat) (f : OverrideRecord → OverrideRecord) (s : State) :
    (mapRecord n line f s).pending = s.pending := rfl

/-! ### removeRecord -/

@[simp] theorem removeRecord_link (n line : Nat) (s : State) : (removeRecord n line s).link = s.link := rfl
@[simp] theorem removeRecord_basketTable (n line : Nat) (s : State) :
    (removeRecord n line s).basketTable = s.basketTable := rfl
@[simp] theorem removeRecord_evaluator (n line : Nat) (s : State) :
    (removeRecord n line s).evaluator = s.evaluator := rfl
@[simp] theorem removeRecord_store (n line : Nat) (s : State) : (removeRecord n line s).store = s.store := rfl
@[simp] theorem removeRecord_calendar (n line : Nat) (s : State) :
    (removeRecord n line s).calendar = s.calendar := rfl
@[simp] theorem removeRecord_tables (n line : Nat) (s : State) : (removeRecord n line s).tables = s.tables := rfl
@[simp] theorem removeRecord_router (n line : Nat) (s : State) : (removeRecord n line s).router = s.router := rfl
@[simp] theorem removeRecord_accounts (n line : Nat) (s : State) :
    (removeRecord n line s).accounts = s.accounts := rfl
@[simp] theorem removeRecord_settlement (n line : Nat) (s : State) :
    (removeRecord n line s).settlement = s.settlement := rfl
@[simp] theorem removeRecord_pending (n line : Nat) (s : State) : (removeRecord n line s).pending = s.pending := rfl

/-! ### removeRecords -/

@[simp] theorem removeRecords_link (n : Nat) (s : State) : (removeRecords n s).link = s.link := rfl
@[simp] theorem removeRecords_basketTable (n : Nat) (s : State) :
    (removeRecords n s).basketTable = s.basketTable := rfl
@[simp] theorem removeRecords_evaluator (n : Nat) (s : State) : (removeRecords n s).evaluator = s.evaluator := rfl
@[simp] theorem removeRecords_store (n : Nat) (s : State) : (removeRecords n s).store = s.store := rfl
@[simp] theorem removeRecords_calendar (n : Nat) (s : State) : (removeRecords n s).calendar = s.calendar := rfl
@[simp] theorem removeRecords_tables (n : Nat) (s : State) : (removeRecords n s).tables = s.tables := rfl
@[simp] theorem removeRecords_router (n : Nat) (s : State) : (removeRecords n s).router = s.router := rfl
@[simp] theorem removeRecords_accounts (n : Nat) (s : State) : (removeRecords n s).accounts = s.accounts := rfl
@[simp] theorem removeRecords_settlement (n : Nat) (s : State) : (removeRecords n s).settlement = s.settlement := rfl
@[simp] theorem removeRecords_pending (n : Nat) (s : State) : (removeRecords n s).pending = s.pending := rfl

/-! ### mapRoute -/

@[simp] theorem mapRoute_link (l : Nat) (f : Route → Route) (s : State) :
    (mapRoute l f s).link = s.link := by unfold mapRoute; split <;> rfl
@[simp] theorem mapRoute_basketTable (l : Nat) (f : Route → Route) (s : State) :
    (mapRoute l f s).basketTable = s.basketTable := by unfold mapRoute; split <;> rfl
@[simp] theorem mapRoute_evaluator (l : Nat) (f : Route → Route) (s : State) :
    (mapRoute l f s).evaluator = s.evaluator := by unfold mapRoute; split <;> rfl
@[simp] theorem mapRoute_store (l : Nat) (f : Route → Route) (s : State) :
    (mapRoute l f s).store = s.store := by unfold mapRoute; split <;> rfl
@[simp] theorem mapRoute_calendar (l : Nat) (f : Route → Route) (s : State) :
    (mapRoute l f s).calendar = s.calendar := by unfold mapRoute; split <;> rfl
@[simp] theorem mapRoute_tables (l : Nat) (f : Route → Route) (s : State) :
    (mapRoute l f s).tables = s.tables := by unfold mapRoute; split <;> rfl
@[simp] theorem mapRoute_overrides (l : Nat) (f : Route → Route) (s : State) :
    (mapRoute l f s).overrides = s.overrides := by unfold mapRoute; split <;> rfl
@[simp] theorem mapRoute_accounts (l : Nat) (f : Route → Route) (s : State) :
    (mapRoute l f s).accounts = s.accounts := by unfold mapRoute; split <;> rfl
@[simp] theorem mapRoute_settlement (l : Nat) (f : Route → Route) (s : State) :
    (mapRoute l f s).settlement = s.settlement := by unfold mapRoute; split <;> rfl
@[simp] theorem mapRoute_pending (l : Nat) (f : Route → Route) (s : State) :
    (mapRoute l f s).pending = s.pending := by unfold mapRoute; split <;> rfl

/-! ### mapDesk -/

@[simp] theorem mapDesk_link (d : Nat) (f : Desk → Desk) (s : State) :
    (mapDesk d f s).link = s.link := by unfold mapDesk; split <;> rfl
@[simp] theorem mapDesk_basketTable (d : Nat) (f : Desk → Desk) (s : State) :
    (mapDesk d f s).basketTable = s.basketTable := by unfold mapDesk; split <;> rfl
@[simp] theorem mapDesk_evaluator (d : Nat) (f : Desk → Desk) (s : State) :
    (mapDesk d f s).evaluator = s.evaluator := by unfold mapDesk; split <;> rfl
@[simp] theorem mapDesk_store (d : Nat) (f : Desk → Desk) (s : State) :
    (mapDesk d f s).store = s.store := by unfold mapDesk; split <;> rfl
@[simp] theorem mapDesk_calendar (d : Nat) (f : Desk → Desk) (s : State) :
    (mapDesk d f s).calendar = s.calendar := by unfold mapDesk; split <;> rfl
@[simp] theorem mapDesk_tables (d : Nat) (f : Desk → Desk) (s : State) :
    (mapDesk d f s).tables = s.tables := by unfold mapDesk; split <;> rfl
@[simp] theorem mapDesk_overrides (d : Nat) (f : Desk → Desk) (s : State) :
    (mapDesk d f s).overrides = s.overrides := by unfold mapDesk; split <;> rfl
@[simp] theorem mapDesk_accounts (d : Nat) (f : Desk → Desk) (s : State) :
    (mapDesk d f s).accounts = s.accounts := by unfold mapDesk; split <;> rfl
@[simp] theorem mapDesk_settlement (d : Nat) (f : Desk → Desk) (s : State) :
    (mapDesk d f s).settlement = s.settlement := by unfold mapDesk; split <;> rfl
@[simp] theorem mapDesk_pending (d : Nat) (f : Desk → Desk) (s : State) :
    (mapDesk d f s).pending = s.pending := by unfold mapDesk; split <;> rfl

/-! ### presentOn -/

@[simp] theorem presentOn_link (l : Nat) (q : Route) (r : OverrideRecord) (d : Nat) (s : State) :
    (presentOn l q r d s).state.link = s.link := by simp [presentOn]
@[simp] theorem presentOn_basketTable (l : Nat) (q : Route) (r : OverrideRecord) (d : Nat) (s : State) :
    (presentOn l q r d s).state.basketTable = s.basketTable := by simp [presentOn]
@[simp] theorem presentOn_evaluator (l : Nat) (q : Route) (r : OverrideRecord) (d : Nat) (s : State) :
    (presentOn l q r d s).state.evaluator = s.evaluator := by simp [presentOn]
@[simp] theorem presentOn_store (l : Nat) (q : Route) (r : OverrideRecord) (d : Nat) (s : State) :
    (presentOn l q r d s).state.store = s.store := by simp [presentOn]
@[simp] theorem presentOn_calendar (l : Nat) (q : Route) (r : OverrideRecord) (d : Nat) (s : State) :
    (presentOn l q r d s).state.calendar = s.calendar := by simp [presentOn]
@[simp] theorem presentOn_tables (l : Nat) (q : Route) (r : OverrideRecord) (d : Nat) (s : State) :
    (presentOn l q r d s).state.tables = s.tables := by simp [presentOn]
@[simp] theorem presentOn_accounts (l : Nat) (q : Route) (r : OverrideRecord) (d : Nat) (s : State) :
    (presentOn l q r d s).state.accounts = s.accounts := by simp [presentOn]
@[simp] theorem presentOn_settlement (l : Nat) (q : Route) (r : OverrideRecord) (d : Nat) (s : State) :
    (presentOn l q r d s).state.settlement = s.settlement := by simp [presentOn]
@[simp] theorem presentOn_pending (l : Nat) (q : Route) (r : OverrideRecord) (d : Nat) (s : State) :
    (presentOn l q r d s).state.pending = s.pending := by simp [presentOn]

/-! ### presentIfAble -/

@[simp] theorem presentIfAble_link (l : Nat) (s : State) :
    (presentIfAble l s).state.link = s.link := by unfold presentIfAble; split <;> simp
@[simp] theorem presentIfAble_basketTable (l : Nat) (s : State) :
    (presentIfAble l s).state.basketTable = s.basketTable := by unfold presentIfAble; split <;> simp
@[simp] theorem presentIfAble_evaluator (l : Nat) (s : State) :
    (presentIfAble l s).state.evaluator = s.evaluator := by unfold presentIfAble; split <;> simp
@[simp] theorem presentIfAble_store (l : Nat) (s : State) :
    (presentIfAble l s).state.store = s.store := by unfold presentIfAble; split <;> simp
@[simp] theorem presentIfAble_calendar (l : Nat) (s : State) :
    (presentIfAble l s).state.calendar = s.calendar := by unfold presentIfAble; split <;> simp
@[simp] theorem presentIfAble_tables (l : Nat) (s : State) :
    (presentIfAble l s).state.tables = s.tables := by unfold presentIfAble; split <;> simp
@[simp] theorem presentIfAble_accounts (l : Nat) (s : State) :
    (presentIfAble l s).state.accounts = s.accounts := by unfold presentIfAble; split <;> simp
@[simp] theorem presentIfAble_settlement (l : Nat) (s : State) :
    (presentIfAble l s).state.settlement = s.settlement := by unfold presentIfAble; split <;> simp
@[simp] theorem presentIfAble_pending (l : Nat) (s : State) :
    (presentIfAble l s).state.pending = s.pending := by unfold presentIfAble; split <;> simp

/-! ### passLanes -/

@[simp] theorem passLanes_link (ls : List Nat) (s : State) : (passLanes ls s).state.link = s.link := by
  induction ls generalizing s with
  | nil => rfl
  | cons l ls ih => simp [passLanes, ih]
@[simp] theorem passLanes_basketTable (ls : List Nat) (s : State) :
    (passLanes ls s).state.basketTable = s.basketTable := by
  induction ls generalizing s with
  | nil => rfl
  | cons l ls ih => simp [passLanes, ih]
@[simp] theorem passLanes_evaluator (ls : List Nat) (s : State) : (passLanes ls s).state.evaluator = s.evaluator := by
  induction ls generalizing s with
  | nil => rfl
  | cons l ls ih => simp [passLanes, ih]
@[simp] theorem passLanes_store (ls : List Nat) (s : State) : (passLanes ls s).state.store = s.store := by
  induction ls generalizing s with
  | nil => rfl
  | cons l ls ih => simp [passLanes, ih]
@[simp] theorem passLanes_calendar (ls : List Nat) (s : State) : (passLanes ls s).state.calendar = s.calendar := by
  induction ls generalizing s with
  | nil => rfl
  | cons l ls ih => simp [passLanes, ih]
@[simp] theorem passLanes_tables (ls : List Nat) (s : State) : (passLanes ls s).state.tables = s.tables := by
  induction ls generalizing s with
  | nil => rfl
  | cons l ls ih => simp [passLanes, ih]
@[simp] theorem passLanes_accounts (ls : List Nat) (s : State) : (passLanes ls s).state.accounts = s.accounts := by
  induction ls generalizing s with
  | nil => rfl
  | cons l ls ih => simp [passLanes, ih]
@[simp] theorem passLanes_settlement (ls : List Nat) (s : State) :
    (passLanes ls s).state.settlement = s.settlement := by
  induction ls generalizing s with
  | nil => rfl
  | cons l ls ih => simp [passLanes, ih]
@[simp] theorem passLanes_pending (ls : List Nat) (s : State) : (passLanes ls s).state.pending = s.pending := by
  induction ls generalizing s with
  | nil => rfl
  | cons l ls ih => simp [passLanes, ih]

/-! ### presentationPass -/

@[simp] theorem presentationPass_link (s : State) :
    (presentationPass s).state.link = s.link := by simp [presentationPass]
@[simp] theorem presentationPass_basketTable (s : State) :
    (presentationPass s).state.basketTable = s.basketTable := by simp [presentationPass]
@[simp] theorem presentationPass_evaluator (s : State) :
    (presentationPass s).state.evaluator = s.evaluator := by simp [presentationPass]
@[simp] theorem presentationPass_store (s : State) :
    (presentationPass s).state.store = s.store := by simp [presentationPass]
@[simp] theorem presentationPass_calendar (s : State) :
    (presentationPass s).state.calendar = s.calendar := by simp [presentationPass]
@[simp] theorem presentationPass_tables (s : State) :
    (presentationPass s).state.tables = s.tables := by simp [presentationPass]
@[simp] theorem presentationPass_accounts (s : State) :
    (presentationPass s).state.accounts = s.accounts := by simp [presentationPass]
@[simp] theorem presentationPass_settlement (s : State) :
    (presentationPass s).state.settlement = s.settlement := by simp [presentationPass]
@[simp] theorem presentationPass_pending (s : State) :
    (presentationPass s).state.pending = s.pending := by simp [presentationPass]

/-! ### endPresentation -/

@[simp] theorem endPresentation_link (l : Nat) (p : Presentation) (d : Bool) (s : State) :
    (endPresentation l p d s).link = s.link := by simp [endPresentation]
@[simp] theorem endPresentation_basketTable (l : Nat) (p : Presentation) (d : Bool) (s : State) :
    (endPresentation l p d s).basketTable = s.basketTable := by simp [endPresentation]
@[simp] theorem endPresentation_evaluator (l : Nat) (p : Presentation) (d : Bool) (s : State) :
    (endPresentation l p d s).evaluator = s.evaluator := by simp [endPresentation]
@[simp] theorem endPresentation_store (l : Nat) (p : Presentation) (d : Bool) (s : State) :
    (endPresentation l p d s).store = s.store := by simp [endPresentation]
@[simp] theorem endPresentation_calendar (l : Nat) (p : Presentation) (d : Bool) (s : State) :
    (endPresentation l p d s).calendar = s.calendar := by simp [endPresentation]
@[simp] theorem endPresentation_tables (l : Nat) (p : Presentation) (d : Bool) (s : State) :
    (endPresentation l p d s).tables = s.tables := by simp [endPresentation]
@[simp] theorem endPresentation_overrides (l : Nat) (p : Presentation) (d : Bool) (s : State) :
    (endPresentation l p d s).overrides = s.overrides := by simp [endPresentation]
@[simp] theorem endPresentation_accounts (l : Nat) (p : Presentation) (d : Bool) (s : State) :
    (endPresentation l p d s).accounts = s.accounts := by simp [endPresentation]
@[simp] theorem endPresentation_settlement (l : Nat) (p : Presentation) (d : Bool) (s : State) :
    (endPresentation l p d s).settlement = s.settlement := by simp [endPresentation]
@[simp] theorem endPresentation_pending (l : Nat) (p : Presentation) (d : Bool) (s : State) :
    (endPresentation l p d s).pending = s.pending := by simp [endPresentation]

/-! ### takeBack -/

@[simp] theorem takeBack_link (l n line : Nat) (s : State) :
    (takeBack l n line s).state.link = s.link := by unfold takeBack; split <;> (try split) <;> simp
@[simp] theorem takeBack_basketTable (l n line : Nat) (s : State) :
    (takeBack l n line s).state.basketTable = s.basketTable := by unfold takeBack; split <;> (try split) <;> simp
@[simp] theorem takeBack_evaluator (l n line : Nat) (s : State) :
    (takeBack l n line s).state.evaluator = s.evaluator := by unfold takeBack; split <;> (try split) <;> simp
@[simp] theorem takeBack_store (l n line : Nat) (s : State) :
    (takeBack l n line s).state.store = s.store := by unfold takeBack; split <;> (try split) <;> simp
@[simp] theorem takeBack_calendar (l n line : Nat) (s : State) :
    (takeBack l n line s).state.calendar = s.calendar := by unfold takeBack; split <;> (try split) <;> simp
@[simp] theorem takeBack_tables (l n line : Nat) (s : State) :
    (takeBack l n line s).state.tables = s.tables := by unfold takeBack; split <;> (try split) <;> simp
@[simp] theorem takeBack_overrides (l n line : Nat) (s : State) :
    (takeBack l n line s).state.overrides = s.overrides := by unfold takeBack; split <;> (try split) <;> simp
@[simp] theorem takeBack_accounts (l n line : Nat) (s : State) :
    (takeBack l n line s).state.accounts = s.accounts := by unfold takeBack; split <;> (try split) <;> simp
@[simp] theorem takeBack_settlement (l n line : Nat) (s : State) :
    (takeBack l n line s).state.settlement = s.settlement := by unfold takeBack; split <;> (try split) <;> simp
@[simp] theorem takeBack_pending (l n line : Nat) (s : State) :
    (takeBack l n line s).state.pending = s.pending := by unfold takeBack; split <;> (try split) <;> simp

/-! ### recallRecord -/

@[simp] theorem recallRecord_link (l : Nat) (p : Presentation) (r : OverrideRecord) (c : Cause) (s : State) :
    (recallRecord l p r c s).state.link = s.link := by unfold recallRecord; split <;> (try split) <;> simp
@[simp] theorem recallRecord_evaluator (l : Nat) (p : Presentation) (r : OverrideRecord) (c : Cause) (s : State) :
    (recallRecord l p r c s).state.evaluator = s.evaluator := by unfold recallRecord; split <;> (try split) <;> simp
@[simp] theorem recallRecord_store (l : Nat) (p : Presentation) (r : OverrideRecord) (c : Cause) (s : State) :
    (recallRecord l p r c s).state.store = s.store := by unfold recallRecord; split <;> (try split) <;> simp
@[simp] theorem recallRecord_calendar (l : Nat) (p : Presentation) (r : OverrideRecord) (c : Cause) (s : State) :
    (recallRecord l p r c s).state.calendar = s.calendar := by unfold recallRecord; split <;> (try split) <;> simp
@[simp] theorem recallRecord_tables (l : Nat) (p : Presentation) (r : OverrideRecord) (c : Cause) (s : State) :
    (recallRecord l p r c s).state.tables = s.tables := by unfold recallRecord; split <;> (try split) <;> simp
@[simp] theorem recallRecord_router (l : Nat) (p : Presentation) (r : OverrideRecord) (c : Cause) (s : State) :
    (recallRecord l p r c s).state.router = s.router := by unfold recallRecord; split <;> (try split) <;> simp
@[simp] theorem recallRecord_accounts (l : Nat) (p : Presentation) (r : OverrideRecord) (c : Cause) (s : State) :
    (recallRecord l p r c s).state.accounts = s.accounts := by unfold recallRecord; split <;> (try split) <;> simp
@[simp] theorem recallRecord_settlement (l : Nat) (p : Presentation) (r : OverrideRecord) (c : Cause) (s : State) :
    (recallRecord l p r c s).state.settlement = s.settlement := by unfold recallRecord; split <;> (try split) <;> simp
@[simp] theorem recallRecord_pending (l : Nat) (p : Presentation) (r : OverrideRecord) (c : Cause) (s : State) :
    (recallRecord l p r c s).state.pending = s.pending := by unfold recallRecord; split <;> (try split) <;> simp

/-! ### recallLane -/

@[simp] theorem recallLane_link (c : Cause) (l : Nat) (s : State) :
    (recallLane c l s).state.link = s.link := by unfold recallLane; split <;> (try split) <;> simp
@[simp] theorem recallLane_evaluator (c : Cause) (l : Nat) (s : State) :
    (recallLane c l s).state.evaluator = s.evaluator := by unfold recallLane; split <;> (try split) <;> simp
@[simp] theorem recallLane_store (c : Cause) (l : Nat) (s : State) :
    (recallLane c l s).state.store = s.store := by unfold recallLane; split <;> (try split) <;> simp
@[simp] theorem recallLane_calendar (c : Cause) (l : Nat) (s : State) :
    (recallLane c l s).state.calendar = s.calendar := by unfold recallLane; split <;> (try split) <;> simp
@[simp] theorem recallLane_tables (c : Cause) (l : Nat) (s : State) :
    (recallLane c l s).state.tables = s.tables := by unfold recallLane; split <;> (try split) <;> simp
@[simp] theorem recallLane_accounts (c : Cause) (l : Nat) (s : State) :
    (recallLane c l s).state.accounts = s.accounts := by unfold recallLane; split <;> (try split) <;> simp
@[simp] theorem recallLane_settlement (c : Cause) (l : Nat) (s : State) :
    (recallLane c l s).state.settlement = s.settlement := by unfold recallLane; split <;> (try split) <;> simp
@[simp] theorem recallLane_pending (c : Cause) (l : Nat) (s : State) :
    (recallLane c l s).state.pending = s.pending := by unfold recallLane; split <;> (try split) <;> simp

/-! ### recallLanes -/

@[simp] theorem recallLanes_link (c : Cause) (ls : List Nat) (s : State) :
    (recallLanes c ls s).state.link = s.link := by
  induction ls generalizing s with
  | nil => rfl
  | cons l ls ih => simp [recallLanes, ih]
@[simp] theorem recallLanes_evaluator (c : Cause) (ls : List Nat) (s : State) :
    (recallLanes c ls s).state.evaluator = s.evaluator := by
  induction ls generalizing s with
  | nil => rfl
  | cons l ls ih => simp [recallLanes, ih]
@[simp] theorem recallLanes_store (c : Cause) (ls : List Nat) (s : State) :
    (recallLanes c ls s).state.store = s.store := by
  induction ls generalizing s with
  | nil => rfl
  | cons l ls ih => simp [recallLanes, ih]
@[simp] theorem recallLanes_calendar (c : Cause) (ls : List Nat) (s : State) :
    (recallLanes c ls s).state.calendar = s.calendar := by
  induction ls generalizing s with
  | nil => rfl
  | cons l ls ih => simp [recallLanes, ih]
@[simp] theorem recallLanes_tables (c : Cause) (ls : List Nat) (s : State) :
    (recallLanes c ls s).state.tables = s.tables := by
  induction ls generalizing s with
  | nil => rfl
  | cons l ls ih => simp [recallLanes, ih]
@[simp] theorem recallLanes_accounts (c : Cause) (ls : List Nat) (s : State) :
    (recallLanes c ls s).state.accounts = s.accounts := by
  induction ls generalizing s with
  | nil => rfl
  | cons l ls ih => simp [recallLanes, ih]
@[simp] theorem recallLanes_settlement (c : Cause) (ls : List Nat) (s : State) :
    (recallLanes c ls s).state.settlement = s.settlement := by
  induction ls generalizing s with
  | nil => rfl
  | cons l ls ih => simp [recallLanes, ih]
@[simp] theorem recallLanes_pending (c : Cause) (ls : List Nat) (s : State) :
    (recallLanes c ls s).state.pending = s.pending := by
  induction ls generalizing s with
  | nil => rfl
  | cons l ls ih => simp [recallLanes, ih]

/-! ### mapAccount -/

@[simp] theorem mapAccount_link (a : Nat) (f : Account → Account) (s : State) :
    (mapAccount a f s).link = s.link := rfl
@[simp] theorem mapAccount_basketTable (a : Nat) (f : Account → Account) (s : State) :
    (mapAccount a f s).basketTable = s.basketTable := rfl
@[simp] theorem mapAccount_evaluator (a : Nat) (f : Account → Account) (s : State) :
    (mapAccount a f s).evaluator = s.evaluator := rfl
@[simp] theorem mapAccount_store (a : Nat) (f : Account → Account) (s : State) :
    (mapAccount a f s).store = s.store := rfl
@[simp] theorem mapAccount_calendar (a : Nat) (f : Account → Account) (s : State) :
    (mapAccount a f s).calendar = s.calendar := rfl
@[simp] theorem mapAccount_tables (a : Nat) (f : Account → Account) (s : State) :
    (mapAccount a f s).tables = s.tables := rfl
@[simp] theorem mapAccount_overrides (a : Nat) (f : Account → Account) (s : State) :
    (mapAccount a f s).overrides = s.overrides := rfl
@[simp] theorem mapAccount_router (a : Nat) (f : Account → Account) (s : State) :
    (mapAccount a f s).router = s.router := rfl
@[simp] theorem mapAccount_settlement (a : Nat) (f : Account → Account) (s : State) :
    (mapAccount a f s).settlement = s.settlement := rfl
@[simp] theorem mapAccount_pending (a : Nat) (f : Account → Account) (s : State) :
    (mapAccount a f s).pending = s.pending := rfl

/-! ### addReference -/

@[simp] theorem addReference_link (a : Nat) (s : State) :
    (addReference a s).link = s.link := by unfold addReference; split <;> (try split) <;> rfl
@[simp] theorem addReference_basketTable (a : Nat) (s : State) :
    (addReference a s).basketTable = s.basketTable := by unfold addReference; split <;> (try split) <;> rfl
@[simp] theorem addReference_evaluator (a : Nat) (s : State) :
    (addReference a s).evaluator = s.evaluator := by unfold addReference; split <;> (try split) <;> rfl
@[simp] theorem addReference_store (a : Nat) (s : State) :
    (addReference a s).store = s.store := by unfold addReference; split <;> (try split) <;> rfl
@[simp] theorem addReference_calendar (a : Nat) (s : State) :
    (addReference a s).calendar = s.calendar := by unfold addReference; split <;> (try split) <;> rfl
@[simp] theorem addReference_tables (a : Nat) (s : State) :
    (addReference a s).tables = s.tables := by unfold addReference; split <;> (try split) <;> rfl
@[simp] theorem addReference_overrides (a : Nat) (s : State) :
    (addReference a s).overrides = s.overrides := by unfold addReference; split <;> (try split) <;> rfl
@[simp] theorem addReference_router (a : Nat) (s : State) :
    (addReference a s).router = s.router := by unfold addReference; split <;> (try split) <;> rfl
@[simp] theorem addReference_settlement (a : Nat) (s : State) :
    (addReference a s).settlement = s.settlement := by unfold addReference; split <;> (try split) <;> rfl
@[simp] theorem addReference_pending (a : Nat) (s : State) :
    (addReference a s).pending = s.pending := by unfold addReference; split <;> (try split) <;> rfl

/-! ### dropReference -/

@[simp] theorem dropReference_link (a : Nat) (s : State) :
    (dropReference a s).link = s.link := by unfold dropReference; split <;> (try split) <;> rfl
@[simp] theorem dropReference_basketTable (a : Nat) (s : State) :
    (dropReference a s).basketTable = s.basketTable := by unfold dropReference; split <;> (try split) <;> rfl
@[simp] theorem dropReference_evaluator (a : Nat) (s : State) :
    (dropReference a s).evaluator = s.evaluator := by unfold dropReference; split <;> (try split) <;> rfl
@[simp] theorem dropReference_store (a : Nat) (s : State) :
    (dropReference a s).store = s.store := by unfold dropReference; split <;> (try split) <;> rfl
@[simp] theorem dropReference_calendar (a : Nat) (s : State) :
    (dropReference a s).calendar = s.calendar := by unfold dropReference; split <;> (try split) <;> rfl
@[simp] theorem dropReference_tables (a : Nat) (s : State) :
    (dropReference a s).tables = s.tables := by unfold dropReference; split <;> (try split) <;> rfl
@[simp] theorem dropReference_overrides (a : Nat) (s : State) :
    (dropReference a s).overrides = s.overrides := by unfold dropReference; split <;> (try split) <;> rfl
@[simp] theorem dropReference_router (a : Nat) (s : State) :
    (dropReference a s).router = s.router := by unfold dropReference; split <;> (try split) <;> rfl
@[simp] theorem dropReference_settlement (a : Nat) (s : State) :
    (dropReference a s).settlement = s.settlement := by unfold dropReference; split <;> (try split) <;> rfl
@[simp] theorem dropReference_pending (a : Nat) (s : State) :
    (dropReference a s).pending = s.pending := by unfold dropReference; split <;> (try split) <;> rfl

/-! ### dropAccount -/

@[simp] theorem dropAccount_link (b : Basket) (s : State) :
    (dropAccount b s).link = s.link := by unfold dropAccount; split <;> simp
@[simp] theorem dropAccount_basketTable (b : Basket) (s : State) :
    (dropAccount b s).basketTable = s.basketTable := by unfold dropAccount; split <;> simp
@[simp] theorem dropAccount_evaluator (b : Basket) (s : State) :
    (dropAccount b s).evaluator = s.evaluator := by unfold dropAccount; split <;> simp
@[simp] theorem dropAccount_store (b : Basket) (s : State) :
    (dropAccount b s).store = s.store := by unfold dropAccount; split <;> simp
@[simp] theorem dropAccount_calendar (b : Basket) (s : State) :
    (dropAccount b s).calendar = s.calendar := by unfold dropAccount; split <;> simp
@[simp] theorem dropAccount_tables (b : Basket) (s : State) :
    (dropAccount b s).tables = s.tables := by unfold dropAccount; split <;> simp
@[simp] theorem dropAccount_overrides (b : Basket) (s : State) :
    (dropAccount b s).overrides = s.overrides := by unfold dropAccount; split <;> simp
@[simp] theorem dropAccount_router (b : Basket) (s : State) :
    (dropAccount b s).router = s.router := by unfold dropAccount; split <;> simp
@[simp] theorem dropAccount_settlement (b : Basket) (s : State) :
    (dropAccount b s).settlement = s.settlement := by unfold dropAccount; split <;> simp
@[simp] theorem dropAccount_pending (b : Basket) (s : State) :
    (dropAccount b s).pending = s.pending := by unfold dropAccount; split <;> simp

/-! ### commitAccount -/

@[simp] theorem commitAccount_link (b : Basket) (x y : Nat) (s : State) :
    (commitAccount b x y s).link = s.link := by unfold commitAccount; split <;> simp
@[simp] theorem commitAccount_basketTable (b : Basket) (x y : Nat) (s : State) :
    (commitAccount b x y s).basketTable = s.basketTable := by unfold commitAccount; split <;> simp
@[simp] theorem commitAccount_evaluator (b : Basket) (x y : Nat) (s : State) :
    (commitAccount b x y s).evaluator = s.evaluator := by unfold commitAccount; split <;> simp
@[simp] theorem commitAccount_store (b : Basket) (x y : Nat) (s : State) :
    (commitAccount b x y s).store = s.store := by unfold commitAccount; split <;> simp
@[simp] theorem commitAccount_calendar (b : Basket) (x y : Nat) (s : State) :
    (commitAccount b x y s).calendar = s.calendar := by unfold commitAccount; split <;> simp
@[simp] theorem commitAccount_tables (b : Basket) (x y : Nat) (s : State) :
    (commitAccount b x y s).tables = s.tables := by unfold commitAccount; split <;> simp
@[simp] theorem commitAccount_overrides (b : Basket) (x y : Nat) (s : State) :
    (commitAccount b x y s).overrides = s.overrides := by unfold commitAccount; split <;> simp
@[simp] theorem commitAccount_router (b : Basket) (x y : Nat) (s : State) :
    (commitAccount b x y s).router = s.router := by unfold commitAccount; split <;> simp
@[simp] theorem commitAccount_settlement (b : Basket) (x y : Nat) (s : State) :
    (commitAccount b x y s).settlement = s.settlement := by unfold commitAccount; split <;> simp
@[simp] theorem commitAccount_pending (b : Basket) (x y : Nat) (s : State) :
    (commitAccount b x y s).pending = s.pending := by unfold commitAccount; split <;> simp

/-! ### placeHold -/

@[simp] theorem placeHold_link (n l a x : Nat) (s : State) : (placeHold n l a x s).link = s.link := rfl
@[simp] theorem placeHold_basketTable (n l a x : Nat) (s : State) :
    (placeHold n l a x s).basketTable = s.basketTable := rfl
@[simp] theorem placeHold_evaluator (n l a x : Nat) (s : State) : (placeHold n l a x s).evaluator = s.evaluator := rfl
@[simp] theorem placeHold_store (n l a x : Nat) (s : State) : (placeHold n l a x s).store = s.store := rfl
@[simp] theorem placeHold_calendar (n l a x : Nat) (s : State) : (placeHold n l a x s).calendar = s.calendar := rfl
@[simp] theorem placeHold_tables (n l a x : Nat) (s : State) : (placeHold n l a x s).tables = s.tables := rfl
@[simp] theorem placeHold_overrides (n l a x : Nat) (s : State) : (placeHold n l a x s).overrides = s.overrides := rfl
@[simp] theorem placeHold_router (n l a x : Nat) (s : State) : (placeHold n l a x s).router = s.router := rfl
@[simp] theorem placeHold_settlement (n l a x : Nat) (s : State) :
    (placeHold n l a x s).settlement = s.settlement := rfl
@[simp] theorem placeHold_pending (n l a x : Nat) (s : State) : (placeHold n l a x s).pending = s.pending := rfl

/-! ### cancelEvaluation -/

@[simp] theorem cancelEvaluation_link (n : Nat) (s : State) : (cancelEvaluation n s).link = s.link := rfl
@[simp] theorem cancelEvaluation_basketTable (n : Nat) (s : State) :
    (cancelEvaluation n s).basketTable = s.basketTable := rfl
@[simp] theorem cancelEvaluation_store (n : Nat) (s : State) : (cancelEvaluation n s).store = s.store := rfl
@[simp] theorem cancelEvaluation_calendar (n : Nat) (s : State) : (cancelEvaluation n s).calendar = s.calendar := rfl
@[simp] theorem cancelEvaluation_tables (n : Nat) (s : State) : (cancelEvaluation n s).tables = s.tables := rfl
@[simp] theorem cancelEvaluation_overrides (n : Nat) (s : State) :
    (cancelEvaluation n s).overrides = s.overrides := rfl
@[simp] theorem cancelEvaluation_router (n : Nat) (s : State) : (cancelEvaluation n s).router = s.router := rfl
@[simp] theorem cancelEvaluation_accounts (n : Nat) (s : State) : (cancelEvaluation n s).accounts = s.accounts := rfl
@[simp] theorem cancelEvaluation_settlement (n : Nat) (s : State) :
    (cancelEvaluation n s).settlement = s.settlement := rfl
@[simp] theorem cancelEvaluation_pending (n : Nat) (s : State) : (cancelEvaluation n s).pending = s.pending := rfl

/-! ### unitTakes -/

@[simp] theorem unitTakes_link (s : State) :
    (unitTakes s).link = s.link := by unfold unitTakes; split <;> (try split) <;> rfl
@[simp] theorem unitTakes_basketTable (s : State) :
    (unitTakes s).basketTable = s.basketTable := by unfold unitTakes; split <;> (try split) <;> rfl
@[simp] theorem unitTakes_store (s : State) :
    (unitTakes s).store = s.store := by unfold unitTakes; split <;> (try split) <;> rfl
@[simp] theorem unitTakes_calendar (s : State) :
    (unitTakes s).calendar = s.calendar := by unfold unitTakes; split <;> (try split) <;> rfl
@[simp] theorem unitTakes_tables (s : State) :
    (unitTakes s).tables = s.tables := by unfold unitTakes; split <;> (try split) <;> rfl
@[simp] theorem unitTakes_overrides (s : State) :
    (unitTakes s).overrides = s.overrides := by unfold unitTakes; split <;> (try split) <;> rfl
@[simp] theorem unitTakes_router (s : State) :
    (unitTakes s).router = s.router := by unfold unitTakes; split <;> (try split) <;> rfl
@[simp] theorem unitTakes_accounts (s : State) :
    (unitTakes s).accounts = s.accounts := by unfold unitTakes; split <;> (try split) <;> rfl
@[simp] theorem unitTakes_settlement (s : State) :
    (unitTakes s).settlement = s.settlement := by unfold unitTakes; split <;> (try split) <;> rfl
@[simp] theorem unitTakes_pending (s : State) :
    (unitTakes s).pending = s.pending := by unfold unitTakes; split <;> (try split) <;> rfl

/-! ### enqueue -/

@[simp] theorem enqueue_link (n : Nat) (s : State) : (enqueue n s).link = s.link := by simp [enqueue]
@[simp] theorem enqueue_basketTable (n : Nat) (s : State) :
    (enqueue n s).basketTable = s.basketTable := by simp [enqueue]
@[simp] theorem enqueue_store (n : Nat) (s : State) : (enqueue n s).store = s.store := by simp [enqueue]
@[simp] theorem enqueue_calendar (n : Nat) (s : State) : (enqueue n s).calendar = s.calendar := by simp [enqueue]
@[simp] theorem enqueue_tables (n : Nat) (s : State) : (enqueue n s).tables = s.tables := by simp [enqueue]
@[simp] theorem enqueue_overrides (n : Nat) (s : State) : (enqueue n s).overrides = s.overrides := by simp [enqueue]
@[simp] theorem enqueue_router (n : Nat) (s : State) : (enqueue n s).router = s.router := by simp [enqueue]
@[simp] theorem enqueue_accounts (n : Nat) (s : State) : (enqueue n s).accounts = s.accounts := by simp [enqueue]
@[simp] theorem enqueue_settlement (n : Nat) (s : State) :
    (enqueue n s).settlement = s.settlement := by simp [enqueue]
@[simp] theorem enqueue_pending (n : Nat) (s : State) : (enqueue n s).pending = s.pending := by simp [enqueue]

/-! ### freeUnit -/

@[simp] theorem freeUnit_link (i : Nat) (s : State) : (freeUnit i s).link = s.link := rfl
@[simp] theorem freeUnit_basketTable (i : Nat) (s : State) : (freeUnit i s).basketTable = s.basketTable := rfl
@[simp] theorem freeUnit_store (i : Nat) (s : State) : (freeUnit i s).store = s.store := rfl
@[simp] theorem freeUnit_calendar (i : Nat) (s : State) : (freeUnit i s).calendar = s.calendar := rfl
@[simp] theorem freeUnit_tables (i : Nat) (s : State) : (freeUnit i s).tables = s.tables := rfl
@[simp] theorem freeUnit_overrides (i : Nat) (s : State) : (freeUnit i s).overrides = s.overrides := rfl
@[simp] theorem freeUnit_router (i : Nat) (s : State) : (freeUnit i s).router = s.router := rfl
@[simp] theorem freeUnit_accounts (i : Nat) (s : State) : (freeUnit i s).accounts = s.accounts := rfl
@[simp] theorem freeUnit_settlement (i : Nat) (s : State) : (freeUnit i s).settlement = s.settlement := rfl
@[simp] theorem freeUnit_pending (i : Nat) (s : State) : (freeUnit i s).pending = s.pending := rfl

/-! ### cancelBasket -/

@[simp] theorem cancelBasket_evaluator (b : Basket) (c : CancelCause) (s : State) :
    (cancelBasket b c s).evaluator = s.evaluator := by simp [cancelBasket]
@[simp] theorem cancelBasket_store (b : Basket) (c : CancelCause) (s : State) :
    (cancelBasket b c s).store = s.store := by simp [cancelBasket]
@[simp] theorem cancelBasket_calendar (b : Basket) (c : CancelCause) (s : State) :
    (cancelBasket b c s).calendar = s.calendar := by simp [cancelBasket]
@[simp] theorem cancelBasket_tables (b : Basket) (c : CancelCause) (s : State) :
    (cancelBasket b c s).tables = s.tables := by simp [cancelBasket]
@[simp] theorem cancelBasket_router (b : Basket) (c : CancelCause) (s : State) :
    (cancelBasket b c s).router = s.router := by simp [cancelBasket]
@[simp] theorem cancelBasket_pending (b : Basket) (c : CancelCause) (s : State) :
    (cancelBasket b c s).pending = s.pending := by simp [cancelBasket]

end Sys2Proof.Machine
end

