-- ==== Sys2Proof/Laws/OfferArray.lean ====
section
/-! SUPPORT. The offer array: what reading gives after each operation, and that every operation keeps the
canonical form. -/

namespace Sys2Proof.Machine.OfferArray

/-! ### Reading after an operation -/

theorem read_nil (k : Nat) : OfferArray.read [] k = none := rfl

theorem read_cons (p : Nat × Slot) (a : OfferArray) (k : Nat) :
    OfferArray.read (p :: a) k = if p.1 = k then some p.2 else OfferArray.read a k := by
  by_cases h : p.1 = k <;> simp [OfferArray.read, h]

theorem read_put_self (k : Nat) (c : Slot) (a : OfferArray) : OfferArray.read (put k c a) k = some c := by
  induction a with
  | nil => simp [put, read_cons]
  | cons p a ih =>
    obtain ⟨j, d⟩ := p
    unfold put
    split
    · simp [read_cons]
    · split
      · simp [read_cons]
      · next h1 h2 => simp [read_cons, Ne.symm h2, ih]

theorem read_put_of_ne (k j : Nat) (c : Slot) (a : OfferArray) (hj : j ≠ k) :
    OfferArray.read (put k c a) j = OfferArray.read a j := by
  induction a with
  | nil => simp [put, read_cons, Ne.symm hj, read_nil]
  | cons p a ih =>
    obtain ⟨i, d⟩ := p
    unfold put
    split
    · simp [read_cons, Ne.symm hj]
    · split
      · next h1 h2 => subst h2; simp [read_cons, Ne.symm hj]
      · simp [read_cons, ih]

/-- Reading after a put. -/
theorem read_put (k j : Nat) (c : Slot) (a : OfferArray) :
    OfferArray.read (put k c a) j = if j = k then some c else OfferArray.read a j := by
  split
  · next h => rw [h, read_put_self]
  · next h => exact read_put_of_ne k j c a h

theorem read_mapSlots (f : Slot → Slot) (a : OfferArray) (k : Nat) :
    OfferArray.read (mapSlots f a) k = (OfferArray.read a k).map f := by
  induction a with
  | nil => rfl
  | cons p a ih =>
    have : mapSlots f (p :: a) = (p.1, f p.2) :: mapSlots f a := rfl
    rw [this, read_cons, read_cons, ih]
    split <;> rfl

theorem read_eraseSector (k : Nat) (a : OfferArray) (j : Nat) :
    OfferArray.read (eraseSector k a) j = if j / 64 = k then none else OfferArray.read a j := by
  induction a with
  | nil => simp [eraseSector, read_nil]
  | cons p a ih =>
    by_cases hp : p.1 / 64 = k
    · have : eraseSector k (p :: a) = eraseSector k a := by simp [eraseSector, hp]
      rw [this, ih, read_cons]
      by_cases hj : p.1 = j
      · subst hj; simp [hp]
      · simp [hj]
    · have : eraseSector k (p :: a) = p :: eraseSector k a := by simp [eraseSector, hp]
      rw [this, read_cons, ih, read_cons]
      by_cases hj : p.1 = j
      · subst hj; simp [hp]
      · simp [hj]

theorem read_damageUpTo (k n : Nat) (a : OfferArray) (j : Nat) :
    OfferArray.read ((List.range n).foldl (fun b i => put (64 * k + i) .damaged b) a) j
      = if 64 * k ≤ j ∧ j < 64 * k + n then some .damaged else OfferArray.read a j := by
  induction n with
  | zero =>
    have : ¬ (64 * k ≤ j ∧ j < 64 * k + 0) := by omega
    rw [if_neg this]; rfl
  | succ n ih =>
    rw [List.range_succ, List.foldl_append, List.foldl_cons, List.foldl_nil, read_put, ih]
    by_cases h : j = 64 * k + n
    · subst h; simp
    · rw [if_neg h]
      congr 1
      apply propext
      omega

theorem read_damageSector (k : Nat) (a : OfferArray) (j : Nat) :
    OfferArray.read (damageSector k a) j = if j / 64 = k then some .damaged else OfferArray.read a j := by
  rw [damageSector, read_damageUpTo]
  congr 1
  apply propext
  omega

/-! ### The canonical form -/

theorem wf_iff (a : OfferArray) :
    wf a = true ↔ a.Pairwise (fun p q => p.1 < q.1) ∧ ∀ p ∈ a, p.1 < 512 := by
  simp [wf]

theorem wf_nil : wf [] = true := by simp [wf_iff]

theorem mem_put (k : Nat) (c : Slot) (a : OfferArray) (p : Nat × Slot) (h : p ∈ put k c a) :
    p = (k, c) ∨ p ∈ a := by
  induction a with
  | nil => simpa [put] using h
  | cons q a ih =>
    obtain ⟨j, d⟩ := q
    unfold put at h
    split at h
    · simpa using h
    · split at h
      · simp only [List.mem_cons] at h ⊢
        tauto
      · simp only [List.mem_cons] at h ⊢
        rcases h with h | h
        · exact .inr (.inl h)
        · rcases ih h with h | h
          · exact .inl h
          · exact .inr (.inr h)

theorem pairwise_put (k : Nat) (c : Slot) (a : OfferArray) (h : a.Pairwise fun p q => p.1 < q.1) :
    (put k c a).Pairwise fun p q => p.1 < q.1 := by
  induction a with
  | nil => simp [put]
  | cons q a ih =>
    obtain ⟨j, d⟩ := q
    rw [List.pairwise_cons] at h
    unfold put
    split
    · next hk =>
      refine List.pairwise_cons.2 ⟨?_, List.pairwise_cons.2 h⟩
      intro p hp
      simp only [List.mem_cons] at hp
      rcases hp with rfl | hp
      · exact hk
      · exact lt_trans hk (h.1 p hp)
    · split
      · next h2 => subst h2; exact List.pairwise_cons.2 h
      · next h1 h2 =>
        refine List.pairwise_cons.2 ⟨?_, ih h.2⟩
        intro p hp
        rcases mem_put k c a p hp with rfl | hp
        · show j < k; omega
        · exact h.1 p hp

theorem wf_put (k : Nat) (c : Slot) (a : OfferArray) (ha : wf a = true) (hk : k < 512) :
    wf (put k c a) = true := by
  rw [wf_iff] at ha ⊢
  refine ⟨pairwise_put k c a ha.1, fun p hp => ?_⟩
  rcases mem_put k c a p hp with rfl | hp
  · exact hk
  · exact ha.2 p hp

theorem wf_eraseSector (k : Nat) (a : OfferArray) (ha : wf a = true) : wf (eraseSector k a) = true := by
  rw [wf_iff] at ha ⊢
  exact ⟨ha.1.sublist List.filter_sublist, fun p hp => ha.2 p (List.mem_of_mem_filter hp)⟩

theorem wf_mapSlots (f : Slot → Slot) (a : OfferArray) (ha : wf a = true) : wf (mapSlots f a) = true := by
  rw [wf_iff] at ha ⊢
  refine ⟨List.pairwise_map.2 ha.1, fun p hp => ?_⟩
  obtain ⟨q, hq, rfl⟩ := List.mem_map.1 hp
  exact ha.2 q hq

theorem wf_damageSector (k : Nat) (a : OfferArray) (ha : wf a = true) (hk : k < 8) :
    wf (damageSector k a) = true := by
  unfold damageSector
  have key : ∀ n ≤ 64, wf ((List.range n).foldl (fun b i => put (64 * k + i) .damaged b) a) = true := by
    intro n
    induction n with
    | zero => intro _; exact ha
    | succ n ih =>
      intro hn
      rw [List.range_succ, List.foldl_append, List.foldl_cons, List.foldl_nil]
      exact wf_put _ _ _ (ih (by omega)) (by omega)
  exact key 64 le_rfl

end Sys2Proof.Machine.OfferArray
end

