-- ==== Sys2Proof/Tests/Slice0.lean ====
section
/-! SUPPORT. Tests: ill-formed commands that the check refuses, the spec's worked figures, and for each obligation a
state and operands that meet its hypotheses, clause by clause, with what the command answers there. -/

namespace Sys2Proof.Tests

open Sys2Proof Sys2Proof.Machine

-- One theorem at a time: each kernel evaluation waits for the ones before it, and a thread that waits holds its stack.
set_option Elab.async false

/-! ### Helpers -/

def hd (lane tag : Nat) : Header := { lane := BitVec.ofNat 8 lane, tag := BitVec.ofNat 8 tag }
def h4 : Header := hd 4 17
def h16 : Header := hd 16 18
def hFF : Header := hd 255 19

/-- What a command leaves. -/
def after (c : Instr) (s : State) : State :=
  match exec c s with
  | .next t => t
  | .fault _ => s
  | .refused _ => s

/-- What a step leaves. -/
def stepped (s : State) : State :=
  match step s with
  | .next t => t
  | .fault _ => s
  | .refused _ => s

/-- The messages a command placed. -/
def placed (c : Instr) (s : State) : List Message := (after c s).link.transmit.drop s.link.transmit.length

/-- The statuses of the messages a command placed. -/
def got (c : Instr) (s : State) : List Status := (placed c s).map Message.status

/-- The command is unhindered at the state (`Unhindered`, written out) and places messages with these statuses. -/
abbrev Met (c : Instr) (s : State) (statuses : List Status) : Prop :=
  (s.link.held = [] ∧ s.link.due = [] ∧ overtakes c s = false) ∧ got c s = statuses

/-- `Served`, written out, for lane 4. -/
abbrev InService (h : Header) (n : Nat) (b : Basket) (s : State) : Prop :=
  s.link.mode ≠ .maintenance ∧ laneOf h = some 4 ∧ findBasket n s = some b ∧ b.state ≠ .parked ∧ b.lane = some 4

def line1 : Line :=
  { number := 1, item := 500100, group := 3, quantity := 2, price := 4000, measured := false, concession := true
    earn := true }
def line2 : Line :=
  { number := 2, item := 500200, group := 0, quantity := 1, price := 250, measured := true, concession := true
    earn := true }

def b40 : Basket :=
  { number := 40, state := .opened, lane := some 4, generation := 65535, lines := [line1, line2], nextLine := 3
    coupons := [7], account := some 900, plan := none, current := false, planSeq := 0, heldOffers := []
    parkTime := none, parkTimer := none, expired := false, outstanding := none, keyingCount := 1 }

def stamp0 : Stamp := { year := 2024, month := 2, day := 28, weekday := 3, hour := 23, minute := 59, second := 59 }

def plan1 : Plan :=
  { basket := 40, seq := 1, stamp := stamp0, gross := 8250, lineConcessions := 0, overrideReductions := 0
    basketConcessions := 0, payable := 8250, points := 246, pendingOverrides := 0
    lines := [{ line := 1, net := 8000, pairs := [] }, { line := 2, net := 250, pairs := [] }]
    entries := [], used := [], coupons := [] }

/-- The basket TOTALLED with its plan. -/
def b40T : Basket := { b40 with state := .totalled, plan := some plan1, current := true, planSeq := 1 }

/-- The basket TOTALLING with its TOTAL outstanding. -/
def b40W : Basket := { b40 with state := .totalling, outstanding := some h4 }

def b41P : Basket :=
  { b40 with number := 41, state := .parked, lane := none, account := none, parkTime := some stamp0
             parkTimer := some 5, lines := [line1] }

def acc900 : Account := { number := 900, tier := .tradeB, flags := 3, balance := 1000, holds := [], refs := 1 }
def acc901 : Account := { number := 901, tier := .retail, flags := 0, balance := 50, holds := [], refs := 0 }

def lane4 : Lane :=
  { state := .opened, laneClass := .staffed, maskEntry := 3, floorLimit := 2000, basketLimit := 3000, active := some 40 }

/-- The part in a mode, its transmit queue empty and its calendar and identity set. -/
def inMode (m : Mode) : State :=
  { State.reset with
    link := { State.reset.link with mode := m, transmit := [] }
    calendar := { state := .running, now := stamp0, phase := 400 }
    tables := { Tables.powerOn with identity := some 7 } }

def maint : State := inMode .maintenance
def trade : State := inMode .trading

/-- TRADING with a basket on lane 4, another parked, and two accounts. -/
def serving (b : Basket) : State :=
  { trade with
    basketTable :=
      { lanes := (Vector.replicate 16 Lane.powerOn).setIfInBounds 4 lane4
                  |>.setIfInBounds 5 { lane4 with active := none }
        baskets := [b, b41P], nextNumber := 42, parkList := [41] }
    accounts := { entries := [acc900, acc901], idle := [901] } }

def s40 : State := serving b40
def s40T : State := serving b40T
def s40W : State := { serving b40W with evaluator := { Evaluator.powerOn with queue := [40] } }

def setLane (l : Nat) (r : Lane) (s : State) : State :=
  s.withBasketTable { s.basketTable with lanes := s.basketTable.lanes.setIfInBounds l r }
def setStore (f : OfferStore → OfferStore) (s : State) : State := s.withStore (f s.store)
def setLink (f : LinkController → LinkController) (s : State) : State := s.withLink (f s.link)

/-- Requests on the request queue, and events that stay due. -/
def queued (cs : List Instr) (s : State) : State := setLink (fun x => { x with requests := cs }) s
def dueNow (cs : List Instr) (s : State) : State := setLink (fun x => { x with due := cs }) s

/-- One message held by a block. -/
def heldBy (b : Block) (s : State) : State :=
  setLink (fun x => { x with held := [{ owner := b, message := replyTo .park h4 .ok .none }] }) s

def rec1 (st : OverrideState) : OverrideRecord :=
  { basket := 40, line := 1, seq := 1, price := 3500, reason := .quote, reduction := 1000, state := st }

def keyed (st : OverrideState) (s : State) : State := s.withOverrides [rec1 st]

/-- Lane 4's route, unmasked with a mode and a desk setting. -/
def route4 (m : RouteMode) (d : Option Nat) (p : Option Presentation) : Route :=
  { desk := d, mode := m, masked := false, code := 4, presented := p, tag := 255 }

def pres1 : Presentation := { basket := 40, line := 1, seq := 1, desk := 2, timer := 1 }

/-- Lane 4's route set, and desk 2 on duty with `k` notices open. -/
def routed (r : Route) (k : Nat) (s : State) : State :=
  s.withRouter
    { routes := s.router.routes.setIfInBounds 4 r
      desks := s.router.desks.setIfInBounds 2
        { onDuty := true, openCount := k, presentedTotal := 65535, decidedTotal := 65535 } }

/-- Line 1's record presented to desk 2. -/
def shown (m : RouteMode) (count : Nat) (s : State) : State :=
  routed (route4 m none (some pres1)) 1 (keyed (.pending count true) s)

def holding (xs : List Hold) (s : State) : State :=
  s.withAccounts { s.accounts with entries := [{ acc900 with holds := xs }, acc901] }
def holdOn (n points : Nat) : Hold := { basket := n, lane := 4, points := points, timer := 1 }

def cut1 : OfferRecord :=
  { number := 301, kind := 1, stacking := 0, priority := 5, group := 3, couponKey := 0, required := 0, limit := 0
    form := 1, enables := 0, value := 1000, threshold := 0, buy := 0, pay := 0, extra := 0, weekdays := 0
    startDate := { year := 0, month := 0, day := 0 }, endDate := { year := 0, month := 0, day := 0 }
    fromMinute := 0, toMinute := 0, label := 0 }

/-! ### Well-formedness: each check refuses an ill-formed command -/

theorem test_illFormed_fields :
    Instr.wellFormed (.laneProfile h4 256 0 0 0) = false ∧ Instr.wellFormed (.laneProfile h4 0 0 (2 ^ 32) 0) = false
    ∧ Instr.wellFormed (.lineAdd h4 65536 1 1 1 false true true) = false
    ∧ Instr.wellFormed (.lineQuantity h4 1 256 1) = false ∧ Instr.wellFormed (.lineVoid h4 1 256) = false
    ∧ Instr.wellFormed (.couponPresent h4 1 (2 ^ 32)) = false ∧ Instr.wellFormed (.couponWithdraw h4 65536 1) = false
    ∧ Instr.wellFormed (.accountAttach h4 1 (2 ^ 40)) = false ∧ Instr.wellFormed (.accountDetach h4 65536) = false
    ∧ Instr.wellFormed (.total h4 65536) = false ∧ Instr.wellFormed (.planLines h4 1 256) = false
    ∧ Instr.wellFormed (.park h4 65536) = false ∧ Instr.wellFormed (.basketRecall h4 65536) = false
    ∧ Instr.wellFormed (.cancel h4 65536) = false ∧ Instr.wellFormed (.overrideKey h4 1 1 1 256) = false
    ∧ Instr.wellFormed (.overrideWithdraw h4 1 256) = false ∧ Instr.wellFormed (.redeem h4 1 (2 ^ 32)) = false
    ∧ Instr.wellFormed (.redeemRelease h4 65536) = false ∧ Instr.wellFormed (.settle h4 65536 1) = false
    ∧ Instr.wellFormed (.authorise h4 256 0 0) = false ∧ Instr.wellFormed (.decline h4 0 0 65536) = false
    ∧ Instr.wellFormed (.deskDuty h4 0 256) = false ∧ Instr.wellFormed (.deskRecall h4 65536) = false
    ∧ Instr.wellFormed (.deskStatus h4 256) = false ∧ Instr.wellFormed (.routeSet h4 0 256 0) = false
    ∧ Instr.wellFormed (.routeMask h4 256) = false := by decide +kernel

theorem test_illFormed_tables :
    Instr.wellFormed (.accountLoad h4 1 0 0 (2 ^ 32)) = false ∧ Instr.wellFormed (.accountEvict h4 (2 ^ 40)) = false
    ∧ Instr.wellFormed (.accountRead h4 (2 ^ 40)) = false
    ∧ Instr.wellFormed (.offerWrite h4 1 { cut1 with number := 65536 }) = false
    ∧ Instr.wellFormed (.offerWrite h4 1 { cut1 with startDate := { year := 2024, month := 256, day := 1 } }) = false
    ∧ Instr.wellFormed (.offerRetire h4 65536) = false ∧ Instr.wellFormed (.offerRead h4 65536) = false
    ∧ Instr.wellFormed (.sectorErase h4 256) = false ∧ Instr.wellFormed (.groupRangeAdd h4 (2 ^ 32) 1 1 true true) = false
    ∧ Instr.wellFormed (.groupRangeRemove h4 (2 ^ 32)) = false ∧ Instr.wellFormed (.maskWrite h4 256 0 0) = false
    ∧ Instr.wellFormed (.maskRead h4 256) = false ∧ Instr.wellFormed (.tierSet h4 0 256) = false
    ∧ Instr.wellFormed (.limitsSet h4 0 0 256 0 0 0 0) = false ∧ Instr.wellFormed (.storeIdentity h4 65536) = false
    ∧ Instr.wellFormed (.calendarSet h4 65536 1 1 0 0 0) = false ∧ Instr.wellFormed (.engineStatus h4 256) = false
    ∧ Instr.wellFormed (.parkTimerExpiry 65536) = false ∧ Instr.wellFormed (.holdTimerExpiry 65536) = false
    ∧ Instr.wellFormed (.noticeTimerExpiry 16) = false ∧ Instr.wellFormed (.evaluationCompletion 4) = false := by
  decide +kernel

/-! ### The words: no row gives bits -/

theorem test_no_word_spells_a_command :
    decodeTableWord 8 0 = none ∧ decodeTableWord 0 0 = none ∧ State.withFetchWord trade 8 255 = trade := by
  decide +kernel

/-! ### Steps, reset, link -/

theorem test_StepRunsFrontCommand :
    stepped { trade with pending := [.laneOpen h4, .messageSent] }
      = after (.laneOpen h4) { trade with pending := [.messageSent] }
    ∧ stepped trade = idle trade := by decide +kernel

def atPhase (k : Nat) (s : State) : State := { s with calendar := { s.calendar with phase := k } }

/-- A due event, a queued request, and nothing waiting. -/
theorem test_IdleStep :
    (after .secondEvent trade).link.due = []
    ∧ stepped (dueNow [.secondEvent] (atPhase 1007 trade)) = after .secondEvent (atPhase 1007 trade)
    ∧ headerOf (.laneOpen h4) = some h4
    ∧ stepped (queued [.laneOpen h4] trade) = after (.laneOpen h4) (queued [.laneOpen h4] trade)
    ∧ (stepped { s40 with calendar := { s40.calendar with phase := 999 } }).calendar.phase = 999
    ∧ (findBasket 41 (stepped s40)).bind Basket.parkTimer = some 4 := by decide +kernel

def expired40 : State := dueNow [.redeem h4 40 7, .holdTimerExpiry 40] (holding [holdOn 40 5] s40T)
def decided40 : State := dueNow [.authorise h4 2 255 1, .noticeTimerExpiry 4] (shown .single 1 s40)
def voided40 : State := dueNow [.lineVoid h4 40 1, .noticeTimerExpiry 4]
  ((shown .persistent 1 s40).withOverrides [rec1 (.pending 1 true), { rec1 (.pending 0 false) with line := 2, seq := 2 }])

/-- A timer that an event stopped or started anew does not expire (R136, R156); one that ran out still does. -/
theorem test_IdleStep_due :
    (stepped expired40).link.due = [] ∧ (stepped expired40).accounts = (after (.redeem h4 40 7)
        (holding [holdOn 40 5] s40T)).accounts
    ∧ (stepped decided40).link.due = [] ∧ got (.authorise h4 2 255 1) (shown .single 1 s40) = [.ok, .ok]
    ∧ (stepped voided40).link.due = []
    ∧ (presentationOf 4 (stepped voided40)).map Presentation.line = some 2
    ∧ (stepped (dueNow [.secondEvent, .holdTimerExpiry 40]
        (holding [{ holdOn 40 5 with timer := 0 }] s40T))).link.due = [.holdTimerExpiry 40] := by decide +kernel

/-- A second event due behind a CALENDAR SET or a MINUTE MARK falls one second later (R65, R66); one due behind another
second event is taken. -/
theorem test_IdleStep_secondPhase :
    (∀ c ∈ [Instr.calendarSet h4 2024 2 29 0 0 0, .minuteMark h4],
      Met c (queued [c] (atPhase 1400 trade)) [.ok]
      ∧ (stepped (queued [c] (dueNow [c, .secondEvent] (atPhase 1400 trade)))).link.due = []
      ∧ (stepped (queued [c] (dueNow [c, .secondEvent] (atPhase 1400 trade)))).calendar.now.second = 0)
    ∧ (stepped (dueNow [.secondEvent, .secondEvent] (atPhase 2400 trade))).link.due = [.secondEvent]
    ∧ (stepped (dueNow [.secondEvent, .secondEvent] (atPhase 2400 trade))).calendar.phase = 1400 := by decide +kernel

/-- An AUTHORISE given while an older LINE QUANTITY of its lane is queued waits, and the LINE QUANTITY is taken first
(R129). -/
theorem test_R129_older_first :
    let s := after (.authorise h4 2 255 1) (queued [.lineQuantity h4 40 1 1] (shown .single 1 s40))
    s.link.requests = [.lineQuantity h4 40 1 1, .authorise h4 2 255 1] ∧ s.link.due = []
    ∧ (stepped s).link.requests = [.authorise h4 2 255 1] ∧ (stepped (stepped s)).link.requests = []
    ∧ (stepped (stepped s)).link.transmit.map Message.status = [.ok, .ok, .tooLate] := by decide +kernel

/-- The frame check of section 11.1 over its worked string. -/
theorem test_frameCheck_worked : frameCheck [0x31, 0x32, 0x33, 0x34, 0x35, 0x36, 0x37, 0x38, 0x39] = 0x29B1#16 := by
  decide +kernel

def storeHurt : State :=
  setStore (fun x => { x with
    slots := [(7, .live cut1 false), (130, .retired cut1)]
    program := some { slot := 5, job := .offer cut1, request := h4 }, inProgress := some 2 }) trade

theorem test_ResetsClassifyTheStore :
    OfferArray.read (after (.powerOn { baud1 := true, baud0 := false }) storeHurt).store.slots 5 = some .damaged
    ∧ OfferArray.read (after (.pinReset { baud1 := true, baud0 := false }) storeHurt).store.slots 130 = some .damaged
    ∧ OfferArray.read (after (.powerOn { baud1 := true, baud0 := false }) storeHurt).store.slots 7
        = some (.live cut1 true)
    ∧ (after (.pinReset { baud1 := true, baud0 := false }) storeHurt).link.resetCause = .pin
    ∧ (after (.pinReset { baud1 := true, baud0 := false }) storeHurt).link.transmit
        = [noticeTo .engineStarted none (.engineStarted .pin .maintenance
            { erased := 446, live := 1, retired := 0, damaged := 65 })] := by decide +kernel

def lineAddMax : Instr := .lineAdd h4 65535 999999999 999 100100 false true true

theorem test_RequestFrameJoinsQueue :
    lineAddMax.wellFormed = true
    ∧ (encodeRequest lineAddMax).map (fun p => (after (.frameReceived (requestFrame p.1 p.2.1 p.2.2))
        (setLink (fun x => { x with requests := List.replicate 31 (.calendarRead hFF) }) trade)).link.requests.getLast?)
      = some (some lineAddMax) := by decide +kernel

theorem test_RequestsReadBack :
    (encodeRequest (.offerWrite hFF 511 cut1)).map (fun p =>
        (decodeRequest p.1 p.2.1 p.2.2 == .offerWrite hFF 511 cut1) && p.2.2.length == 66) = some true
    ∧ (encodeRequest (.deskRecall hFF 256)).map (fun p => decodeRequest p.1 p.2.1 p.2.2) = some (.deskRecall hFF 256) := by
  decide +kernel

def full64 : State :=
  setLink (fun x => { x with transmit := List.replicate 64 (replyTo .total h4 .ok .none) }) trade
def free63 : State :=
  setLink (fun x => { x with transmit := List.replicate 63 (replyTo .total h4 .ok .none) }) trade

theorem test_LinkRefusals :
    (∀ k : RequestKind, k.code ≠ 0x7F#8)
    ∧ got (.frameReceived (frameOf (bodyOf 0x7F#8 4 1 0 []))) free63 = [.unknownKind]
    ∧ got (.frameReceived (frameOf (bodyOf RequestKind.laneOpen.code 4 1 0 [0]))) trade = [.badLength]
    ∧ got (.frameReceived (frameOf (bodyOf RequestKind.laneOpen.code 4 1 0 [])))
        (setLink (fun x => { x with requests := List.replicate 32 (.calendarRead hFF) }) trade) = [.queueFull]
    ∧ (after (.frameReceived (frameOf (bodyOf 0x7F#8 4 1 0 []))) full64).link.refusalsLost = 1 := by
  refine ⟨?_, ?_⟩
  · intro k; cases k <;> decide
  · decide +kernel

theorem test_ReceiverHuntsAndCounts :
    (after (.frameReceived [0x00, 0xC3, 3, 0]) trade).link.receiver = []
    ∧ (after (.frameReceived [0xC3, 0xFD, 3]) trade).link.receiver = []
    ∧ (after (.frameReceived [0xC3, 4, 0, 1, 2, 3, 4, 0, 0]) trade).link.frameErrors = 1
    ∧ (after (.frameReceived [0xC3, 4, 0, 1, 2, 3, 4, 0]) trade).link.receiver = [0xC3, 4, 0, 1, 2, 3, 4, 0]
    ∧ (after (.frameReceived [0xC3, 0xFC]) trade).link.receiver = [0xC3, 0xFC]
    ∧ (after (.frameReceived [0xC3, 0xFC, 3]) trade).link.receiver = [0xC3, 0xFC, 3]
    ∧ after (.frameReceived [0, 1]) (after (.frameReceived [0xC3, 4, 0]) trade)
        = after (.frameReceived [0xC3, 4, 0, 0, 1]) trade := by decide +kernel

theorem test_MessagesLeaveInOrder :
    (after .messageSent free63).link.transmit.length = 62
    ∧ (after .messageSent free63).link.lastFrame.take 3 = [0xC3, 4, 0]
    ∧ after .messageSent trade = trade
    ∧ (after .heldMessageJoin (heldBy .router free63)).link.transmit.length = 64
    ∧ (after .heldMessageJoin (heldBy .router free63)).link.held = []
    ∧ after .heldMessageJoin (heldBy .router full64) = heldBy .router full64 := by decide +kernel

/-- Section 11: sizes, and byte 37 of the plan summary (log 28). -/
theorem test_PayloadLayouts :
    (Payload.planSummary plan1).bytes.length = 102 ∧ (Payload.planSummary plan1).bytes[37]? = some 0
    ∧ ((Payload.planSummary plan1).bytes.take 14) = [40, 0, 1, 0, 0xE8, 7, 2, 28, 3, 23, 59, 59, 0x3A, 0x20]
    ∧ (Payload.planLines 1 true 2 [{ line := 1, net := 7, pairs := [(301, 5)] }] [6]).bytes.length = 37
    ∧ (Payload.deskStatus true 0 0 0 []).bytes.length = 70
    ∧ (Payload.accountRead { account := acc901, heldTotal := 0, available := 50, idlePosition := none, entries := 2
                             idleEntries := 1, holds := [] }).bytes.length = 76
    ∧ (Payload.offerRead .live false true false false (some cut1)).bytes.take 4 = [1, 2, 0x2D, 1]
    ∧ (Payload.parkExpired 41 none (some stamp0)).bytes.length = 15 := by decide +kernel

def overtaken : State := queued [.laneClose h4] trade

/-- A request behind another of its stream: on the queue, joining it, and with the queue full. -/
theorem test_HeldMessagesAndWaitingBlocks_overtaking :
    overtakes (.laneOpen h4) overtaken = true
    ∧ after (.laneOpen h4) (queued [.laneClose h4, .laneOpen h4] trade) = queued [.laneClose h4, .laneOpen h4] trade
    ∧ after (.laneOpen h4) overtaken = queued [.laneClose h4, .laneOpen h4] trade
    ∧ (after (.laneOpen h4) (queued (List.replicate 31 (.laneClose h4)) trade)).link.requests.length = 32
    ∧ got (.laneOpen h4) (queued (List.replicate 32 (.laneClose h4)) trade) = [.queueFull] := by decide +kernel

/-- A waiting block: a request, a repeated event, an expiry and one that cannot come about. -/
theorem test_HeldMessagesAndWaitingBlocks_waiting :
    waits .router (heldBy .router trade) = true
    ∧ (after (.deskStatus hFF 0) (queued [.deskStatus hFF 0] (heldBy .router trade))).link.due = [.deskStatus hFF 0]
    ∧ (after (.deskStatus hFF 0) (heldBy .router trade)).link.requests = [.deskStatus hFF 0]
    ∧ got (.deskStatus hFF 0) (queued (List.replicate 32 (.laneOpen h4)) (heldBy .router trade)) = [.queueFull]
    ∧ after .gatherTimerExpiry (dueNow [.gatherTimerExpiry] trade) = dueNow [.gatherTimerExpiry] trade
    ∧ fallsDue (.noticeTimerExpiry 4) (heldBy .router (shown .single 1 s40)) = true
    ∧ (presentationOf 4 (after (.noticeTimerExpiry 4) (heldBy .router (shown .single 1 s40)))).map Presentation.timer
        = some 0
    ∧ (after (.noticeTimerExpiry 4) (heldBy .router (shown .single 1 s40))).link.due = [.noticeTimerExpiry 4]
    ∧ inCourse (.noticeTimerExpiry 4) (heldBy .router trade) = false
    ∧ timerLeft (.parkTimerExpiry 41) (runOut (.parkTimerExpiry 41) s40) = some 0
    ∧ timerLeft (.holdTimerExpiry 40) (runOut (.holdTimerExpiry 40) (holding [holdOn 40 5] s40)) = some 0 := by
  decide +kernel

/-- Messages beyond the last place are held. -/
theorem test_HeldMessagesAndWaitingBlocks_places :
    (after (.calendarRead hFF) full64).link.held.length = 1
    ∧ (after (.restart hFF) (setLink (fun x => { x with transmit := free63.link.transmit }) s40W)).link.held.length = 1 := by
  decide +kernel

theorem test_OneReplyEach :
    Met (.calendarRead hFF) trade [.ok] ∧ Met (.total h4 40) s40 [] ∧ Met (.total h4 40) s40T [.ok] := by
  decide +kernel

theorem test_TradingModes :
    Met (.tradingStart hFF) maint [.ok] ∧ Met (.tradingStart hFF) trade [.wrongMode]
    ∧ Met (.tradingStart hFF) State.reset [.calendarUnset]
    ∧ Met (.tradingStart hFF) { maint with tables := Tables.powerOn } [.noIdentity]
    ∧ Met (.tradingStop hFF) maint [.wrongMode] ∧ Met (.tradingStop hFF) trade [.ok]
    ∧ (after (.tradingStop hFF) trade).link.mode = .maintenance
    ∧ (after (.tradingStop hFF) s40).link.mode = .quiescing
    ∧ Met (.tradingStop hFF) (s40.withMode .quiescing) [.ok] := by decide +kernel

theorem test_RestartClears :
    Met (.restart hFF) s40W [.restarted, .ok] ∧ (after (.restart hFF) s40W).basketTable.baskets = []
    ∧ (after (.restart hFF) s40W).basketTable.nextNumber = 42 := by decide +kernel

theorem test_EngineStatusRule :
    Met (.engineStatus hFF 0) trade [.ok] ∧ Met (.engineStatus hFF 2) trade [.badField]
    ∧ Met (.engineStatus hFF 1) (setLink (fun x => { x with frameErrors := 65535 }) trade) [.ok]
    ∧ (after (.engineStatus hFF 1) (setLink (fun x => { x with frameErrors := 65535 }) trade)).link.frameErrors = 0 := by
  decide +kernel

/-! ### Lanes and baskets -/

theorem test_LaneRequests :
    Met (.laneOpen h4) maint [.wrongMode] ∧ Met (.laneOpen h16) trade [.badField] ∧ Met (.laneOpen (hd 15 1)) trade [.ok]
    ∧ Met (.laneClose h4) s40 [.laneBusy] ∧ Met (.laneClose (hd 5 1)) s40 [.ok]
    ∧ Met (.laneProfile (hd 5 1) 3 31 99999999 99999999) s40 [.ok]
    ∧ Met (.laneProfile (hd 5 1) 4 31 0 0) s40 [.badField] ∧ Met (.laneProfile (hd 5 1) 0 32 0 0) s40 [.badField]
    ∧ Met (.laneProfile (hd 5 1) 0 0 100000000 0) s40 [.badField] ∧ Met (.laneProfile h4 3 31 0 0) s40 [.laneBusy]
    ∧ LaneClass.code .yard = 3 := by decide +kernel

def twenty : State :=
  trade.withBasketTable
    { lanes := (Vector.replicate 16 Lane.powerOn).setIfInBounds 5 { lane4 with active := none }
      baskets := (List.range 20).map fun k => { b41P with number := k + 1 }, nextNumber := 1, parkList := [] }

theorem test_BasketOpenRule :
    Met (.basketOpen (hd 5 1)) (s40.withMode .quiescing) [.wrongMode] ∧ Met (.basketOpen h16) s40 [.badField]
    ∧ Met (.basketOpen (hd 6 1)) s40 [.laneClosed] ∧ Met (.basketOpen h4) s40 [.laneBusy]
    ∧ Met (.basketOpen (hd 5 1)) twenty [.noSlot] ∧ Met (.basketOpen (hd 5 1)) s40 [.ok]
    ∧ (after (.basketOpen (hd 5 1)) (twenty.withBaskets (twenty.basketTable.baskets.take 19))).basketTable.nextNumber = 21
    ∧ (after (.basketOpen (hd 5 1)) (s40.withBasketTable { s40.basketTable with nextNumber := 65535 })).basketTable.nextNumber
        = 1 := by decide +kernel

theorem test_BasketChecks :
    Met (.couponPresent h4 40 9) (s40.withMode .maintenance) [.wrongMode] ∧ Met (.settle h16 40 0) s40 [.badField]
    ∧ Met (.redeem h4 99 0) s40 [.noBasket] ∧ Met (.overrideWithdraw (hd 5 1) 40 1) s40 [.noBasket]
    ∧ Met (.park h4 41) s40 [.basketState] ∧ basketRequest (.park h4 41) = some (.park, 41)
    ∧ ownerOf (.park h4 41) = some .basketTable ∧ headerOf (.park h4 41) = some h4 := by decide +kernel

theorem test_ChangesMakePlansStale :
    b40T.raised.state = .opened ∧ b40T.raised.generation = 0 ∧ b40W.raised.state = .totalling
    ∧ (staleClaim [40, 41] s40T).sent = [planStaleNotice b40T.raised] := by decide +kernel

theorem test_LineAddRule :
    InService h4 40 b40 s40 ∧ Met (.lineAdd h4 40 999999999 999 9999 false true false) s40 [.ok]
    ∧ Met (.lineAdd h4 40 1 2 5 true true true) s40 [.badField]
    ∧ Met (.lineAdd h4 40 1 100 999999 false true true) s40 [.badField]
    ∧ Met (.lineAdd h4 40 1 1 1 true true true)
        (serving { b40 with lines := List.replicate 64 line1 }) [.linesFull]
    ∧ Met (.lineAdd h4 40 1 1 1 true true true) (serving { b40 with nextLine := 256 }) [.lineNumbersUsed]
    ∧ ((findBasket 40 (after (.lineAdd h4 40 700 1 9 false true true)
          (s40.withTables { s40.tables with
            ranges := [{ first := 700, last := 700, group := 12, concession := true, earn := false }] }))).map
        fun b => b.lines.getLast?) = some (some
          { number := 3, item := 700, group := 12, quantity := 1, price := 9, measured := false, concession := true
            earn := false }) := by decide +kernel

theorem test_LineQuantityRule :
    Met (.lineQuantity h4 40 9 1) s40 [.noLine] ∧ Met (.lineQuantity h4 40 2 1) s40 [.badField]
    ∧ Met (.lineQuantity h4 40 1 1000) s40 [.badField] ∧ Met (.lineQuantity h4 40 1 2) s40 [.ok]
    ∧ Met (.lineQuantity h4 40 1 999) s40 [.ok] ∧ recordOf 40 1 s40 = none
    ∧ Met (.lineQuantity h4 40 1 1) (keyed (.granted .lane 1000) s40) [.ok]
    ∧ ((after (.lineQuantity h4 40 1 1) (keyed (.granted .lane 1000) s40)).overrides.map OverrideRecord.reduction) = [500]
    ∧ ((after (.lineQuantity h4 40 1 3) (keyed (.pending 2 false) s40)).overrides.map OverrideRecord.reduction)
        = [1500] := by decide +kernel

/-- What the record becomes, what the lane is told and what follows. -/
abbrev Requantified (q : Nat) (s : State) (st : Option OverrideState) (note : Bool) (more : List Status) : Prop :=
  Met (.lineQuantity h4 40 1 q) s (.ok :: more)
  ∧ (placed (.lineQuantity h4 40 1 q) s).head? = some (replyTo .lineQuantity h4 .ok (.sideNote note))
  ∧ (recordOf 40 1 (after (.lineQuantity h4 40 1 q) s)).map OverrideRecord.state = st

/-- R115: granted anew up to the floor limit, handed to a PERSISTENT or a SINGLE route above it. -/
theorem test_LineQuantityRule_outgrown :
    Requantified 4 (keyed (.granted .lane 1000) s40) (some (.granted .lane 2000)) false []
    ∧ Requantified 5 (keyed (.granted .lane 1000) s40) (some (.pending 0 false)) false []
    ∧ Requantified 4 (keyed (.granted (.desk 2 214) 1000) s40) (some (.pending 0 false)) false []
    ∧ Requantified 5 (routed (route4 .single none none) 8 (keyed (.granted .lane 1000) s40)) none true []
    ∧ Requantified 5 (routed (route4 .single none none) 7 (keyed (.granted .lane 1000) s40)) (some (.pending 1 true))
        false [.ok] := by decide +kernel

/-- R116: the notice is taken back; a SINGLE route loses the record, a PERSISTENT one presents it again. -/
theorem test_LineQuantityRule_presented :
    Requantified 1 (shown .single 1 s40) none true [.ok]
    ∧ Requantified 999 (shown .persistent 1 s40) (some (.pending 2 true)) false [.ok, .ok] := by decide +kernel

theorem test_LineVoidAndOverrideWithdraw :
    Met (.lineVoid h4 40 9) s40 [.noLine] ∧ Met (.lineVoid h4 40 1) (keyed (.granted .lane 1000) s40) [.ok]
    ∧ (after (.lineVoid h4 40 1) (keyed (.granted .lane 1000) s40)).overrides = []
    ∧ presentationOf 4 (keyed (.granted .lane 1000) s40) = none
    ∧ Met (.overrideWithdraw h4 40 1) s40 [.noOverride]
    ∧ Met (.overrideWithdraw h4 40 1) (keyed (.pending 0 false) s40) [.ok] := by decide +kernel

theorem test_CouponRules :
    Met (.couponPresent h4 40 0) s40 [.badField] ∧ Met (.couponPresent h4 40 7) s40 [.duplicate]
    ∧ Met (.couponPresent h4 40 9) (serving { b40 with coupons := [1, 2, 3, 4, 5, 6, 7, 8] }) [.couponsFull]
    ∧ Met (.couponPresent h4 40 8) (serving { b40 with coupons := [1, 2, 3, 4, 5, 6, 7] }) [.ok]
    ∧ Met (.couponWithdraw h4 40 8) s40 [.noCoupon] ∧ Met (.couponWithdraw h4 40 7) s40 [.ok] := by decide +kernel

def allRunning : Evaluator :=
  { queue := [], units := Vector.replicate 4 (some { basket := 1, snapshot := snapshotOf b40 s40, discard := true }) }

theorem test_TotalRule :
    Met (.total h4 40) s40 [] ∧ (after (.total h4 40) s40).evaluator.queue = []
    ∧ ((after (.total h4 40) s40).evaluator.units[0]?.bind id).map RunningUnit.basket = some 40
    ∧ (after (.total h4 40) (s40.withEvaluator allRunning)).evaluator.queue = [40]
    ∧ Met (.total h4 40) s40W [.evaluating] ∧ Met (.total h4 40) s40T [.ok] := by decide +kernel

theorem test_PlanLinesRule :
    Met (.planLines h4 40 0) s40 [.basketState] ∧ Met (.planLines h4 40 3) s40T [.badField]
    ∧ Met (.planLines h4 40 2) s40T [.ok] ∧ Met (.planLines (hd 15 1) 41 0)
        (s40T.withBaskets [b40T, { b41P with plan := some plan1, planSeq := 255 }]) [.ok] := by decide +kernel

theorem test_ParkRule :
    Met (.park h4 40) s40W [.evaluating] ∧ Met (.park h4 40) (keyed (.pending 0 false) s40) [.overridePending]
    ∧ Met (.park h4 40) (s40T.withAccounts { s40T.accounts with entries :=
        [{ acc900 with holds := [{ basket := 40, lane := 4, points := 5, timer := 9 }] }] }) [.holdActive]
    ∧ Met (.park h4 40) (s40.withBasketTable { s40.basketTable with parkList := List.range 8 }) [.parkFull]
    ∧ Met (.park h4 40) (s40.withBasketTable { s40.basketTable with parkList := List.range 7 }) [.ok]
    ∧ (after (.park h4 40) s40T).basketTable.parkList = [41, 40] := by decide +kernel

theorem test_RecallRule :
    Met (.basketRecall (hd 5 1) 41) (s40.withMode .maintenance) [.wrongMode] ∧ Met (.basketRecall h16 41) s40 [.badField]
    ∧ Met (.basketRecall (hd 6 1) 41) s40 [.laneClosed] ∧ Met (.basketRecall h4 41) s40 [.laneBusy]
    ∧ Met (.basketRecall (hd 5 1) 40) s40 [.notParked] ∧ Met (.basketRecall (hd 5 1) 41) s40 [.ok]
    ∧ (after (.basketRecall (hd 5 1) 41) ((s40.withBaskets [b40, { b41P with expired := true }]).withSettlement
        { journal := [], waiting := 1 })).settlement.waiting = 0 := by decide +kernel

theorem test_AttachAndDetach :
    Met (.accountAttach h4 40 901) s40 [.accountAttached]
    ∧ Met (.accountAttach h4 40 902) (serving { b40 with account := none }) [.notLoaded]
    ∧ Met (.accountAttach h4 40 901) (serving { b40 with account := none }) [.ok]
    ∧ (after (.accountAttach h4 40 901) (serving { b40 with account := none })).accounts.idle = []
    ∧ Met (.accountDetach h4 40) (serving { b40 with account := none }) [.noAccount]
    ∧ Met (.accountDetach h4 40) s40 [.ok] ∧ (after (.accountDetach h4 40) s40).accounts.idle = [901, 900]
    ∧ Met (.accountDetach h4 40) (s40.withAccounts { s40.accounts with entries :=
        [{ acc900 with holds := [{ basket := 40, lane := 4, points := 5, timer := 9 }] }] }) [.holdActive] := by
  decide +kernel

def journalOf (k : Nat) (s : State) : State :=
  s.withSettlement { s.settlement with journal := List.replicate k (.cancelled (cancelledRecord b40 .host s40)) }

theorem test_CancelRule :
    Met (.cancel h4 40) (s40.withMode .maintenance) [.wrongMode] ∧ Met (.cancel h4 99) s40 [.noBasket]
    ∧ Met (.cancel (hd 5 1) 40) s40 [.noBasket] ∧ Met (.cancel hFF 41) s40 [.ok]
    ∧ Met (.cancel h4 40) (journalOf 128 s40) [.journalFull] ∧ Met (.cancel h4 40) (journalOf 127 s40) [.ok]
    ∧ Met (.cancel h4 40) s40W [.cancelled, .ok] ∧ (after (.cancel h4 40) s40W).evaluator.queue = []
    ∧ Met (.cancel h4 40) (journalOf 95 s40) [.ok, .ok] := by decide +kernel

/-- The account gives up the hold and the reference; a presented notice is taken back and the desk's count falls. -/
theorem test_CancelRule_account_and_notice :
    (after (.cancel h4 40) (holding [holdOn 40 5] s40)).accounts
      = { entries := [{ acc900 with refs := 0 }, acc901], idle := [901, 900] }
    ∧ (after (.cancel h4 40) (serving { b40 with account := none })).accounts = s40.accounts
    ∧ presentationOf 4 (shown .single 1 s40) = some pres1
    ∧ Met (.cancel h4 40) (shown .single 1 s40W) [.cancelled, .ok, .ok]
    ∧ (after (.cancel h4 40) (shown .single 1 s40)).router.desks[2]?.map Desk.openCount = some 0
    ∧ presentationOf 4 (after (.cancel h4 40) (shown .single 1 s40)) = none := by decide +kernel

/-! ### Overrides and the router -/

theorem test_OverrideKeyRule_checks :
    Met (.overrideKey h4 40 1 3500 0) s40 [.badField] ∧ Met (.overrideKey h4 40 1 3500 5) s40 [.badField]
    ∧ Met (.overrideKey h4 40 1 10000000 1) s40 [.badField] ∧ Met (.overrideKey h4 40 9 3500 1) s40 [.noLine]
    ∧ Met (.overrideKey h4 40 1 4000 1) s40 [.notReduction]
    ∧ Met (.overrideKey h4 40 1 3999 1) (serving { b40 with keyingCount := 65536 }) [.overrideLimit]
    ∧ Met (.overrideKey h4 40 2 1 1) (s40.withOverrides (List.replicate 8 (rec1 (.pending 0 false)))) [.overrideLimit]
    ∧ Met (.overrideKey h4 40 1 1 1)
        (s40.withOverrides (List.replicate 96 { rec1 (.pending 0 false) with basket := 50 })) [.overridesFull] := by
  decide +kernel

theorem test_OverrideKeyRule_taken :
    placed (.overrideKey h4 40 1 3000 1) s40 = [replyTo .overrideKey h4 .ok (.overrideKeyed .granted 1 2000)]
    ∧ placed (.overrideKey h4 40 1 2999 1) s40 = [replyTo .overrideKey h4 .ok (.overrideKeyed .pending 1 2002)]
    ∧ placed (.overrideKey h4 40 1 3999 4) (routed (route4 .single none none) 8 s40)
        = [replyTo .overrideKey h4 .ok (.overrideKeyed .declined 1 2)]
    ∧ (after (.overrideKey h4 40 1 3999 4) (routed (route4 .single none none) 8 s40)).overrides = []
    ∧ got (.overrideKey h4 40 1 0 3) (routed (route4 .single (some 2) none) 7 s40) = [.ok, .ok]
    ∧ ((after (.overrideKey h4 40 1 0 3) (routed (route4 .single (some 2) none) 7 s40)).overrides.map
        OverrideRecord.state) = [.pending 1 true] := by decide +kernel

theorem test_LaneActionTakesNoticeBack :
    presentationOf 4 (shown .persistent 1 s40) = some pres1
    ∧ Met (.overrideWithdraw h4 40 1) (shown .persistent 1 s40) [.ok, .ok]
    ∧ Met (.lineVoid h4 40 1) (shown .single 1 s40) [.ok, .ok]
    ∧ ((after (.lineVoid h4 40 1) (shown .single 1 s40)).router.desks[2]?).map Desk.openCount = some 0 := by
  decide +kernel

/-- R109: an OVERRIDE KEY for a presented record, granted by the lane at its floor limit, presented anew, and declined
on a SINGLE route whose desk is off duty. -/
theorem test_LaneActionTakesNoticeBack_keyed :
    Met (.overrideKey h4 40 1 3000 1) (shown .single 1 s40) [.ok, .ok]
    ∧ ((after (.overrideKey h4 40 1 3000 1) (shown .single 1 s40)).overrides.map OverrideRecord.state)
        = [.granted .lane 2000]
    ∧ Met (.overrideKey h4 40 1 2999 1) (shown .persistent 1 s40) [.ok, .ok, .ok]
    ∧ ((after (.overrideKey h4 40 1 2999 1) (shown .persistent 1 s40)).overrides.map OverrideRecord.state)
        = [.pending 1 true]
    ∧ Met (.overrideKey h4 40 1 3999 4) (routed (route4 .single (some 3) (some pres1)) 1 (keyed (.pending 1 true) s40))
        [.ok, .ok]
    ∧ (after (.overrideKey h4 40 1 3999 4)
        (routed (route4 .single (some 3) (some pres1)) 1 (keyed (.pending 1 true) s40))).overrides = [] := by
  decide +kernel

theorem test_PresentationRule :
    canPresent 4 (keyed (.pending 0 false) s40) = none
    ∧ canPresent 4 (routed (route4 .persistent none none) 8 (keyed (.pending 255 false) s40)) = none
    ∧ canPresent 4 (routed (route4 .persistent none none) 7 (keyed (.pending 255 false) s40))
        = some (rec1 (.pending 255 false), 2)
    ∧ ((presentationPass (routed (route4 .persistent (some 2) none) 7 (keyed (.pending 255 false) s40))).state.router.routes[4]?).map
        Route.tag = some 0 := by decide +kernel

theorem test_DecisionRule :
    Met (.authorise h4 2 255 65535) ((shown .single 1 s40).withMode .maintenance) [.wrongMode]
    ∧ Met (.decline h4 4 255 0) (shown .single 1 s40) [.badField]
    ∧ Met (.authorise h16 3 255 0) (shown .single 1 s40) [.badField]
    ∧ placed (.authorise h4 2 255 0) s40 = [replyTo .authorise h4 .tooLate (.tooLate none)]
    ∧ placed (.decline h4 2 254 0) (shown .single 1 s40) = [replyTo .decline h4 .tooLate (.tooLate (some 255))]
    ∧ placed (.decline h4 3 255 0) (shown .single 1 s40) = [replyTo .decline h4 .tooLate (.tooLate (some 255))]
    ∧ Met (.authorise h4 2 255 214) (shown .single 1 s40T) [.ok, .ok, .ok]
    ∧ ((after (.authorise h4 2 255 214) (shown .single 1 s40T)).overrides.map OverrideRecord.state)
        = [.granted (.desk 2 214) 1000]
    ∧ Met (.decline h4 2 255 0) (shown .persistent 1 s40) [.ok, .ok]
    ∧ ((after (.decline h4 2 255 0) (shown .persistent 1 s40)).router.desks[2]?).map Desk.decidedTotal = some 0 := by
  decide +kernel

theorem test_RecallOfNotices :
    recordOf 40 1 (shown .single 1 s40) = some (rec1 (.pending 1 true))
    ∧ (recallLane .timedOut 4 (shown .single 1 s40)).state.overrides = []
    ∧ (recallLane .recalled 4 (shown .persistent 3 s40)).state.overrides = []
    ∧ (recallLane .deskOff 4 (shown .persistent 2 s40)).state.overrides = [rec1 (.pending 2 false)] := by decide +kernel

theorem test_RecallsAndDuty :
    Met (.noticeTimerExpiry 4) s40 [] ∧ Met (.noticeTimerExpiry 4) (shown .single 1 s40) [.ok, .ok]
    ∧ Met (.deskRecall hFF 256) s40 [.badField]
    ∧ placed (.deskRecall hFF 255) s40 = [replyTo .deskRecall hFF .ok (.byte 0)]
    ∧ Met (.deskRecall hFF 4) (shown .single 1 s40) [.ok, .ok, .ok]
    ∧ Met (.deskDuty hFF 4 1) s40 [.badField] ∧ Met (.deskDuty hFF 3 2) s40 [.badField]
    ∧ placed (.deskDuty hFF 3 0) s40 = [replyTo .deskDuty hFF .ok (.deskDuty false 0)]
    ∧ Met (.deskDuty hFF 3 1) (routed (route4 .persistent none none) 8 (keyed (.pending 0 false) s40)) [.ok, .ok]
    ∧ Met (.deskDuty hFF 2 0) (shown .persistent 1 s40) [.ok, .ok] := by decide +kernel

theorem test_RouteRequests :
    Met (.routeMask h16 0) s40 [.badField] ∧ Met (.routeMask h4 2) s40 [.badField]
    ∧ placed (.routeMask h4 1) s40 = [replyTo .routeMask h4 .ok (.routeMask true false)]
    ∧ placed (.routeMask h4 1) (shown .single 1 s40) = [replyTo .routeMask h4 .ok (.routeMask true true)]
    ∧ Met (.routeMask h4 0)
        (routed { route4 .persistent none none with masked := true } 7 (keyed (.pending 0 false) s40)) [.ok, .ok]
    ∧ Met (.routeSet h4 4 0 0) s40 [.badField] ∧ Met (.routeSet h4 255 2 0) s40 [.badField]
    ∧ Met (.routeSet h4 0 0 256) s40 [.badField] ∧ Met (.routeSet h4 3 1 255) (shown .single 1 s40) [.routeBusy]
    ∧ Met (.routeSet h4 255 1 255) s40 [.ok] ∧ Met (.routeSet h4 3 0 0) s40 [.ok]
    ∧ Met (.routeSet h4 3 0 0) (keyed (.pending 0 false) s40T) [.ok, .ok, .ok]
    ∧ (after (.routeSet h4 3 0 0) (keyed (.pending 0 false) s40T)).overrides = [] := by decide +kernel

theorem test_ReadsReportAndChangeNothing_desk_account :
    Met (.deskStatus hFF 4) s40 [.badField]
    ∧ placed (.deskStatus hFF 2) (shown .single 1 s40) = [replyTo .deskStatus hFF .ok
        (.deskStatus true 1 65535 65535 [{ lane := 4, tag := 255, basket := 40, line := 1, seconds := 0 }])]
    ∧ Met (.accountRead hFF 0) s40 [.badField] ∧ Met (.accountRead hFF 10000000000) s40 [.badField]
    ∧ Met (.accountRead hFF 9999999999) s40 [.notLoaded] ∧ Met (.accountRead hFF 901) s40 [.ok]
    ∧ positionOf 901 s40.accounts.idle = some 0 ∧ Met (.accountRead hFF 900) s40 [.ok] := by decide +kernel

/-! ### Accounts -/

def fullTable : State :=
  s40.withAccounts
    { entries := (List.range 256).map fun k => { acc901 with number := k + 1 }, idle := (List.range 256).map (· + 1) }

theorem test_AccountLoadAndEvict :
    Met (.accountLoad hFF 0 0 0 0) s40 [.badField] ∧ Met (.accountLoad hFF 10000000000 0 0 0) s40 [.badField]
    ∧ Met (.accountLoad hFF 1 5 0 0) s40 [.badField] ∧ Met (.accountLoad hFF 1 4 0 100000000) s40 [.badField]
    ∧ placed (.accountLoad hFF 9999999999 4 1 99999999) s40
        = [replyTo .accountLoad hFF .ok (.accountLoaded true none 99999999 0)]
    ∧ placed (.accountLoad hFF 300 0 0 5) fullTable = [replyTo .accountLoad hFF .ok (.accountLoaded true (some 1) 5 0)]
    ∧ Met (.accountLoad hFF 900 2 3 4)
        (s40.withAccounts { s40.accounts with entries :=
          [{ acc900 with holds := [{ basket := 40, lane := 4, points := 5, timer := 9 }] }] }) [.holdsExceed]
    ∧ Met (.accountLoad hFF 900 2 3 0) s40T [.ok] ∧ Met (.accountLoad hFF 900 2 2 0) s40T [.ok, .ok]
    ∧ Met (.accountEvict hFF 0) s40 [.badField] ∧ Met (.accountEvict hFF 902) s40 [.notLoaded]
    ∧ Met (.accountEvict hFF 900) s40 [.inUse]
    ∧ placed (.accountEvict hFF 901) s40 = [replyTo .accountEvict hFF .ok (.word 50)] := by decide +kernel

theorem test_RedeemRule :
    Met (.redeem h4 40 1) s40 [.planStale] ∧ Met (.redeem h4 40 1) s40W [.evaluating]
    ∧ Met (.redeem h4 40 100000000) s40T [.badField]
    ∧ Met (.redeem h4 40 1) (serving { b40T with account := none }) [.noAccount]
    ∧ Met (.redeem h4 40 8251) s40T [.redeemExceeds]
    ∧ placed (.redeem h4 40 1000) (holding [holdOn 50 1] s40T)
        = [replyTo .redeem h4 .insufficient (.word 999)]
    ∧ placed (.redeem h4 40 999) (holding [holdOn 50 1] s40T)
        = [replyTo .redeem h4 .ok (.redeemed 999 999 600 0)]
    ∧ Met (.redeem h4 40 1) (holding [holdOn 50 1, holdOn 51 1, holdOn 52 1, holdOn 53 1] s40T) [.holdsFull]
    ∧ placed (.redeem h4 40 7) (holding [holdOn 40 1, holdOn 51 1, holdOn 52 1, holdOn 53 1] s40T)
        = [replyTo .redeem h4 .ok (.redeemed 7 7 600 990)]
    ∧ placed (.redeem h4 40 0) (holding [holdOn 40 5] s40T) = [replyTo .redeem h4 .ok (.redeemed 0 0 0 1000)] := by
  decide +kernel

theorem test_HoldsEnd :
    Met (.redeemRelease h4 40) (serving { b40 with account := none }) [.noAccount]
    ∧ placed (.redeemRelease h4 40) s40 = [replyTo .redeemRelease h4 .ok (.word 0)]
    ∧ placed (.redeemRelease h4 40) (holding [holdOn 40 5] s40) = [replyTo .redeemRelease h4 .ok (.word 5)]
    ∧ Met (.holdTimerExpiry 40) s40 []
    ∧ placed (.holdTimerExpiry 40) (holding [holdOn 40 5] s40)
        = [noticeTo .holdLapsed (some 4) (.holdLapsed 40 900 5)] := by decide +kernel

/-! ### The offer store -/

def inStore (c : ControllerState) (slots : OfferArray) (s : State) : State :=
  setStore (fun x => { x with controller := c, slots := slots }) s

/-- A program in flight at slot 511. -/
def programming (c : ControllerState) (job : ProgramJob) (slots : OfferArray) : State :=
  setStore (fun x => { x with program := some { slot := 511, job := job, request := h4 } }) (inStore c slots s40)

theorem test_OfferWriteRule_checks :
    recordOk cut1 = true ∧ recordOk { cut1 with value := 10001 } = false
    ∧ recordOk { cut1 with kind := 2, threshold := 999, stacking := 1 } = true
    ∧ recordOk { cut1 with kind := 3, buy := 20, pay := 19 } = true
    ∧ recordOk { cut1 with kind := 3, buy := 20, pay := 20 } = false
    ∧ recordOk { cut1 with kind := 4, couponKey := 1, form := 0, value := 99999999 } = true
    ∧ recordOk { cut1 with kind := 5, extra := 100 } = true
    ∧ recordOk { cut1 with enables := 1, startDate := { year := 2025, month := 2, day := 29 } } = false
    ∧ recordOk { cut1 with enables := 2, endDate := { year := 2024, month := 2, day := 29 } } = true
    ∧ recordOk { cut1 with enables := 4, weekdays := 0x80 } = false
    ∧ recordOk { cut1 with enables := 8, fromMinute := 1439, toMinute := 0 } = true
    ∧ Met (.offerWrite hFF 512 cut1) s40 [.badField] ∧ Met (.offerWrite hFF 0 cut1) (inStore .fault [] s40) [.storeFault]
    ∧ Met (.offerWrite hFF 0 cut1) (inStore .gathering [] s40) [.storeBusy]
    ∧ Met (.offerWrite hFF 511 cut1)
        (setStore (fun x => { x with condemned := x.condemned.setIfInBounds 7 true }) s40) [.sectorErasing]
    ∧ Met (.offerWrite hFF 0 cut1) (inStore .suspended [(0, .damaged)] s40) [.notBlank]
    ∧ Met (.offerWrite hFF 0 cut1) (inStore .ready [(9, .live cut1 false)] s40) [.duplicateOffer] := by decide +kernel

theorem test_OfferWriteRule_taken :
    Met (.offerWrite hFF 511 cut1) s40 [] ∧ (after (.offerWrite hFF 511 cut1) s40).store.controller = .programming
    ∧ (after (.offerWrite hFF 511 cut1) (inStore .suspended [] s40)).store.controller = .programmingInSuspend
    ∧ Met (.offerProgramCompletion .success) s40 []
    ∧ Met (.offerProgramCompletion .success) (programming .programming (.offer cut1) []) [.ok]
    ∧ (after (.offerProgramCompletion .success) (programming .programming (.offer cut1) [])).store.slots
        = [(511, .live cut1 true)]
    ∧ Met (.offerProgramCompletion .failure) (programming .programming (.offer cut1) []) [.failed]
    ∧ Met (.offerProgramCompletion .failure)
        (setStore (fun x => { x with inProgress := some 7, waiting := x.waiting.setIfInBounds 7 [hFF] })
          (programming .programmingInSuspend (.offer cut1) [])) [.failed, .abandoned]
    ∧ Met (.offerProgramCompletion .failure) (programming .programmingInSuspend (.offer cut1) []) [.failed] := by
  decide +kernel

theorem test_OfferRetireRule :
    Met (.offerRetire hFF 512) s40 [.badField] ∧ Met (.offerRetire hFF 511) (inStore .fault [] s40) [.storeFault]
    ∧ Met (.offerRetire hFF 511) (inStore .erasing [] s40) [.storeBusy]
    ∧ Met (.offerRetire hFF 0) (setStore (fun x => { x with condemned := x.condemned.setIfInBounds 0 true }) s40)
        [.sectorErasing]
    ∧ Met (.offerRetire hFF 0) (inStore .ready [(0, .retired cut1)] s40) [.notLive]
    ∧ Met (.offerRetire hFF 0) (inStore .ready [(0, .live cut1 true)] (serving { b40T with heldOffers := [301] })) [.ok]
    ∧ (after (.offerRetire hFF 0) (inStore .ready [(0, .live cut1 true)] s40)).store.withdrawing = some 0
    ∧ Met (.retireProgramCompletion .success) s40 []
    ∧ (after (.retireProgramCompletion .success)
        (programming .programming .retire [(511, .live cut1 true)])).store.slots = [(511, .retired cut1)]
    ∧ Met (.retireProgramCompletion .failure) (programming .programming .retire [(511, .live cut1 true)]) [.failed]
    ∧ Met (.retireProgramCompletion .failure)
        (setStore (fun x => { x with inProgress := some 0, waiting := x.waiting.setIfInBounds 0 [hFF] })
          (programming .programmingInSuspend .retire [(511, .live cut1 true)])) [.failed, .abandoned] := by
  decide +kernel

theorem test_ReadsReportAndChangeNothing_store :
    Met (.offerRead hFF 512) s40 [.badField]
    ∧ placed (.offerRead hFF 511) (programming .programming (.offer cut1) [])
        = [replyTo .offerRead hFF .ok (.offerRead .erased false false false true none)]
    ∧ placed (.offerRead hFF 0) (inStore .ready [(0, .live cut1 true)] s40)
        = [replyTo .offerRead hFF .ok (.offerRead .live false true false false (some cut1))]
    ∧ placed (.offerRead hFF 0) (inStore .ready [(0, .retired cut1)] s40)
        = [replyTo .offerRead hFF .ok (.offerRead .retired false false false false (some cut1))]
    ∧ placed (.offerRead hFF 0) (inStore .ready [(0, .damaged)] s40)
        = [replyTo .offerRead hFF .ok (.offerRead .damaged false false false false none)]
    ∧ Met (.storeStatus hFF) s40 [.ok] := by decide +kernel

/-- The controller in a state, with waiting requests on sectors 2 and 5 and an erase in progress or none. -/
def erasing (c : ControllerState) (p : Option Nat) : State :=
  setStore (fun x => { x with
    controller := c, inProgress := p, waiting := (x.waiting.setIfInBounds 2 [h4, hFF]).setIfInBounds 5 [hFF]
    slots := [(130, .retired cut1)], gatherTimer := some 3 }) s40

theorem test_SectorEraseRule :
    Met (.sectorErase hFF 8) s40 [.badField] ∧ Met (.sectorErase hFF 7) (inStore .fault [] s40) [.storeFault]
    ∧ Met (.sectorErase hFF 7) (inStore .erasing [] s40) [.storeBusy]
    ∧ Met (.sectorErase hFF 0) (setStore (fun x => { x with
        controller := .gathering, waiting := x.waiting.setIfInBounds 0 [h4, h4, h4, h4] }) s40) [.storeBusy]
    ∧ Met (.sectorErase hFF 0) (inStore .ready [(63, .live cut1 true)] (serving { b40T with heldOffers := [301] })) [.inUse]
    ∧ Met (.sectorErase hFF 1) (inStore .ready [(63, .live cut1 true)] (serving { b40T with heldOffers := [301] })) []
    ∧ (after (.sectorErase hFF 7) s40).store.gatherTimer = some 40
    ∧ Met .gatherTimerExpiry s40 [] ∧ (after .gatherTimerExpiry (erasing .gathering none)).store.inProgress = some 2 := by
  decide +kernel

theorem test_EraseCompletionRule :
    Met (.eraseCompletion .success) s40 [] ∧ Met (.eraseCompletion .success) (erasing .suspended (some 2)) []
    ∧ Met (.eraseCompletion .success) (erasing .erasing (some 2)) [.ok, .ok]
    ∧ (after (.eraseCompletion .success) (erasing .erasing (some 2))).store.inProgress = some 5
    ∧ (after (.eraseCompletion .success) (erasing .erasing (some 2))).store.slots = []
    ∧ (after (.eraseCompletion .success) (after (.eraseCompletion .success) (erasing .erasing (some 2)))).store.controller
        = .ready
    ∧ (after (.eraseCompletion .success) (erasing .suspending (some 2))).store.controller = .suspending
    ∧ Met (.eraseCompletion .failure) (erasing .erasing (some 2)) [.failed, .failed, .abandoned]
    ∧ Met (.eraseCompletion .failure)
        (setStore (fun x => { x with suspend := some h4 }) (erasing .suspending (some 5)))
        [.failed, .abandoned, .abandoned, .storeFault] := by decide +kernel

theorem test_SuspendAndResume :
    Met (.eraseSuspend hFF) (erasing .erasing (some 2)) [] ∧ Met (.eraseSuspend hFF) (erasing .gathering none) [.ok]
    ∧ Met (.eraseSuspend hFF) (erasing .suspended none) [.alreadySuspended] ∧ Met (.eraseSuspend hFF) s40 [.notErasing]
    ∧ Met .suspendCompletion s40 []
    ∧ Met .suspendCompletion (setStore (fun x => { x with suspend := some h4 }) (erasing .suspending (some 2))) [.ok]
    ∧ Met (.eraseResume hFF) (erasing .programmingInSuspend none) [.storeBusy] ∧ Met (.eraseResume hFF) s40 [.notSuspended]
    ∧ (after (.eraseResume hFF) (erasing .suspended (some 5))).store.inProgress = some 5
    ∧ (after (.eraseResume hFF) (erasing .suspended none)).store.inProgress = some 2
    ∧ (after (.eraseResume hFF) (inStore .suspended [] s40)).store.controller = .ready
    ∧ (after (.storeClearFault hFF) (inStore .fault [] s40)).store.controller = .ready
    ∧ (after (.storeClearFault hFF) (inStore .erasing [] s40)).store.controller = .erasing := by decide +kernel

/-! ### Tables and calendar -/

def ranged : State :=
  maint.withTables { maint.tables with
    ranges := [{ first := 10, last := 19, group := 1, concession := true, earn := true },
               { first := 30, last := 30, group := 2, concession := false, earn := true }] }

theorem test_GroupRangeRequests :
    RangesOrdered ranged ∧ Met (.groupRangeAdd hFF 20 29 9 true true) trade [.wrongMode]
    ∧ Met (.groupRangeAdd hFF 20 29 0 true true) ranged [.badField]
    ∧ Met (.groupRangeAdd hFF 29 20 1 true true) ranged [.badField]
    ∧ placed (.groupRangeAdd hFF 19 30 255 true true) ranged = [replyTo .groupRangeAdd hFF .overlap (.word 10)]
    ∧ placed (.groupRangeAdd hFF 20 29 255 true true) ranged = [replyTo .groupRangeAdd hFF .ok (.rangeAdded 1 3)]
    ∧ Met (.groupRangeAdd hFF 999999999 999999999 255 true true) (ranged.withTables { ranged.tables with
        ranges := (List.range 256).map fun k =>
          { first := k + 1, last := k + 1, group := 1, concession := true, earn := true } }) [.tableFull]
    ∧ Met (.groupRangeRemove hFF 30) trade [.wrongMode] ∧ Met (.groupRangeRemove hFF 0) ranged [.badField]
    ∧ Met (.groupRangeRemove hFF 11) ranged [.noRange]
    ∧ placed (.groupRangeRemove hFF 30) ranged
        = [replyTo .groupRangeRemove hFF .ok (.rangeRemoved 30 2 false true 1)]
    ∧ Met (.groupTableClear hFF) trade [.wrongMode]
    ∧ placed (.groupTableClear hFF) ranged = [replyTo .groupTableClear hFF .ok (.half 2)] := by
  unfold RangesOrdered
  decide +kernel

theorem test_MasksRatesLimitsIdentity_masks :
    Met (.maskWrite hFF 32 0 0) s40 [.badField] ∧ Met (.maskWrite hFF 1 0 32) s40 [.badField]
    ∧ Met (.maskWrite hFF 0 0 0) s40 [.readOnly] ∧ Met (.maskWrite hFF 16 0 0) s40 [.readOnly]
    ∧ placed (.maskWrite hFF 15 0xFFFF 31) s40 = [replyTo .maskWrite hFF .ok (.flags 0x7FFF)]
    ∧ Met (.maskWrite hFF 3 0 0) s40T [.ok, .ok] ∧ Met (.maskRead hFF 32) s40 [.badField]
    ∧ placed (.maskRead hFF 21) s40 = [replyTo .maskRead hFF .ok (.maskRead 0xFFDF true 0 0)]
    ∧ placed (.maskRead hFF 3) s40 = [replyTo .maskRead hFF .ok (.maskRead 0xFFFF false 2 1)] := by decide +kernel

theorem test_MasksRatesLimitsIdentity :
    Met (.tierSet hFF 0 1) trade [.wrongMode] ∧ Met (.tierSet hFF 5 1) maint [.badField]
    ∧ Met (.tierSet hFF 4 21) maint [.badField]
    ∧ placed (.tierSet hFF 4 20) maint = [replyTo .tierSet hFF .ok (.rates [1, 1, 2, 3, 20])]
    ∧ Met (.limitsSet hFF 59 0 0 0 0 0 0) s40 [.badField] ∧ Met (.limitsSet hFF 60 600 7 300 500 128 1000) s40 [.ok]
    ∧ Met (.limitsSet hFF 0 0 8 0 0 0 0) s40 [.badField] ∧ Met (.limitsSet hFF 0 0 0 0 0 0 0) s40 [.ok]
    ∧ Met (.storeIdentity hFF 0) State.reset [.badField] ∧ Met (.storeIdentity hFF 65535) State.reset [.ok]
    ∧ placed (.storeIdentity hFF 65535) maint = [replyTo .storeIdentity hFF .alreadySet (.half 7)] := by decide +kernel

theorem test_CalendarRules_requests :
    Met (.calendarSet hFF 2025 2 29 0 0 0) State.reset [.badField]
    ∧ (placed (.calendarSet hFF 2024 2 29 23 59 59) State.reset).map Message.payload
        = [.stamp { year := 2024, month := 2, day := 29, weekday := 4, hour := 23, minute := 59, second := 59 }]
    ∧ Met (.calendarSet hFF 2100 1 1 0 0 0) State.reset [.badField] ∧ Met (.calendarRead hFF) State.reset [.ok]
    ∧ Met (.minuteMark hFF) State.reset [.calendarUnset]
    ∧ (placed (.minuteMark hFF) trade).map Message.payload
        = [.minuteMark { year := 2024, month := 2, day := 29, weekday := 4, hour := 0, minute := 0, second := 0 } 59]
    ∧ (after (.minuteMark hFF) { trade with calendar := { trade.calendar with now := { stamp0 with second := 29 } } }).calendar.now
        = { stamp0 with second := 0 } := by decide +kernel

def lastSecond : Stamp :=
  { year := 2099, month := 12, day := 31, weekday := 4, hour := 23, minute := 59, second := 59 }

theorem test_CalendarRules_seconds :
    Met .secondEvent State.reset [] ∧ Met .secondEvent trade []
    ∧ (after .secondEvent trade).calendar.now
        = { year := 2024, month := 2, day := 29, weekday := 4, hour := 0, minute := 0, second := 0 }
    ∧ (after .secondEvent { trade with calendar := { trade.calendar with now := lastSecond } }).calendar.now = lastSecond
    ∧ (after .secondEvent { trade with calendar := { trade.calendar with now := { stamp0 with second := 58 } } }).calendar.now
        = stamp0
    ∧ nextDay { stamp0 with month := 12, day := 31, weekday := 6 }
        = { stamp0 with year := 2025, month := 1, day := 1, weekday := 0 }
    ∧ lastMinute lastSecond = true ∧ weekdayOf 2099 12 31 = 4
    ∧ windowMatches trade.calendar { cut1 with enables := 8, fromMinute := 1320, toMinute := 120 } = true
    ∧ windowMatches trade.calendar { cut1 with enables := 8, fromMinute := 540, toMinute := 1020 } = false
    ∧ windowMatches trade.calendar { cut1 with enables := 4, weekdays := 0x08 } = true
    ∧ windowMatches Calendar.powerOn { cut1 with enables := 2 } = false := by decide +kernel

/-! ### Evaluation: the worked example of section 5.13 -/

def lineOf (n group quantity price : Nat) (measured open_ : Bool) : Line :=
  { number := n, item := n, group := group, quantity := quantity, price := price, measured := measured
    concession := open_, earn := open_ }

def offer (n kind stacking priority group key threshold value buy pay extra form : Nat) (required : Flags) : OfferRecord :=
  { cut1 with number := n, kind := kind, stacking := stacking, priority := priority, group := group, couponKey := key
              threshold := threshold, value := value, buy := buy, pay := pay, extra := extra, form := form
              required := required }

def b420 : Basket :=
  { b40 with
    number := 420, lane := some 4, generation := 11, account := some 900, coupons := [88001234]
    lines := [lineOf 1 14 24 845 false true, lineOf 2 40 7 650 false true, lineOf 3 22 4 1299 false true,
              lineOf 4 14 1 1236 true true, lineOf 5 60 1 2800 false false]
    nextLine := 6 }

def s420 : State :=
  { serving b40 with
    basketTable := { (serving b40).basketTable with
      lanes := (serving b40).basketTable.lanes.setIfInBounds 4
        { lane4 with maskEntry := 0, active := some 420, laneClass := .tradeCounter }
      baskets := [b420] }
    accounts := { entries := [{ acc900 with flags := 8 }], idle := [] }
    store := OfferStore.powerOn
      [(1, .live (offer 6001 2 0 2 14 0 20 95 0 0 0 0 8) true),
       (2, .live (offer 6002 3 0 3 40 0 0 0 3 2 0 0 0) true),
       (3, .live (offer 6003 1 1 5 22 0 0 500 0 0 0 1 0) true),
       (4, .live (offer 6004 4 0 1 0 88001234 27000 1500 0 0 0 0 0) true),
       (5, .live (offer 6005 5 0 8 40 0 0 0 0 0 5 0 0) true),
       (6, .live (offer 6006 1 0 1 14 0 0 50 0 0 0 0 128) true)] }

def snap420 : Snapshot := snapshotOf b420 s420

theorem test_plan_of_section_5_13 :
    (snap420.candidates.map fun c => c.record.number) = [6004, 6001, 6002, 6003, 6005]
    ∧ (planOf snap420).gross = 34062 ∧ (planOf snap420).lineConcessions = 3836
    ∧ (planOf snap420).overrideReductions = 0 ∧ (planOf snap420).basketConcessions = 1500
    ∧ (planOf snap420).payable = 28726 ∧ (planOf snap420).points = 708
    ∧ ((planOf snap420).lines.map LineEntry.net) = [18000, 3250, 4940, 1236, 2800]
    ∧ ((planOf snap420).used.map fun u => (u.offer, u.applications, u.total))
        = [(6001, 24, 2280), (6002, 2, 1300), (6003, 4, 256), (6004, 1, 1500), (6005, 1, 160)]
    ∧ (planOf snap420).coupons = [88001234] := by decide +kernel

theorem test_SnapshotRule : findBasket 420 s420 = some b420 ∧ b420.lane = some 4
    ∧ snap420.account = some { tier := .tradeB, flags := 8, rate := 2 } ∧ snap420.mask = 0xFFFF#16 := by decide +kernel

/-- The evaluation of basket 420 on unit 3, with a discard mark or not. -/
def evaluating420 (discard : Bool) (b : Basket) : State :=
  { s420 with
    basketTable := { s420.basketTable with baskets := [b] }
    evaluator :=
      { queue := []
        units := (Vector.replicate 4 none).setIfInBounds 3
          (some { basket := 420, snapshot := snap420, discard := discard }) } }

def b420W : Basket := { b420 with state := .totalling, outstanding := some h4 }

theorem test_EvaluationCompletionRule :
    Met (.evaluationCompletion 3) s420 [] ∧ Met (.evaluationCompletion 3) (evaluating420 true b420W) []
    ∧ Met (.evaluationCompletion 3) (evaluating420 false b420W) [.ok]
    ∧ ((findBasket 420 (after (.evaluationCompletion 3) (evaluating420 false b420W))).map Basket.heldOffers)
        = some [6001, 6002, 6003, 6004, 6005]
    ∧ Met (.evaluationCompletion 3) (evaluating420 false { b420W with generation := 12 }) []
    ∧ ((after (.evaluationCompletion 3) (evaluating420 false { b420W with generation := 12 })).evaluator.units[0]?.bind id).map
        RunningUnit.basket = some 420
    ∧ updateHeld (List.range 32) [40] = List.range' 1 31 ++ [40] := by decide +kernel

/-- An event that needs another, waiting block stays due; one that needs none is taken (R179, log 4). -/
theorem test_HeldMessagesAndWaitingBlocks_needs :
    (∀ c ∈ [Instr.calendarSet h4 2024 2 29 0 0 0, .minuteMark h4],
      (after c (queued [c] (heldBy .store trade))).link.due = [c]
      ∧ (after c (queued [c] (heldBy .store trade))).calendar = trade.calendar)
    ∧ after .secondEvent (heldBy .store trade) = dueNow [.secondEvent] (heldBy .store (atPhase 1000 trade))
    ∧ (after (.calendarRead hFF) (heldBy .store trade)).link.held.length = 2
    ∧ after (.evaluationCompletion 3) (heldBy .basketTable (evaluating420 false b420W))
        = dueNow [.evaluationCompletion 3] (heldBy .basketTable (evaluating420 false b420W))
    ∧ basisHolds { basket := 420, snapshot := snap420, discard := false } b420W s420 = true := by decide +kernel

/-- A CALENDAR SET that fell due with the Offer Store while it held a message comes before an OFFER READ that follows once
the store has resumed, and a plan's installation before a LINE ADD (R179). -/
theorem test_HeldMessagesAndWaitingBlocks_resumed :
    (let set := Instr.calendarSet h4 2024 2 29 0 0 0
      let kept := after set (queued [set] (heldBy .store trade))
      let resumed := setLink (fun x => { x with held := [] }) kept
      let read := after (.offerRead hFF 0) resumed
      waits .store kept = true ∧ waits .calendar kept = true ∧ waits .basketTable kept = false
      ∧ waitingBlocks (after .heldMessageJoin kept) = waitingBlocks resumed
      ∧ read.link.due = [set, .offerRead hFF 0] ∧ read.link.transmit = resumed.link.transmit
      ∧ (stepped read).link.due = [.offerRead hFF 0] ∧ (stepped read).calendar.now.year = 2024
      ∧ (stepped (stepped read)).link.due = [] ∧ (stepped (stepped read)).link.requests = [])
    ∧ (after (.lineAdd h4 420 100100 1 5 false true true)
        (dueNow [.evaluationCompletion 3] (evaluating420 false b420W))).link.due
      = [.evaluationCompletion 3, .lineAdd h4 420 100100 1 5 false true true]
    ∧ (after (.laneOpen h4) (dueNow [.calendarRead hFF] trade)).link.due = [.calendarRead hFF] := by decide +kernel

/-- Before any offer: the units of the lines of section 5.13. -/
def work420 : Working := { units := unitsOf snap420, reductions := [], used := [] }

def candidate (r : OfferRecord) : Candidate := { slot := 1, record := r }

/-- What a line offer makes of the units: how often it applied, and the net of a line. -/
abbrev Applied (w : Working) (r : OfferRecord) (kind : OfferKind) (times line net : Nat) : Prop :=
  (applyToUnits w (candidate r) kind).2 = times ∧ unitsNet (applyToUnits w (candidate r) kind).1 line = net

def bulk (threshold : Nat) : OfferRecord := offer 6001 2 0 2 14 0 threshold 95 0 0 0 0 0
def threeForTwo : OfferRecord := offer 6002 3 0 3 40 0 0 0 3 2 0 0 0

theorem test_LineOfferRule :
    work420.units.length = 37 ∧ (work420.units[36]?).map WorkUnit.index = some 36
    ∧ unitReduction (bulk 20) 94 = 94 ∧ unitReduction (offer 6003 1 1 5 22 0 0 500 0 0 0 1 0) 1299 = 64
    ∧ Applied work420 (bulk 24) .quantityBreak 24 1 18000 ∧ Applied work420 (bulk 25) .quantityBreak 0 1 20280
    ∧ Applied work420 { bulk 20 with limit := 3 } .unitCut 3 1 19995
    ∧ Applied work420 { bulk 20 with stacking := 1, limit := 25 } .unitCut 25 4 1141
    ∧ Applied { work420 with units := work420.units.map fun u => { u with net := 0 } } { bulk 20 with stacking := 1 }
        .quantityBreak 0 1 0
    ∧ Applied work420 threeForTwo .multiBuy 2 2 3250 ∧ Applied work420 { threeForTwo with limit := 1 } .multiBuy 1 2 3900
    ∧ (∀ u ∈ work420.units, reaches work420 (bulk 24) .quantityBreak u = decide (u.line = 1)) := by decide +kernel

def priced (net : Nat) : PricedLine := { line := line1, net := net, granted := false }
def basketWork (payable points : Nat) : BasketWork := { payable := payable, points := points, entries := [], used := [] }
def coupon (threshold value : Nat) : Candidate := candidate (offer 6004 4 0 1 0 7 threshold value 0 0 0 0 0)
def boost : Candidate := candidate (offer 6005 5 0 8 3 0 0 0 0 0 5 0 0)

theorem test_PlanFiguresRule_passes :
    takeLineOffer snap420 .unitCut work420 (candidate (offer 6003 1 0 5 99 0 0 500 0 0 0 1 0)) = work420
    ∧ (takeLineOffer snap420 .quantityBreak work420 (candidate (bulk 24))).reductions = [(1, 6001, 2280)]
    ∧ (takeLineOffer snap420 .quantityBreak
        { work420 with used := List.replicate 32 { offer := 1, slot := 1, kind := .unitCut, applications := 1, total := 1 } }
        (candidate (bulk 24))).reductions = []
    ∧ ((linePasses snap420).used.map UsedOffer.offer) = [6001, 6002, 6003]
    ∧ ([true, false].map fun g => (priceLine
        { snap420 with overrides := [{ line := 1, granted := g, price := 3500 }] } work420 line1).net) = [7000, 8000]
    ∧ (priceLine snap420 work420 { line1 with number := 2 }).net = 4550 := by decide +kernel

theorem test_PlanFiguresRule_basket :
    (takeCoupon [priced 8000] (basketWork 8000 0) (coupon 8000 9000)).payable = 0
    ∧ takeCoupon [priced 8000] (basketWork 8000 0) (coupon 8001 9000) = basketWork 8000 0
    ∧ takeCoupon [priced 8000] (basketWork 0 0) (coupon 0 9000) = basketWork 0 0
    ∧ (takeCoupon [priced 8000] { basketWork 8000 0 with
        entries := List.replicate 8 { offer := 1, kind := .basketCoupon, amount := 1 } } (coupon 0 1)).payable = 8000
    ∧ (takeBoost [priced 8000] (basketWork 0 0) boost).points = 400
    ∧ (takeBoost [priced 8000] (basketWork 0 999998) boost).points = 999999
    ∧ takeBoost [priced 8000] (basketWork 0 999999) boost = basketWork 0 999999
    ∧ pointsPass { snap420 with account := none } [priced 8000] (basketWork 0 0) = basketWork 0 0
    ∧ (pointsPass { snap420 with candidates := [] } [priced 8099] (basketWork 0 0)).points = 160 := by decide +kernel

theorem test_PlanIdentity : snap420.sound := by
  unfold Snapshot.sound
  refine ⟨by decide +kernel, ?_⟩
  intro l _ o ho
  have : snap420.overrides = [] := by decide +kernel
  simp [overrideFor, this] at ho

/-! ### Settlement and the journal -/

theorem test_SettleRule :
    InService h4 40 b40T s40T ∧ Met (.settle h4 40 100000000) s40T [.badField] ∧ Met (.settle h4 40 0) s40 [.planStale]
    ∧ Met (.settle h4 40 0) s40W [.evaluating] ∧ Met (.settle h4 40 0) (serving { b40T with lines := [] }) [.empty]
    ∧ placed (.settle h4 40 0) (keyed (.pending 0 false) s40T) = [replyTo .settle h4 .overridePending (.byte 1)]
    ∧ Met (.settle h4 40 5) s40T [.holdLapsed]
    ∧ placed (.settle h4 40 0) (holding [holdOn 40 5] s40T) = [replyTo .settle h4 .redemptionMismatch (.word 5)]
    ∧ Met (.settle h4 40 900) ((holding [holdOn 40 900] s40T).withTables
        { s40.tables with limits := { Limits.powerOn with pointValue := 1000 } }) [.redeemExceeds]
    ∧ Met (.settle h4 40 0) (journalOf 128 s40T) [.journalFull] ∧ Met (.settle h4 40 0) (journalOf 127 s40T) [.ok]
    ∧ Met (.settle h4 40 0) (journalOf 95 s40T) [.ok, .ok] := by decide +kernel

/-- The granted overrides go into the record (R166). -/
theorem test_SettleRule_overrides :
    ((after (.settle h4 40 0) (keyed (.granted (.desk 2 214) 1000) s40T)).settlement.journal.map fun r =>
      match r with
      | .settled x => x.overrides
      | .cancelled _ => [])
      = [[{ line := 1, reason := .quote, price := 3500, reduction := 1000, authority := .desk 2 214 }]] := by
  decide +kernel

/-- R165's figure: at point value 75, 150 points are worth 112 minor units and the balance is charged all 150. -/
theorem test_settle_worked :
    (placed (.settle h4 40 150) ((holding [holdOn 40 150] s40T).withTables
        { s40.tables with limits := { Limits.powerOn with pointValue := 75 } })).map Message.payload
      = [.settled { basket := 40, planSeq := 1, payable := 8250, redeemed := 150, redemptionValue := 112
                    amountDue := 8138, points := 246, balance := some 1096, records := 1 }] := by decide +kernel

def waitingOne (k : Nat) : State :=
  (journalOf k (s40.withBaskets [b40, { b41P with expired := true, parkTimer := none }])).withSettlement
    { (journalOf k s40).settlement with waiting := 1 }

theorem test_JournalAndParkExpiry :
    Met (.parkTimerExpiry 40) s40 [] ∧ Met (.parkTimerExpiry 41) (journalOf 127 s40) [.ok]
    ∧ Met (.parkTimerExpiry 41) (journalOf 128 s40) []
    ∧ (after (.parkTimerExpiry 41) (journalOf 128 s40)).settlement.waiting = 1
    ∧ Met (.journalTake hFF) s40 [.journalEmpty] ∧ Met (.journalTake hFF) (journalOf 1 s40) [.ok]
    ∧ Met (.journalTake hFF) (waitingOne 128) [.ok, .ok]
    ∧ (after (.journalTake hFF) (waitingOne 128)).settlement.journal.length = 128
    ∧ placed (.journalCount hFF) (journalOf 96 s40)
        = [replyTo .journalCount hFF .ok (.journalCount 96 0 96 32 0 96)] := by decide +kernel

theorem test_EventsThatCannotOccur :
    after (.parkTimerExpiry 40) s40 = s40 ∧ after (.holdTimerExpiry 40) s40 = s40 ∧ after (.noticeTimerExpiry 15) s40 = s40
    ∧ after .gatherTimerExpiry s40 = s40 ∧ after (.evaluationCompletion 0) s40 = s40
    ∧ after (.offerProgramCompletion .failure) s40 = s40 ∧ after (.retireProgramCompletion .success) s40 = s40
    ∧ after (.eraseCompletion .failure) s40 = s40 ∧ after .suspendCompletion s40 = s40 := by decide +kernel

/-! ### The relations, at a state with baskets, records, notices and holds -/

theorem test_StepsKeepTablesInForm :
    WithinCapacity s40 ∧ StoreOrdered (erasing .erasing (some 2)) ∧ RangesOrdered ranged ∧ CalendarReal s40
    ∧ OfferArray.wf (erasing .erasing (some 2)).store.slots = true := by
  unfold WithinCapacity StoreOrdered RangesOrdered CalendarReal
  refine ⟨by decide +kernel, ⟨by decide +kernel, ?_, ?_⟩, by decide +kernel, by decide +kernel, by decide +kernel⟩
  · intro p hp
    have : (erasing .erasing (some 2)).store.program = none := rfl
    rw [this] at hp
    cases hp
  · intro k hk
    have : (erasing .erasing (some 2)).store.inProgress = some 2 := rfl
    rw [this] at hk
    cases hk
    decide

/-- What holds of every place of a vector holds of every place a look-up finds. -/
theorem of_getElem? {α : Type} {n : Nat} {P : Nat → α → Prop} (v : Vector α n) (h : ∀ i : Fin n, P i v[i]) (l : Nat)
    (r : α) (hl : v[l]? = some r) : P l r := by
  have hn : l < n := by
    by_cases h : l < n
    · exact h
    · simp [h] at hl
  rw [Vector.getElem?_eq_getElem hn, Option.some.injEq] at hl
  exact hl ▸ h ⟨l, hn⟩

/-- The basket TOTALLING again with its first plan, its line 1 keyed. -/
def b40V : Basket := { b40W with plan := some plan1, planSeq := 1 }

/-- Basket 40 in evaluation on unit 0 with points held and a notice presented, and basket 41 waiting past its park time
for a place in a full journal. -/
def kept : State :=
  shown .persistent 1 (holding [holdOn 40 5]
    { journalOf 128 (serving b40V) with
      basketTable := { (serving b40V).basketTable with baskets := [b40V, { b41P with expired := true, parkTimer := none }] }
      settlement := { (journalOf 128 s40).settlement with waiting := 1 }
      evaluator :=
        { queue := []
          units := (Vector.replicate 4 none).setIfInBounds 0
            (some { basket := 40, snapshot := snapshotOf b40V s40, discard := false }) } })

theorem test_kept_basketsAgree : BasketsAgree kept := by
  unfold BasketsAgree
  refine ⟨?numbers, ?few, ?places, ?eight, ?next, ?range, ?parked, ?listed, ?noLane, ?onLane, fun l r n hl hn => ?active⟩
  case onLane =>
    intro b hb hs
    simp only [show kept.basketTable.baskets = [b40V, { b41P with expired := true, parkTimer := none }] from rfl,
      List.mem_cons, List.not_mem_nil, or_false] at hb
    rcases hb with rfl | rfl
    · exact ⟨4, lane4, rfl, by decide +kernel, rfl⟩
    · exact absurd rfl hs
  case active =>
    have key : ∀ i : Fin 16, ∀ m ∈ kept.basketTable.lanes[i].active,
        ∃ b ∈ kept.basketTable.baskets, b.number = m ∧ b.lane = some i.val := by decide +kernel
    exact of_getElem? (P := fun l r => ∀ m ∈ r.active, ∃ b ∈ kept.basketTable.baskets, b.number = m ∧ b.lane = some l)
      _ key l r hl n hn
  all_goals decide +kernel

theorem test_kept_overridesAgree : OverridesAgree kept := by
  unfold OverridesAgree
  refine ⟨?lines, ?keys, fun r hr => ?record, fun u r hu => ?unit⟩
  case record =>
    simp only [show kept.overrides = [rec1 (.pending 1 true)] from rfl, List.mem_singleton] at hr
    subst hr
    exact ⟨b40V, by decide +kernel, rfl, line1, by decide +kernel, rfl, by decide, by decide, fun _ _ h => by cases h⟩
  case unit =>
    have key : ∀ i : Fin 4, ∀ x ∈ kept.evaluator.units[i], x.snapshot.overrides = []
        ∧ (x.snapshot.lines.map Line.number).Nodup := by decide +kernel
    have := of_getElem? (P := fun _ y => ∀ x ∈ y, x.snapshot.overrides = []
      ∧ (x.snapshot.lines.map Line.number).Nodup) _ key u (some r) hu r rfl
    exact ⟨this.2, fun _ _ o ho => by simp [overrideFor, this.1] at ho⟩
  all_goals decide +kernel

theorem test_StepsKeepAccountsAndDesks :
    BasketsAgree kept ∧ AccountsCovered kept ∧ AccountsAttached kept ∧ DesksAgree kept := by
  refine ⟨test_kept_basketsAgree, ⟨?count, ?numbers, ?idle, fun a => ?refs0, ?covered⟩, ⟨fun b hb a ha => ?loaded, ?refs⟩,
    of_getElem? (P := fun d (k : Desk) => k.openCount = noticesAt d kept ∧ k.openCount ≤ 8) kept.router.desks ?desks⟩
  case refs0 =>
    simp only [show kept.accounts.idle = [901] from rfl,
      show kept.accounts.entries = [{ acc900 with holds := [holdOn 40 5] }, acc901] from rfl, List.mem_cons,
      List.not_mem_nil, or_false, exists_eq_or_imp, exists_eq_left]
    constructor
    · rintro rfl
      exact .inr ⟨rfl, rfl⟩
    · rintro (⟨_, h⟩ | ⟨h, _⟩)
      · exact absurd h (by decide)
      · exact h.symm
  case loaded =>
    have key : ∀ b ∈ kept.basketTable.baskets, ∀ a ∈ b.account, ∃ e ∈ kept.accounts.entries, e.number = a := by
      decide +kernel
    exact key b hb a ha
  all_goals decide +kernel

theorem test_StepsKeepBasketsAgreed : BasketsAgree kept ∧ EvaluationsAgree kept ∧ ExpiredCounted kept := by
  unfold EvaluationsAgree ExpiredCounted
  exact ⟨test_kept_basketsAgree, by decide +kernel, by decide +kernel⟩

theorem test_StepsKeepOverridesAgreed :
    BasketsAgree kept ∧ EvaluationsAgree kept ∧ OverridesAgree kept ∧ PresentationsAgree kept ∧ PlansBalanced kept := by
  refine ⟨test_kept_basketsAgree, test_StepsKeepBasketsAgreed.2.1, test_kept_overridesAgree,
    ⟨fun l q p hq hp => ?routes, fun r hr _ => ?records, fun n => ?eight⟩, ⟨fun b hb => ⟨?total, ?plan⟩, fun u r hu => ?unit⟩⟩
  case routes =>
    have key : ∀ i : Fin 16, ∀ p ∈ kept.router.routes[i].presented,
        (∃ b ∈ kept.basketTable.baskets, b.number = p.basket ∧ b.lane = some i.val)
        ∧ ∃ r ∈ kept.overrides, r.basket = p.basket ∧ r.line = p.line ∧ r.seq = p.seq ∧ isPresented r = true := by
      decide +kernel
    exact of_getElem? (P := fun l q => ∀ p ∈ q.presented,
      (∃ b ∈ kept.basketTable.baskets, b.number = p.basket ∧ b.lane = some l)
      ∧ ∃ r ∈ kept.overrides, r.basket = p.basket ∧ r.line = p.line ∧ r.seq = p.seq ∧ isPresented r = true)
      _ key l q hq p hp
  case records =>
    simp only [show kept.overrides = [rec1 (.pending 1 true)] from rfl, List.mem_singleton] at hr
    subst hr
    exact ⟨b40V, by decide +kernel, rfl, 4, route4 .persistent none (some pres1), pres1, rfl, by decide +kernel, rfl, rfl, rfl⟩
  case eight => exact Nat.le_trans (List.length_filter_le _ _) (by decide)
  case total =>
    have key : ∀ b ∈ kept.basketTable.baskets, linesTotal b.lines ≤ 99999999 := by decide +kernel
    exact key b hb
  case plan =>
    have key : ∀ b ∈ kept.basketTable.baskets, ∀ p ∈ b.plan, p = plan1 := by decide +kernel
    intro p hp
    rw [key b hb p hp]
    exact ⟨rfl, by decide⟩
  case unit =>
    have key : ∀ i : Fin 4, ∀ x ∈ kept.evaluator.units[i], linesTotal x.snapshot.lines ≤ 99999999 := by decide +kernel
    exact of_getElem? (P := fun _ y => ∀ x ∈ y, linesTotal x.snapshot.lines ≤ 99999999) _ key u (some r) hu r rfl

end Sys2Proof.Tests
end

section
/-! Lanes, baskets, coupons, parking, recall and attachment (chapter 1): what each request answers, as one equation per
outcome of its rule, and the obligations on them. -/

namespace Sys2Proof.Machine

/-! ### A request taken at once -/

/-- An unhindered command leaves what its effect leaves and places what its effect sends. -/
theorem takes_of_runOf {c : Instr} {b : Block} {s : State} {e : Effect} (hu : Unhindered c s) (ho : ownerOf c = some b)
    (he : runOf c (leaveQueue c s) = e) : Takes c b s e.state e.sent := by
  rw [Takes, exec_eq_takeEvent s ho, takeEvent_of_unhindered hu ho, he]

theorem takes_of_answer {c : Instr} {b : Block} {s t : State} {k : RequestKind} {h : Header} {st : Status} {p : Payload}
    (hu : Unhindered c s) (ho : ownerOf c = some b) (he : runOf c (leaveQueue c s) = answer k h st p t) :
    Takes c b s t [replyTo k h st p] :=
  takes_of_runOf hu ho he

theorem refuses_of_refuse {c : Instr} {b : Block} {s : State} {k : RequestKind} {h : Header} {st : Status}
    (hu : Unhindered c s) (ho : ownerOf c = some b)
    (he : runOf c (leaveQueue c s) = refuse k h st (leaveQueue c s)) : Refuses c b k h st s :=
  takes_of_runOf hu ho he

/-! ### The header lane -/

theorem laneOf_eq_some {h : Header} (hl : h.lane.toNat < 16) : laneOf h = some h.lane.toNat := if_pos hl

theorem laneOf_eq_none {h : Header} (hl : 16 ≤ h.lane.toNat) : laneOf h = none := if_neg (Nat.not_lt.2 hl)

/-- A header lane with a record is one of the 16. -/
theorem laneOf_of_record {h : Header} {s : State} {r : Lane} (hr : s.basketTable.lanes[h.lane.toNat]? = some r) :
    laneOf h = some h.lane.toNat :=
  laneOf_eq_some (Vector.getElem?_eq_some_iff.1 hr).1

/-- A lane request in MAINTENANCE is refused WRONG_MODE. -/
theorem refuses_wrongMode_of_onLane {c : Instr} {b : Block} {s : State} {k : RequestKind} {h : Header}
    {f : Nat → State → Effect} (hu : Unhindered c s) (ho : ownerOf c = some b) (hrun : runOf c = onLane k h f)
    (hm : s.link.mode = .maintenance) : Refuses c b k h .wrongMode s :=
  refuses_of_refuse hu ho (by simp [hrun, onLane, hm])

/-- A lane request outside MAINTENANCE that names no lane is refused BAD_FIELD. -/
theorem refuses_badField_of_onLane {c : Instr} {b : Block} {s : State} {k : RequestKind} {h : Header}
    {f : Nat → State → Effect} (hu : Unhindered c s) (ho : ownerOf c = some b) (hrun : runOf c = onLane k h f)
    (hm : s.link.mode ≠ .maintenance) (hl : 16 ≤ h.lane.toNat) : Refuses c b k h .badField s :=
  refuses_of_refuse hu ho (by simp [hrun, onLane, hm, laneOf_eq_none hl])

/-! ### Lane records -/

theorem laneActive_of_record {l : Nat} {s : State} {r : Lane} (hr : s.basketTable.lanes[l]? = some r) :
    laneActive l s = r.active := by
  simp [laneActive, hr]

theorem laneState_of_record {l : Nat} {s : State} {r : Lane} (hr : s.basketTable.lanes[l]? = some r) :
    laneState l s = r.state := by
  simp [laneState, hr]

theorem mapLane_of_record {l : Nat} {s : State} {r : Lane} (f : Lane → Lane)
    (hr : s.basketTable.lanes[l]? = some r) :
    mapLane l f s = s.withBasketTable { s.basketTable with lanes := s.basketTable.lanes.setIfInBounds l (f r) } := by
  simp [mapLane, hr]

/-! ### Changes to a basket -/

/-- A request's own change of a basket, counted by R14: one pass over the baskets, R15 after the change itself. -/
theorem ownChange_mapBasket (n : Nat) (f : Basket → Basket) (s : State) (hf : ∀ b, (f b).number = b.number) :
    ownChange n (mapBasket n f s)
      = s.withBaskets (s.basketTable.baskets.map fun y => if y.number = n then (f y).raised else y) := by
  have key : ∀ y : Basket, (if (if y.number = n then f y else y).number = n then
        (if y.number = n then f y else y).raised else if y.number = n then f y else y)
      = if y.number = n then (f y).raised else y := fun y => by
    by_cases hy : y.number = n <;> simp [hy, hf]
  simp only [ownChange, mapBasket, State.basketTable_withBaskets, List.map_map, Function.comp_def, key]
  rfl

/-! ### LANE OPEN, LANE CLOSE and LANE PROFILE (R2, R3) -/

theorem laneOpen_of_record {h : Header} {s : State} {r : Lane} (hm : s.link.mode ≠ .maintenance)
    (hr : s.basketTable.lanes[h.lane.toNat]? = some r) :
    laneOpen h s = answer .laneOpen h .ok .none (s.withBasketTable { s.basketTable with
      lanes := s.basketTable.lanes.setIfInBounds h.lane.toNat { r with state := .opened } }) := by
  rw [laneOpen, onLane_of_lane hm (laneOf_of_record hr), mapLane_of_record _ hr]

theorem laneClose_of_record {h : Header} {s : State} {r : Lane} (hm : s.link.mode ≠ .maintenance)
    (hr : s.basketTable.lanes[h.lane.toNat]? = some r) :
    laneClose h s =
      if r.active = none then answer .laneClose h .ok .none (s.withBasketTable { s.basketTable with
        lanes := s.basketTable.lanes.setIfInBounds h.lane.toNat { r with state := .closed } })
      else refuse .laneClose h .laneBusy s := by
  rw [laneClose, onLane_of_lane hm (laneOf_of_record hr), laneActive_of_record hr, mapLane_of_record _ hr]
  cases r.active <;> rfl

@[simp] theorem laneClassOf_code (lc : LaneClass) : laneClassOf lc.code = some lc := by cases lc <;> rfl

theorem laneClassOf_eq_none_iff : ∀ k : Nat, laneClassOf k = none ↔ 4 ≤ k
  | 0 | 1 | 2 | 3 => by simp [laneClassOf]
  | k + 4 => by simp [laneClassOf]

theorem laneProfile_badField {h : Header} {k m f g : Nat} {s : State} {r : Lane} (hm : s.link.mode ≠ .maintenance)
    (hr : s.basketTable.lanes[h.lane.toNat]? = some r) (hbad : 4 ≤ k ∨ 32 ≤ m ∨ 99999999 < f ∨ 99999999 < g) :
    laneProfile h k m f g s = refuse .laneProfile h .badField s := by
  rw [laneProfile, onLane_of_lane hm (laneOf_of_record hr)]
  cases hk : laneClassOf k with
  | none => rfl
  | some lc =>
    have hlt : ¬ 4 ≤ k := by simp [← laneClassOf_eq_none_iff, hk]
    exact if_pos (hbad.resolve_left hlt)

theorem laneProfile_of_record {h : Header} {k m f g : Nat} {lc : LaneClass} {s : State} {r : Lane}
    (hmode : s.link.mode ≠ .maintenance) (hr : s.basketTable.lanes[h.lane.toNat]? = some r)
    (hk : laneClassOf k = some lc) (hm : m < 32) (hf : f ≤ 99999999) (hg : g ≤ 99999999) :
    laneProfile h k m f g s =
      if r.active = none then answer .laneProfile h .ok .none (s.withBasketTable { s.basketTable with
        lanes := s.basketTable.lanes.setIfInBounds h.lane.toNat
          { r with laneClass := lc, maskEntry := m, floorLimit := f, basketLimit := g } })
      else refuse .laneProfile h .laneBusy s := by
  have hok : ¬ (31 < m ∨ Config.maxMoney < f ∨ Config.maxMoney < g) := by simp only [Config.maxMoney]; omega
  rw [laneProfile, onLane_of_lane hmode (laneOf_of_record hr)]
  simp only [hk, if_neg hok, laneActive_of_record hr, mapLane_of_record _ hr]
  cases r.active <;> rfl

/-- Settles O16: the header checks are those of every lane request; past them each request is one equation on the
lane's record. -/
theorem laneRequests : Obligations.LaneRequests := by
  intro h k m f g s c kind hc hu
  have hrun : ownerOf c = some .basketTable ∧ ∃ rule, runOf c = onLane kind h rule := by
    rcases hc with ⟨rfl, rfl⟩ | ⟨rfl, rfl⟩ | ⟨rfl, rfl⟩ <;> exact ⟨rfl, _, rfl⟩
  obtain ⟨ho, rule, hrule⟩ := hrun
  refine ⟨refuses_wrongMode_of_onLane hu ho hrule, refuses_badField_of_onLane hu ho hrule, fun hmode r hr => ?_⟩
  rcases hc with ⟨rfl, rfl⟩ | ⟨rfl, rfl⟩ | ⟨rfl, rfl⟩
  case inl =>
    exact ⟨fun _ => takes_of_answer hu ho (laneOpen_of_record hmode hr), nofun, nofun, nofun, nofun, nofun⟩
  case inr.inl =>
    have heq := laneClose_of_record (s := leaveQueue (.laneClose h) s) hmode hr
    exact ⟨nofun, fun _ ha => takes_of_answer hu ho (heq.trans (if_pos ha)),
      fun _ ha => refuses_of_refuse hu ho (heq.trans (if_neg ha)), nofun, nofun, nofun⟩
  case inr.inr =>
    refine ⟨nofun, nofun, nofun, fun _ hbad => refuses_of_refuse hu ho (laneProfile_badField hmode hr hbad),
      fun _ hk hm hf hg ha => ?busy, fun lc _ hk hm hf hg ha => ?taken⟩
    case busy =>
      obtain ⟨lc, hlc⟩ : ∃ lc, laneClassOf k = some lc :=
        Option.ne_none_iff_exists'.1 fun hn => Nat.not_le.2 hk ((laneClassOf_eq_none_iff k).1 hn)
      exact refuses_of_refuse hu ho
        ((laneProfile_of_record (s := leaveQueue _ s) hmode hr hlc hm hf hg).trans (if_neg ha))
    case taken =>
      exact takes_of_answer hu ho
        ((laneProfile_of_record (s := leaveQueue _ s) hmode hr (hk ▸ laneClassOf_code lc) hm hf hg).trans (if_pos ha))

/-! ### BASKET OPEN (R7, R8) -/

/-- The numbers of R7 counted on from `n`: they wrap from 65,535 to 1, and from any `n` past the range to 1. -/
theorem numberAfter_eq {j : Nat} (n : Nat) (hj : j < 65535) :
    numberAfter j n =
      if j = 0 then n else if 65535 ≤ n then j else if n + j ≤ 65535 then n + j else n + j - 65535 := by
  induction j generalizing n with
  | zero => rfl
  | succ j ih =>
    rw [numberAfter, ih _ (by omega), if_neg (Nat.succ_ne_zero j)]
    by_cases hn : n < 65535
    · rw [followingNumber, if_pos hn]
      split_ifs <;> omega
    · rw [followingNumber, if_neg hn]
      split_ifs <;> omega

/-- Fewer than 65,535 steps never come back to a number already passed. -/
theorem numberAfter_injOn {i j n : Nat} (hi : i < 65535) (hj : j < 65535) (h : numberAfter i n = numberAfter j n) :
    i = j := by
  rw [numberAfter_eq n hi, numberAfter_eq n hj] at h
  split_ifs at h <;> omega

/-- The search of R7 passes only numbers that baskets hold, and stops early only at one that none holds. -/
theorem freeNumber_search (s : State) (fuel n : Nat) :
    ∃ k ≤ fuel, freeNumber s fuel n = numberAfter k n
      ∧ (∀ j < k, (findBasket (numberAfter j n) s).isSome = true)
      ∧ (k < fuel → findBasket (numberAfter k n) s = none) := by
  induction fuel generalizing n with
  | zero => exact ⟨0, le_rfl, rfl, nofun, nofun⟩
  | succ fuel ih =>
    rw [freeNumber]
    split
    case isTrue hheld =>
      obtain ⟨k, hk, heq, hpassed, hfree⟩ := ih (followingNumber n)
      refine ⟨k + 1, by omega, heq, fun j hj => ?_, fun hlt => hfree (by omega)⟩
      cases j with
      | zero => exact hheld
      | succ j => exact hpassed j (by omega)
    case isFalse hnone =>
      exact ⟨0, by omega, rfl, nofun, fun _ => Option.not_isSome_iff_eq_none.1 hnone⟩

/-- Distinct numbers that baskets hold are no more than the baskets. -/
theorem passed_le_baskets {s : State} {k n : Nat} (hk : k < 65535)
    (hpassed : ∀ j < k, (findBasket (numberAfter j n) s).isSome = true) : k ≤ s.basketTable.baskets.length := by
  have hnodup : ((List.range k).map fun j => numberAfter j n).Nodup :=
    List.Nodup.map_on (fun _ hi _ hj => numberAfter_injOn ((List.mem_range.1 hi).trans hk)
      ((List.mem_range.1 hj).trans hk)) List.nodup_range
  have hsub : ((List.range k).map fun j => numberAfter j n) ⊆ s.basketTable.baskets.map Basket.number := by
    intro m hm
    obtain ⟨j, hj, rfl⟩ := List.mem_map.1 hm
    obtain ⟨b, hb⟩ := Option.isSome_iff_exists.1 (hpassed j (List.mem_range.1 hj))
    exact List.mem_map.2 ⟨b, findBasket_mem hb, findBasket_number hb⟩
  simpa using (hnodup.subperm hsub).length_le

/-- With a context free, 21 numbers are enough for the search of R7. -/
theorem freeNumber_of_room {s : State} (n : Nat) (hroom : s.basketTable.baskets.length < 20) :
    ∃ k ≤ 20, freeNumber s 21 n = numberAfter k n ∧ findBasket (numberAfter k n) s = none
      ∧ ∀ j < k, (findBasket (numberAfter j n) s).isSome = true := by
  obtain ⟨k, hk, heq, hpassed, hfree⟩ := freeNumber_search s 21 n
  have hle : k ≤ s.basketTable.baskets.length := passed_le_baskets (by omega) hpassed
  exact ⟨k, by omega, heq, hfree (by omega), hpassed⟩

/-- BASKET OPEN on a lane with a record, in TRADING: the checks of R8 in order, then the new basket. -/
theorem basketOpen_of_record {h : Header} {s : State} {r : Lane} (hm : s.link.mode = .trading)
    (hr : s.basketTable.lanes[h.lane.toNat]? = some r) :
    basketOpen h s =
      if r.state = .closed then refuse .basketOpen h .laneClosed s
      else if r.active.isSome then refuse .basketOpen h .laneBusy s
      else if 20 ≤ s.basketTable.baskets.length then refuse .basketOpen h .noSlot s
      else answer .basketOpen h .ok (.half (freeNumber s 21 s.basketTable.nextNumber))
        (s.withBasketTable
          { lanes := s.basketTable.lanes.setIfInBounds h.lane.toNat
              { r with active := some (freeNumber s 21 s.basketTable.nextNumber) }
            baskets := s.basketTable.baskets ++ [newBasket (freeNumber s 21 s.basketTable.nextNumber) h.lane.toNat]
            nextNumber := followingNumber (freeNumber s 21 s.basketTable.nextNumber)
            parkList := s.basketTable.parkList }) := by
  rw [basketOpen, if_neg (not_not.2 hm), laneOf_of_record hr]
  simp only [laneState_of_record hr, laneActive_of_record hr]
  rw [mapLane_of_record (r := r)]
  · rfl
  · exact hr

/-- Settles O17: the search for a number ends at a free one because it passes distinct numbers that baskets hold, of
which there are at most 19. -/
theorem basketOpenRule : Obligations.BasketOpenRule := by
  rintro h s c rfl hu
  refine ⟨fun hm => refuses_of_refuse hu rfl (if_pos hm), fun hm hl => refuses_of_refuse hu rfl ?noLane,
    fun hm r hr => ?lane⟩
  case noLane => simp [runOf, basketOpen, hm, laneOf_eq_none hl]
  case lane =>
    have heq := basketOpen_of_record (s := leaveQueue (.basketOpen h) s) hm hr
    refine ⟨fun hc => refuses_of_refuse hu rfl (heq.trans (if_pos hc)),
      fun hopen ha => refuses_of_refuse hu rfl (heq.trans ?busy),
      fun hopen ha hfull => refuses_of_refuse hu rfl (heq.trans ?full), fun hopen ha hroom => ?taken⟩
    case busy => simp [hopen, Option.isSome_iff_ne_none, ha]
    case full => simp [hopen, ha, hfull]
    case taken =>
      obtain ⟨k, hk, hnum, hfree, hpassed⟩ :=
        freeNumber_of_room (s := leaveQueue (.basketOpen h) s) s.basketTable.nextNumber hroom
      refine ⟨k, _, hk, rfl, hfree, hpassed, takes_of_answer hu rfl (heq.trans ?_)⟩
      simp [hopen, ha, Nat.not_le.2 hroom, leaveQueue_basketTable, hnum, newBasket]

/-! ### COUPON PRESENT and COUPON WITHDRAW (R12) -/

/-- COUPON PRESENT in a served basket: the checks of R12 in order, then the key at the tail. -/
theorem couponPresent_of_served {h : Header} {n key l : Nat} {b : Basket} {s : State} (hs : Served h n l b s) :
    couponPresent h n key s =
      if key = 0 then refuse .couponPresent h .badField s
      else if key ∈ b.coupons then refuse .couponPresent h .duplicate s
      else if 8 ≤ b.coupons.length then refuse .couponPresent h .couponsFull s
      else answer .couponPresent h .ok .none (s.withBaskets (s.basketTable.baskets.map fun y =>
        if y.number = n then Basket.raised { y with coupons := y.coupons ++ [key] } else y)) := by
  rw [couponPresent, onServed_of_served hs, ownChange_mapBasket]
  · simp only [List.contains_iff_mem]
    rfl
  · exact fun _ => rfl

/-- COUPON WITHDRAW in a served basket: the key must be on the list, then leaves it. -/
theorem couponWithdraw_of_served {h : Header} {n key l : Nat} {b : Basket} {s : State} (hs : Served h n l b s) :
    couponWithdraw h n key s =
      if key ∈ b.coupons then
        answer .couponWithdraw h .ok .none (s.withBaskets (s.basketTable.baskets.map fun y =>
          if y.number = n then Basket.raised { y with coupons := y.coupons.filter fun x => decide (x ≠ key) } else y))
      else refuse .couponWithdraw h .noCoupon s := by
  rw [couponWithdraw, onServed_of_served hs, ownChange_mapBasket]
  · by_cases hk : key ∈ b.coupons <;> simp [hk]
  · exact fun _ => rfl

/-- Settles O23: the clauses are the branches of the two requests in a served basket. -/
theorem couponRules : Obligations.CouponRules := by
  intro h n key l b s hs
  refine ⟨?present, ?withdraw⟩
  case present =>
    rintro c rfl hu
    have heq := couponPresent_of_served (key := key) (served_leaveQueue (.couponPresent h n key) hs)
    refine ⟨fun hz => refuses_of_refuse hu rfl (heq.trans (if_pos hz)),
      fun hz hdup => refuses_of_refuse hu rfl (heq.trans ?dup),
      fun hz hnew hfull => refuses_of_refuse hu rfl (heq.trans ?full),
      fun hz hnew hroom => takes_of_answer hu rfl (heq.trans ?taken)⟩
    case dup => simp [hz, hdup]
    case full => simp [hz, hnew, hfull]
    case taken => simp [hz, hnew, Nat.not_le.2 hroom]
  case withdraw =>
    rintro c rfl hu
    have heq := couponWithdraw_of_served (key := key) (served_leaveQueue (.couponWithdraw h n key) hs)
    exact ⟨fun hno => refuses_of_refuse hu rfl (heq.trans (if_neg hno)),
      fun hon => takes_of_answer hu rfl (heq.trans (if_pos hon))⟩

/-! ### PARK (R17) -/

theorem any_isPending_basketRecords (n : Nat) (s : State) :
    (basketRecords n s).any isPending = true ↔ ∃ o ∈ s.overrides, o.basket = n ∧ isPending o = true := by
  simp [basketRecords]

/-- PARK in a served basket: the checks of R17 in order, then the basket set aside. -/
theorem park_of_served {h : Header} {n l : Nat} {b : Basket} {r : Lane} {s : State} (hs : Served h n l b s)
    (hr : s.basketTable.lanes[l]? = some r) :
    park h n s =
      if b.state = .totalling then refuse .park h .evaluating s
      else if (basketRecords n s).any isPending then refuse .park h .overridePending s
      else if (basketHold b s).isSome then refuse .park h .holdActive s
      else if 8 ≤ s.basketTable.parkList.length then refuse .park h .parkFull s
      else answer .park h .ok .none (s.withBasketTable { s.basketTable with
        lanes := s.basketTable.lanes.setIfInBounds l { r with active := none }
        baskets := s.basketTable.baskets.map fun y =>
          if y.number = n then parkBasket s.calendar.now (1000 * s.tables.limits.parkLifetime) y else y
        parkList := s.basketTable.parkList ++ [n] }) := by
  rw [park, onServed_of_served hs, mapLane_of_record (r := r)]
  · rfl
  · exact hr

/-- Settles O26: the clauses are the branches of PARK in a served basket. -/
theorem parkRule : Obligations.ParkRule := by
  rintro h n l b r s c rfl hu hs hr
  have heq := park_of_served (served_leaveQueue (.park h n) hs) hr
  have hnot (hno : ∀ o ∈ s.overrides, o.basket = n → isPending o = false) :
      ¬ (basketRecords n s).any isPending = true := fun hp => by
    obtain ⟨o, ho, hn, hpend⟩ := (any_isPending_basketRecords n s).1 hp
    simp [hno o ho hn] at hpend
  refine ⟨fun ht => refuses_of_refuse hu rfl (heq.trans (if_pos ht)),
    fun ht hp => refuses_of_refuse hu rfl (heq.trans ?pending),
    fun ht hno hh => refuses_of_refuse hu rfl (heq.trans ?hold),
    fun ht hno hh => ⟨fun hfull => refuses_of_refuse hu rfl (heq.trans ?full),
      fun hroom => takes_of_answer hu rfl (heq.trans ?taken)⟩⟩
  case pending => exact (if_neg ht).trans (if_pos ((any_isPending_basketRecords n s).2 hp))
  case hold => exact (if_neg ht).trans ((if_neg (hnot hno)).trans (if_pos (Option.isSome_iff_ne_none.2 hh)))
  all_goals
    have hfree : ¬ (basketHold b s).isSome = true := Option.not_isSome_iff_eq_none.2 hh
    refine (if_neg ht).trans ((if_neg (hnot hno)).trans ((if_neg hfree).trans ?_))
  case full => exact if_pos hfull
  case taken => exact if_neg (Nat.not_le.2 hroom)

/-! ### RECALL (R20) -/

/-- RECALL on a lane with a record: the checks of R20 in order up to the park list. -/
theorem recallRequest_refused {h : Header} {n : Nat} {s : State} {r : Lane} (hm : s.link.mode ≠ .maintenance)
    (hr : s.basketTable.lanes[h.lane.toNat]? = some r) {st : Status}
    (hst : r.state = .closed ∧ st = .laneClosed
      ∨ r.state = .opened ∧ r.active ≠ none ∧ st = .laneBusy
      ∨ r.state = .opened ∧ r.active = none ∧ n ∉ s.basketTable.parkList ∧ st = .notParked) :
    recallRequest h n s = refuse .basketRecall h st s := by
  rw [recallRequest, onLane_of_lane hm (laneOf_of_record hr), laneState_of_record hr, laneActive_of_record hr]
  rcases hst with ⟨hc, rfl⟩ | ⟨hopen, ha, rfl⟩ | ⟨hopen, ha, hn, rfl⟩
  · rw [if_pos hc]
  · simp [hopen, Option.isSome_iff_ne_none, ha]
  · simp [hopen, ha, hn]

/-- RECALL of a parked basket on an open lane without one. -/
theorem recallRequest_taken {h : Header} {n : Nat} {s : State} {r : Lane} {b : Basket}
    (hm : s.link.mode ≠ .maintenance) (hr : s.basketTable.lanes[h.lane.toNat]? = some r) (hopen : r.state = .opened)
    (ha : r.active = none) (hn : n ∈ s.basketTable.parkList) (hb : findBasket n s = some b) :
    recallRequest h n s = answer .basketRecall h .ok (.recalled n (b.generation + 1))
      ((s.withBasketTable { s.basketTable with
        lanes := s.basketTable.lanes.setIfInBounds h.lane.toNat { r with active := some n }
        baskets := s.basketTable.baskets.map fun y => if y.number = n then recallBasket h.lane.toNat y else y
        parkList := s.basketTable.parkList.filter fun m => decide (m ≠ n) }).withSettlement
        { s.settlement with
          waiting := if b.expired then s.settlement.waiting - 1 else s.settlement.waiting }) := by
  have hclosed : ¬ r.state = .closed := by simp [hopen]
  have hbusy : ¬ r.active.isSome = true := by simp [ha]
  have habsent : ¬ (!s.basketTable.parkList.contains n) = true := by simp [hn]
  rw [recallRequest, onLane_of_lane hm (laneOf_of_record hr), laneState_of_record hr, laneActive_of_record hr,
    if_neg hclosed, if_neg hbusy, if_neg habsent]
  simp only [hb]
  rw [mapLane_of_record (r := r)]
  · cases b.expired <;> rfl
  · exact hr

/-- Settles O27: the header checks are those of every lane request; past them RECALL's own equations. -/
theorem recallRule : Obligations.RecallRule := by
  rintro h n s c rfl hu
  refine ⟨refuses_wrongMode_of_onLane hu rfl rfl, refuses_badField_of_onLane hu rfl rfl, fun hm r hr => ?_⟩
  have refused {st : Status} := fun hst =>
    refuses_of_refuse hu rfl (recallRequest_refused (st := st) (s := leaveQueue (.basketRecall h n) s) hm hr hst)
  exact ⟨fun hc => refused (.inl ⟨hc, rfl⟩), fun hopen ha => refused (.inr (.inl ⟨hopen, ha, rfl⟩)),
    fun hopen ha hn => refused (.inr (.inr ⟨hopen, ha, hn, rfl⟩)),
    fun b hopen ha hn hb => takes_of_answer hu rfl (recallRequest_taken hm hr hopen ha hn hb)⟩

/-! ### ACCOUNT ATTACH and ACCOUNT DETACH (R13, R150) -/

theorem addReference_of_entry {a : Nat} {s : State} {e : Account} (he : findAccount a s = some e) :
    addReference a s = s.withAccounts
      { entries := s.accounts.entries.map fun x => if x.number = a then { x with refs := x.refs + 1 } else x
        idle := if e.refs = 0 then s.accounts.idle.filter fun x => decide (x ≠ a) else s.accounts.idle } := by
  simp only [addReference, he]
  split <;> rfl

theorem dropReference_of_entry {a : Nat} {s : State} {e : Account} (he : findAccount a s = some e) :
    dropReference a s = s.withAccounts
      { entries := s.accounts.entries.map fun x => if x.number = a then { x with refs := x.refs - 1 } else x
        idle := if e.refs = 1 then s.accounts.idle ++ [a] else s.accounts.idle } := by
  simp only [dropReference, he]
  split <;> rfl

/-- ACCOUNT ATTACH in a served basket, refused: an account is attached already, or the number is not in the table. -/
theorem accountAttach_refused {h : Header} {n a l : Nat} {b : Basket} {s : State} (hs : Served h n l b s) {st : Status}
    (hst : b.account ≠ none ∧ st = .accountAttached
      ∨ b.account = none ∧ findAccount a s = none ∧ st = .notLoaded) :
    accountAttach h n a s = refuse .accountAttach h st s := by
  rw [accountAttach, onServed_of_served hs]
  rcases hst with ⟨hb, rfl⟩ | ⟨hb, he, rfl⟩
  · exact if_pos (Option.isSome_iff_ne_none.2 hb)
  · simp [hb, he]

/-- ACCOUNT ATTACH of a loaded account in a served basket without one. -/
theorem accountAttach_taken {h : Header} {n a l : Nat} {b : Basket} {s : State} {e : Account} (hs : Served h n l b s)
    (hb : b.account = none) (he : findAccount a s = some e) :
    accountAttach h n a s = answer .accountAttach h .ok .none
      ((s.withBaskets (s.basketTable.baskets.map fun y =>
        if y.number = n then Basket.raised { y with account := some a } else y)).withAccounts
        { entries := s.accounts.entries.map fun x => if x.number = a then { x with refs := x.refs + 1 } else x
          idle := if e.refs = 0 then s.accounts.idle.filter fun x => decide (x ≠ a) else s.accounts.idle }) := by
  rw [accountAttach, onServed_of_served hs, ownChange_mapBasket, addReference_of_entry he]
  · simp only [hb, he]
    rfl
  · exact fun _ => rfl

/-- ACCOUNT DETACH in a served basket, refused: no account is attached, or the basket has a hold on it. -/
theorem accountDetach_refused {h : Header} {n l : Nat} {b : Basket} {s : State} (hs : Served h n l b s) {st : Status}
    (hst : b.account = none ∧ st = .noAccount
      ∨ b.account ≠ none ∧ basketHold b s ≠ none ∧ st = .holdActive) :
    accountDetach h n s = refuse .accountDetach h st s := by
  rw [accountDetach, onServed_of_served hs]
  rcases hst with ⟨hb, rfl⟩ | ⟨hb, hh, rfl⟩
  · simp [hb]
  · obtain ⟨a, ha⟩ := Option.ne_none_iff_exists'.1 hb
    simp [ha, Option.isSome_iff_ne_none, hh]

/-- ACCOUNT DETACH in a served basket whose account bears no hold of it. -/
theorem accountDetach_taken {h : Header} {n a l : Nat} {b : Basket} {s : State} {e : Account} (hs : Served h n l b s)
    (hb : b.account = some a) (he : findAccount a s = some e) (hh : basketHold b s = none) :
    accountDetach h n s = answer .accountDetach h .ok .none
      ((s.withBaskets (s.basketTable.baskets.map fun y =>
        if y.number = n then Basket.raised { y with account := none } else y)).withAccounts
        { entries := s.accounts.entries.map fun x => if x.number = a then { x with refs := x.refs - 1 } else x
          idle := if e.refs = 1 then s.accounts.idle ++ [a] else s.accounts.idle }) := by
  rw [accountDetach, onServed_of_served hs]
  simp only [hb, hh]
  rw [ownChange_mapBasket, dropReference_of_entry he]
  · rfl
  · exact fun _ => rfl

/-- Settles O28: the clauses are the outcomes of the two requests in a served basket. -/
theorem attachAndDetach : Obligations.AttachAndDetach := by
  intro h n a l b s hs
  refine ⟨?attach, ?detach⟩
  case attach =>
    rintro c rfl hu
    have hq := served_leaveQueue (.accountAttach h n a) hs
    exact ⟨fun hb => refuses_of_refuse hu rfl (accountAttach_refused hq (.inl ⟨hb, rfl⟩)),
      fun hb he => refuses_of_refuse hu rfl (accountAttach_refused hq (.inr ⟨hb, he, rfl⟩)),
      fun e hb he => takes_of_answer hu rfl (accountAttach_taken hq hb he)⟩
  case detach =>
    rintro c rfl hu
    have hq := served_leaveQueue (.accountDetach h n) hs
    exact ⟨fun hb => refuses_of_refuse hu rfl (accountDetach_refused hq (.inl ⟨hb, rfl⟩)),
      fun hb hh => refuses_of_refuse hu rfl (accountDetach_refused hq (.inr ⟨hb, hh, rfl⟩)),
      fun e hb he hh => takes_of_answer hu rfl (accountDetach_taken hq hb he hh)⟩

end Sys2Proof.Machine
end

section
/-! The offer store's reads and its suspension (chapter 2), and the reads of a desk and of an account: what each request
answers, as one equation per outcome of its rule, and the obligations on them. -/

namespace Sys2Proof.Machine

/-! ### The erase set (R35 to R37, R43) -/

theorem waitingOf_of_list {st : OfferStore} {k : Nat} {ws : List Header} (hk : st.waiting[k]? = some ws) :
    waitingOf st k = ws := by
  simp [waitingOf, hk]

/-- The set is empty when no sector has a waiting request. -/
theorem eraseSet_eq_nil {st : OfferStore} (hall : ∀ i < 8, st.waiting[i]? = some []) : eraseSet st = [] := by
  refine List.filter_eq_nil_iff.2 fun i hi => ?_
  simp [waitingOf_of_list (hall i (List.mem_range.1 hi))]

/-- The lowest sector with a waiting request heads the set. -/
theorem eraseSet_eq_cons {st : OfferStore} {j : Nat} {ws : List Header} (hj : st.waiting[j]? = some ws) (hws : ws ≠ [])
    (hbelow : ∀ i < j, st.waiting[i]? = some []) : ∃ ks, eraseSet st = j :: ks := by
  have hlt : j < 8 := (Vector.getElem?_eq_some_iff.1 hj).1
  refine List.head?_eq_some_iff.1 ?_
  rw [eraseSet, List.head?_filter, List.find?_range_eq_some]
  refine ⟨?waits, List.mem_range.2 hlt, fun i hi => ?lower⟩
  case waits => simp [waitingOf_of_list hj, hws]
  case lower => simp [waitingOf_of_list (hbelow i hi)]

theorem beginErase_of_empty {st : OfferStore} (hall : ∀ i < 8, st.waiting[i]? = some []) :
    beginErase st = { st with controller := .ready, inProgress := none } := by
  simp [beginErase, eraseSet_eq_nil hall]

theorem beginErase_of_lowest {st : OfferStore} {j : Nat} {ws : List Header} (hj : st.waiting[j]? = some ws)
    (hws : ws ≠ []) (hbelow : ∀ i < j, st.waiting[i]? = some []) :
    beginErase st = { st with controller := .erasing, inProgress := some j } := by
  obtain ⟨ks, hset⟩ := eraseSet_eq_cons hj hws hbelow
  simp [beginErase, hset]

/-! ### ERASE SUSPEND and the suspend's completion (R39, R40) -/

theorem eraseSuspend_of_erasing {h : Header} {s : State} (hc : s.store.controller = .erasing) :
    eraseSuspend h s = nothing (s.withStore { s.store with controller := .suspending, suspend := some h }) := by
  simp [eraseSuspend, hc]

theorem eraseSuspend_of_gathering {h : Header} {s : State} (hc : s.store.controller = .gathering) :
    eraseSuspend h s = answer .eraseSuspend h .ok .none
      (s.withStore { s.store with controller := .suspended, gatherTimer := none, inProgress := none }) := by
  simp [eraseSuspend, hc]

theorem eraseSuspend_alreadySuspended {h : Header} {s : State} (hc : s.store.controller = .suspending
      ∨ s.store.controller = .suspended ∨ s.store.controller = .programmingInSuspend) :
    eraseSuspend h s = refuse .eraseSuspend h .alreadySuspended s := by
  rcases hc with hc | hc | hc <;> simp [eraseSuspend, hc]

theorem eraseSuspend_notErasing {h : Header} {s : State} (hc : s.store.controller = .ready
      ∨ s.store.controller = .programming ∨ s.store.controller = .fault) :
    eraseSuspend h s = refuse .eraseSuspend h .notErasing s := by
  rcases hc with hc | hc | hc <;> simp [eraseSuspend, hc]

/-- The completion answers the ERASE SUSPEND that started the suspend, not the latest one. -/
theorem suspendCompletion_of_suspending {g : Header} {s : State} (hc : s.store.controller = .suspending)
    (hg : s.store.suspend = some g) :
    suspendCompletion s = answer .eraseSuspend g .ok .none
      (s.withStore { s.store with controller := .suspended, suspend := none }) := by
  simp [suspendCompletion, hc, hg]

/-! ### ERASE RESUME and STORE CLEAR FAULT (R43, R44) -/

theorem eraseResume_of_suspended {h : Header} {s : State} {st : OfferStore} (hc : s.store.controller = .suspended)
    (hst : resumed s.store = st) : eraseResume h s = answer .eraseResume h .ok .none (s.withStore st) := by
  simp [eraseResume, hc, hst]

theorem eraseResume_storeBusy {h : Header} {s : State} (hc : s.store.controller = .programmingInSuspend) :
    eraseResume h s = refuse .eraseResume h .storeBusy s := by
  simp [eraseResume, hc]

theorem eraseResume_notSuspended {h : Header} {s : State} (hp : s.store.controller ≠ .programmingInSuspend)
    (hs : s.store.controller ≠ .suspended) : eraseResume h s = refuse .eraseResume h .notSuspended s := by
  rw [eraseResume, if_neg hs, if_neg hp]

theorem resumed_of_sector {st : OfferStore} {k : Nat} (hk : st.inProgress = some k) :
    resumed st = { st with controller := .erasing } := by
  simp [resumed, hk]

theorem resumed_of_none {st : OfferStore} (hn : st.inProgress = none) : resumed st = beginErase st := by
  simp [resumed, hn]

/-- Outside FAULT the controller is set to the state it is in. -/
theorem storeClearFault_eq (h : Header) (s : State) :
    storeClearFault h s = answer .storeClearFault h .ok .none (s.withStore { s.store with
      controller := if s.store.controller = .fault then .ready else s.store.controller }) := by
  rw [storeClearFault]
  split <;> rfl

/-- Settles O45: each clause is one outcome of its request by the controller's state; where erasure resumes with no
sector in progress, the lowest sector with a waiting request heads the erase set. -/
theorem suspendAndResume : Obligations.SuspendAndResume := by
  rintro h s _ rfl
  refine ⟨?suspend, ?completion, ?resume, ?clear⟩
  case suspend =>
    rintro c rfl hu
    exact ⟨fun hc => takes_of_runOf hu rfl (eraseSuspend_of_erasing hc),
      fun hc => takes_of_answer hu rfl (eraseSuspend_of_gathering hc),
      fun hc => refuses_of_refuse hu rfl (eraseSuspend_alreadySuspended hc),
      fun hc => refuses_of_refuse hu rfl (eraseSuspend_notErasing hc)⟩
  case completion =>
    rintro c rfl hu g hc hg
    exact takes_of_answer hu rfl (suspendCompletion_of_suspending hc hg)
  case resume =>
    rintro c rfl hu
    refine ⟨fun hc => refuses_of_refuse hu rfl (eraseResume_storeBusy hc),
      fun hp hs => refuses_of_refuse hu rfl (eraseResume_notSuspended hp hs),
      fun k hc hk => takes_of_answer hu rfl (eraseResume_of_suspended hc (resumed_of_sector hk)),
      fun j ws hc hn hj hws hbelow => takes_of_answer hu rfl (eraseResume_of_suspended hc ?lowest),
      fun hc hn hall => takes_of_answer hu rfl (eraseResume_of_suspended hc ?empty)⟩
    case lowest => exact (resumed_of_none hn).trans (beginErase_of_lowest hj hws hbelow)
    case empty => exact (resumed_of_none hn).trans ((beginErase_of_empty hall).trans (by rw [← hn]))
  case clear =>
    rintro c rfl hu
    exact takes_of_answer hu rfl (storeClearFault_eq h (leaveQueue (.storeClearFault h) s))

/-! ### DESK STATUS (R141) -/

theorem deskStatus_of_desk {h : Header} {desk : Nat} {s : State} {k : Desk} (hk : s.router.desks[desk]? = some k) :
    deskStatus h desk s = answer .deskStatus h .ok
      (.deskStatus k.onDuty k.openCount k.presentedTotal k.decidedTotal (deskPlaces desk s)) s := by
  simp [deskStatus, hk]

theorem deskStatus_badField {h : Header} {desk : Nat} {s : State} (hd : 4 ≤ desk) :
    deskStatus h desk s = refuse .deskStatus h .badField s := by
  simp [deskStatus, Vector.getElem?_eq_none hd]

/-- The notices presented to a desk, read off the routes lane by lane. -/
theorem deskPlaces_eq_flatMap {desk : Nat} {s : State} {f : Nat → List DeskNoticePlace}
    (hnone : ∀ l, s.router.routes[l]? = none → f l = [])
    (hidle : ∀ l q, s.router.routes[l]? = some q → q.presented = none → f l = [])
    (hshown : ∀ l q p, s.router.routes[l]? = some q → q.presented = some p → f l =
      if p.desk = desk then
        [{ lane := l, tag := q.tag, basket := p.basket, line := p.line, seconds := p.timer / 1000 }]
      else []) : deskPlaces desk s = (List.range 16).flatMap f := by
  rw [deskPlaces, List.filterMap_eq_flatMap_toList]
  refine List.flatMap_congr fun l _ => ?_
  cases hq : s.router.routes[l]? with
  | none => simp [presentationOf, hq, hnone l hq]
  | some q =>
    cases hp : q.presented with
    | none => simp [presentationOf, hq, hp, hidle l q hq hp]
    | some p =>
      rw [hshown l q p hq hp]
      by_cases hd : p.desk = desk <;> simp [presentationOf, routeTag, wholeSeconds, hq, hp, hd]

/-! ### ACCOUNT READ (R149) -/

theorem positionOf_eq_none {a : Nat} {xs : List Nat} (ha : a ∉ xs) : positionOf a xs = none := by
  induction xs with
  | nil => rfl
  | cons x rest ih =>
    obtain ⟨hx, hrest⟩ := List.ne_and_not_mem_of_not_mem_cons ha
    simp [positionOf, Ne.symm hx, ih hrest]

/-- The place of a number is its first one. -/
theorem positionOf_eq_some {a k : Nat} {xs : List Nat} (hk : xs[k]? = some a) (hfirst : ∀ j < k, xs[j]? ≠ some a) :
    positionOf a xs = some k := by
  induction xs generalizing k with
  | nil => simp at hk
  | cons x rest ih =>
    cases k with
    | zero =>
      have hx : x = a := by simpa using hk
      simp [positionOf, hx]
    | succ k =>
      have hx : x ≠ a := by simpa using hfirst 0 (Nat.succ_pos k)
      have hrest : positionOf a rest = some k :=
        ih (by simpa using hk) fun j hj => by simpa using hfirst (j + 1) (Nat.succ_lt_succ hj)
      simp [positionOf, hx, hrest]

theorem inRange_iff {lo hi n : Nat} : inRange lo hi n = true ↔ lo ≤ n ∧ n ≤ hi := by
  simp [inRange]

theorem accountRead_badField {h : Header} {a : Nat} {s : State} (ha : a = 0 ∨ 9999999999 < a) :
    accountRead h a s = refuse .accountRead h .badField s := by
  have hout : ¬ inRange 1 9999999999 a = true := by rw [inRange_iff]; omega
  simp [accountRead, hout]

theorem accountRead_notLoaded {h : Header} {a : Nat} {s : State} (hlo : 1 ≤ a) (hhi : a ≤ 9999999999)
    (he : findAccount a s = none) : accountRead h a s = refuse .accountRead h .notLoaded s := by
  simp [accountRead, inRange_iff.2 ⟨hlo, hhi⟩, he]

theorem accountRead_of_entry {h : Header} {a : Nat} {s : State} {e : Account} (hlo : 1 ≤ a) (hhi : a ≤ 9999999999)
    (he : findAccount a s = some e) :
    accountRead h a s = answer .accountRead h .ok (.accountRead
      { account := e, heldTotal := heldTotal e, available := availablePoints e
        idlePosition := positionOf a s.accounts.idle
        entries := s.accounts.entries.length, idleEntries := s.accounts.idle.length
        holds := e.holds.map fun x =>
          { basket := x.basket, lane := x.lane, points := x.points, seconds := wholeSeconds x.timer } }) s := by
  simp [accountRead, inRange_iff.2 ⟨hlo, hhi⟩, he]

/-! ### OFFER READ and STORE STATUS (R33, R45) -/

theorem offerRead_badField {h : Header} {slot : Nat} {s : State} (hs : 512 ≤ slot) :
    offerRead h slot s = refuse .offerRead h .badField s :=
  if_pos (by omega)

theorem isCondemned_of_mark {st : OfferStore} {slot : Nat} {mark : Bool} (hm : st.condemned[slot / 64]? = some mark) :
    isCondemned st (sectorOf slot) = mark := by
  simp [isCondemned, sectorOf, hm]

/-- OFFER READ of a slot: what the slot's content, its sector's mark and the store's two marks say. -/
theorem offerRead_of_slot {h : Header} {slot : Nat} {s : State} {mark : Bool} (hs : slot < 512)
    (hm : s.store.condemned[slot / 64]? = some mark) :
    offerRead h slot s = answer .offerRead h .ok
      (.offerRead (slotState (OfferArray.read s.store.slots slot)) (decide (s.store.withdrawing = some slot))
        ((OfferArray.read s.store.slots slot).any isActive) mark
        (decide (s.store.program.map Program.slot = some slot))
        (slotRecord (OfferArray.read s.store.slots slot))) s := by
  have hin : ¬ 511 < slot := by omega
  rw [offerRead, if_neg hin, isCondemned_of_mark hm]
  rcases OfferArray.read s.store.slots slot with _ | ⟨r, a⟩ | r | _ <;> rfl

/-- The waiting counts of STORE STATUS are those of the eight lists. -/
theorem waitingCounts (st : OfferStore) :
    ((List.range 8).map fun k => (waitingOf st k).length) = st.waiting.toList.map List.length := by
  refine List.ext_getElem (by simp) fun k hk _ => ?_
  have hlt : k < 8 := by simpa using hk
  simp [waitingOf, hlt]

/-- Settles O37: each read answers from its block as it stands. -/
theorem readsReportAndChangeNothing : Obligations.ReadsReportAndChangeNothing := by
  intro h desk a slot s
  refine ⟨?desk, ?account, ?offer, ?store⟩
  case desk =>
    rintro c rfl hu
    refine ⟨fun hd => refuses_of_refuse hu rfl (deskStatus_badField hd), fun k hk => ?_⟩
    rw [← deskPlaces_eq_flatMap (desk := desk) (s := s)]
    · exact takes_of_answer hu rfl (deskStatus_of_desk hk)
    case hnone => intro l hq; simp [hq]
    case hidle => intro l q hq hp; simp [hq, hp]
    case hshown => intro l q p hq hp; simp [hq, hp]
  case account =>
    rintro c rfl hu
    refine ⟨fun ha => refuses_of_refuse hu rfl (accountRead_badField ha),
      fun hlo hhi he => refuses_of_refuse hu rfl (accountRead_notLoaded hlo hhi he), ?_⟩
    rintro e ⟨account, total, available, place, entries, idleEntries, holds⟩ hlo hhi he hout hin haccount htotal
      havailable hentries hidle hholds
    dsimp only at hout hin haccount htotal havailable hentries hidle hholds
    have hplace : positionOf a s.accounts.idle = place := by
      by_cases ha : a ∈ s.accounts.idle
      · obtain ⟨k, rfl, hk, hfirst⟩ := hin ha
        exact positionOf_eq_some hk hfirst
      · exact (positionOf_eq_none ha).trans (hout ha).symm
    subst haccount htotal havailable hplace hentries hidle hholds
    exact takes_of_answer hu rfl (accountRead_of_entry hlo hhi he)
  case offer =>
    rintro c rfl hu
    refine ⟨fun hs => refuses_of_refuse hu rfl (offerRead_badField hs), fun mark state active record hs hm hc => ?_⟩
    have heq := offerRead_of_slot (h := h) (s := leaveQueue (.offerRead h slot) s) hs hm
    have hcontent : slotState (OfferArray.read s.store.slots slot) = state
        ∧ (OfferArray.read s.store.slots slot).any isActive = active
        ∧ slotRecord (OfferArray.read s.store.slots slot) = record := by
      rcases hc with ⟨hc, rfl, rfl, rfl⟩ | ⟨r, m, hc, rfl, rfl, rfl⟩ | ⟨r, hc, rfl, rfl, rfl⟩ | ⟨hc, rfl, rfl, rfl⟩
      all_goals rw [hc]; exact ⟨rfl, rfl, rfl⟩
    obtain ⟨rfl, rfl, rfl⟩ := hcontent
    exact takes_of_answer hu rfl heq
  case store =>
    rintro c rfl hu
    rw [← waitingCounts]
    exact takes_of_answer hu rfl rfl

end Sys2Proof.Machine
end

section
/-! Item group ranges, entitlement masks, tier rates, engine limits and the store identity (chapter 3): what each request
answers, as one equation per outcome of its rule, and the obligations on them. -/

namespace Sys2Proof.Machine

/-! ### Requests of MAINTENANCE -/

theorem inMaintenance_of_maintenance {k : RequestKind} {h : Header} {f : State → Effect} {s : State}
    (hm : s.link.mode = .maintenance) : inMaintenance k h f s = f s := if_pos hm

/-- A MAINTENANCE request in another mode is refused WRONG_MODE. -/
theorem refuses_wrongMode_of_inMaintenance {c : Instr} {b : Block} {s : State} {k : RequestKind} {h : Header}
    {f : State → Effect} (hu : Unhindered c s) (ho : ownerOf c = some b) (hrun : runOf c = inMaintenance k h f)
    (hm : s.link.mode ≠ .maintenance) : Refuses c b k h .wrongMode s :=
  refuses_of_refuse hu ho (by rw [hrun]; exact if_neg hm)

/-! ### Tables in order (R47) -/

theorem RangesOrdered.first_le_last {s : State} (ho : RangesOrdered s) {r : GroupRange} (hr : r ∈ s.tables.ranges) :
    r.first ≤ r.last := by
  obtain ⟨_, _, hfields⟩ := ho
  obtain ⟨_, hle, _⟩ := hfields r hr
  exact hle

/-- The first codes of a table in its order ascend. -/
theorem RangesOrdered.firsts_ascend {s : State} (ho : RangesOrdered s) :
    s.tables.ranges.Pairwise fun q r => q.first < r.first := by
  have ⟨_, hdisjoint, _⟩ := ho
  exact hdisjoint.imp_of_mem fun hq _ hlt => Nat.lt_of_le_of_lt (ho.first_le_last hq) hlt

/-- A range of a table in its order is known by its first code. -/
theorem RangesOrdered.eq_of_first_eq {s : State} (ho : RangesOrdered s) {q r : GroupRange} (hq : q ∈ s.tables.ranges)
    (hr : r ∈ s.tables.ranges) (heq : q.first = r.first) : q = r := by
  have hnodup : (s.tables.ranges.map GroupRange.first).Nodup :=
    List.pairwise_map.2 (ho.firsts_ascend.imp Nat.ne_of_lt)
  exact List.inj_on_of_nodup_map hnodup hq hr heq

theorem RangesOrdered.nodup {s : State} (ho : RangesOrdered s) : s.tables.ranges.Nodup :=
  ho.firsts_ascend.imp fun hlt heq => Nat.ne_of_lt hlt (congrArg GroupRange.first heq)

/-- Among ascending first codes, none of them its own, a range comes after the lower ones and before the higher. -/
theorem insertRange_eq_filter {r : GroupRange} {rs : List GroupRange} (hasc : rs.Pairwise fun p q => p.first < q.first)
    (hne : ∀ q ∈ rs, q.first ≠ r.first) :
    insertRange r rs = (rs.filter fun q => decide (q.first < r.first))
      ++ r :: (rs.filter fun q => decide (r.first < q.first)) := by
  induction rs with
  | nil => rfl
  | cons q rest ih =>
    obtain ⟨hq, hrest⟩ := List.pairwise_cons.1 hasc
    obtain ⟨hqr, hne⟩ := List.forall_mem_cons.1 hne
    by_cases hlt : r.first < q.first
    · have habove : ∀ p ∈ q :: rest, r.first < p.first :=
        List.forall_mem_cons.2 ⟨hlt, fun p hp => hlt.trans (hq p hp)⟩
      have hnone : ((q :: rest).filter fun p => decide (p.first < r.first)) = [] :=
        List.filter_eq_nil_iff.2 fun p hp => by simpa using (habove p hp).le
      have hall : ((q :: rest).filter fun p => decide (r.first < p.first)) = q :: rest :=
        List.filter_eq_self.2 fun p hp => by simpa using habove p hp
      rw [hnone, hall, insertRange, if_pos hlt, List.nil_append]
    · have hbelow : q.first < r.first := by omega
      simp [insertRange, hlt, hbelow, ih hrest hne]

/-! ### GROUP RANGE ADD (R48) -/

theorem sharesCode_eq_false_iff {f l : Nat} {r : GroupRange} : sharesCode f l r = false ↔ r.last < f ∨ l < r.first := by
  simp only [sharesCode, Bool.and_eq_false_iff, decide_eq_false_iff_not, Nat.not_le]

theorem groupRangeAdd_badField {h : Header} {f l g : Nat} {con earn : Bool} {s : State}
    (hm : s.link.mode = .maintenance)
    (hbad : f = 0 ∨ 999999999 < f ∨ l = 0 ∨ 999999999 < l ∨ l < f ∨ g = 0 ∨ 255 < g) :
    groupRangeAdd h f l g con earn s = refuse .groupRangeAdd h .badField s := by
  rw [groupRangeAdd, inMaintenance_of_maintenance hm, if_pos]
  simp only [Bool.not_eq_true', ← Bool.not_eq_true, Bool.and_eq_true, inRange_iff, decide_eq_true_eq, Config.maxItem]
  omega

/-- Past the field checks GROUP RANGE ADD depends on the ranges of the table alone. -/
theorem groupRangeAdd_of_fields {h : Header} {f l g : Nat} {con earn : Bool} {s : State}
    (hm : s.link.mode = .maintenance) (hf : 1 ≤ f) (hfl : f ≤ l) (hl : l ≤ 999999999) (hg : 1 ≤ g) (hg' : g ≤ 255) :
    (∀ r, s.tables.ranges.find? (sharesCode f l) = some r →
      groupRangeAdd h f l g con earn s = answer .groupRangeAdd h .overlap (.word r.first) s)
    ∧ (s.tables.ranges.find? (sharesCode f l) = none →
      groupRangeAdd h f l g con earn s =
        if 256 ≤ s.tables.ranges.length then refuse .groupRangeAdd h .tableFull s
        else answer .groupRangeAdd h .ok (.rangeAdded (rangePosition f s.tables.ranges) (s.tables.ranges.length + 1))
          (s.withTables { s.tables with
            ranges := insertRange { first := f, last := l, group := g, concession := con, earn := earn }
              s.tables.ranges })) := by
  have hfields : ¬ (!(inRange 1 Config.maxItem f && inRange 1 Config.maxItem l && decide (f ≤ l) && inRange 1 255 g))
      = true := by
    simp only [Bool.not_eq_true', Bool.not_eq_false, Bool.and_eq_true, inRange_iff, decide_eq_true_eq, Config.maxItem]
    omega
  rw [groupRangeAdd, inMaintenance_of_maintenance hm, if_neg hfields]
  exact ⟨fun r hr => by rw [hr], fun hnone => by rw [hnone]; rfl⟩

/-- A range with no code in common with a table in its order has no first code in common with it either. -/
theorem first_ne_of_disjoint {f l : Nat} {s : State} (ho : RangesOrdered s) (hfl : f ≤ l)
    (hdis : ∀ r ∈ s.tables.ranges, r.last < f ∨ l < r.first) : ∀ r ∈ s.tables.ranges, r.first ≠ f := by
  intro r hr
  have hle := ho.first_le_last hr
  have hrl := hdis r hr
  omega

/-! ### GROUP RANGE REMOVE (R49) -/

theorem groupRangeRemove_badField {h : Header} {f : Nat} {s : State} (hm : s.link.mode = .maintenance)
    (hbad : f = 0 ∨ 999999999 < f) : groupRangeRemove h f s = refuse .groupRangeRemove h .badField s := by
  have hout : ¬ inRange 1 Config.maxItem f = true := by rw [inRange_iff, Config.maxItem]; omega
  rw [groupRangeRemove, inMaintenance_of_maintenance hm, if_pos (by simpa using hout)]

theorem groupRangeRemove_noRange {h : Header} {f : Nat} {s : State} (hm : s.link.mode = .maintenance) (hlo : 1 ≤ f)
    (hhi : f ≤ 999999999) (hnone : ∀ r ∈ s.tables.ranges, r.first ≠ f) :
    groupRangeRemove h f s = refuse .groupRangeRemove h .noRange s := by
  have hfind : (s.tables.ranges.find? fun r => decide (r.first = f)) = none :=
    List.find?_eq_none.2 fun r hr => by simpa using hnone r hr
  have hin : inRange 1 Config.maxItem f = true := inRange_iff.2 ⟨hlo, hhi⟩
  simp only [groupRangeRemove, inMaintenance_of_maintenance hm, hin, hfind]
  rfl

/-- In a table in its order the range with a first code is the one that goes. -/
theorem groupRangeRemove_of_mem {h : Header} {s : State} {r : GroupRange} (ho : RangesOrdered s)
    (hm : s.link.mode = .maintenance) (hr : r ∈ s.tables.ranges) :
    groupRangeRemove h r.first s = answer .groupRangeRemove h .ok
      (.rangeRemoved r.last r.group r.concession r.earn (s.tables.ranges.length - 1))
      (s.withTables { s.tables with ranges := s.tables.ranges.erase r }) := by
  have ⟨_, _, hfields⟩ := ho
  obtain ⟨hfirst, hlast, hhi, _⟩ := hfields r hr
  have hin : inRange 1 Config.maxItem r.first = true := inRange_iff.2 ⟨hfirst, hlast.trans hhi⟩
  have hfind : (s.tables.ranges.find? fun q => decide (q.first = r.first)) = some r := by
    obtain ⟨q, hq⟩ := Option.isSome_iff_exists.1
      (List.find?_isSome (p := fun q : GroupRange => decide (q.first = r.first)).2 ⟨r, hr, decide_eq_true rfl⟩)
    rw [hq, ho.eq_of_first_eq (List.mem_of_find?_eq_some hq) hr (by simpa using List.find?_some hq)]
  have hrest : (s.tables.ranges.filter fun q => decide (q.first ≠ r.first)) = s.tables.ranges.erase r := by
    rw [ho.nodup.erase_eq_filter]
    refine List.filter_congr fun q hq => ?_
    have hiff : q.first = r.first ↔ q = r := ⟨ho.eq_of_first_eq hq hr, congrArg GroupRange.first⟩
    simp only [ne_eq, hiff, bne, beq_eq_decide, decide_not]
  simp only [groupRangeRemove, inMaintenance_of_maintenance hm, hin, hfind, hrest, List.length_erase_of_mem hr]
  rfl

/-! ### GROUP TABLE CLEAR (R49) -/

theorem groupTableClear_of_maintenance {h : Header} {s : State} (hm : s.link.mode = .maintenance) :
    groupTableClear h s = answer .groupTableClear h .ok (.half s.tables.ranges.length)
      (s.withTables { s.tables with ranges := [] }) := if_pos hm

/-- Settles O47: a range of a table in its order is known by its first code, so the insertion by first code splits the
table in two and the removal by first code takes one range out. -/
theorem groupRangeRequests : Obligations.GroupRangeRequests := by
  intro h f l g con earn s ho
  refine ⟨?add, ?remove, ?clear⟩
  case add =>
    rintro c rfl hu
    refine ⟨refuses_wrongMode_of_inMaintenance hu rfl rfl, fun hm =>
      ⟨fun hbad => refuses_of_refuse hu rfl (groupRangeAdd_badField hm hbad), fun hf hfl hl hg hg' => ?_⟩⟩
    obtain ⟨hover, hfree⟩ := groupRangeAdd_of_fields (h := h) (con := con) (earn := earn)
      (s := leaveQueue (.groupRangeAdd h f l g con earn) s) hm hf hfl hl hg hg'
    refine ⟨fun r hr => takes_of_answer hu rfl (hover r hr), fun hdis => ?_⟩
    have heq := hfree (List.find?_eq_none.2 fun r hr => by simp [sharesCode_eq_false_iff.2 (hdis r hr)])
    refine ⟨fun hfull => refuses_of_refuse hu rfl (heq.trans (if_pos hfull)), fun hroom => ?_⟩
    rw [← insertRange_eq_filter (r := { first := f, last := l, group := g, concession := con, earn := earn })
      ho.firsts_ascend (first_ne_of_disjoint ho hfl hdis)]
    exact takes_of_answer hu rfl (heq.trans (if_neg (Nat.not_le.2 hroom)))
  case remove =>
    rintro c rfl hu
    refine ⟨refuses_wrongMode_of_inMaintenance hu rfl rfl,
      fun hm hbad => refuses_of_refuse hu rfl (groupRangeRemove_badField hm hbad),
      fun hm hlo hhi hnone => refuses_of_refuse hu rfl (groupRangeRemove_noRange hm hlo hhi hnone), ?_⟩
    rintro r hr hm rfl
    exact takes_of_answer hu rfl (groupRangeRemove_of_mem (s := leaveQueue _ s) ho hm hr)
  case clear =>
    rintro c rfl hu
    exact ⟨refuses_wrongMode_of_inMaintenance hu rfl rfl,
      fun hm => takes_of_answer hu rfl (groupTableClear_of_maintenance (s := leaveQueue _ s) hm)⟩

/-! ### Mask entries (R51) -/

/-- Entry 0 holds every flag. -/
theorem getLsbD_maskValue_zero (t : Tables) {i : Nat} (hi : i < 16) : (maskValue t 0).getLsbD i = true := by
  have hall : maskValue t 0 = BitVec.allOnes 16 := rfl
  rw [hall, BitVec.getLsbD_allOnes, decide_eq_true hi]

/-- Entry 16 + k holds every flag but k. -/
theorem getLsbD_maskValue_fixed (t : Tables) {k i : Nat} (hk : k < 16) (hi : i < 16) :
    (maskValue t (16 + k)).getLsbD i = decide (i ≠ k) := by
  rw [maskValue, if_pos (Nat.le_add_right 16 k), Nat.add_sub_cancel_left, ← BitVec.twoPow_eq, BitVec.getLsbD_not,
    BitVec.getLsbD_twoPow]
  simp only [hi, hk, decide_true, Bool.true_and, eq_comm (a := k), ne_eq, decide_not]

theorem maskValue_of_held {t : Tables} {e : Nat} {v : Flags} (hlo : 1 ≤ e) (hhi : e ≤ 15)
    (hv : t.masks[e - 1]? = some v) : maskValue t e = v := by
  rw [maskValue, if_neg (by omega), if_neg (by omega), hv, Option.getD_some]

theorem maskFixed_eq_decide (e : Nat) : maskFixed e = decide (e = 0 ∨ 16 ≤ e) := (Bool.decide_or ..).symm

/-! ### MASK WRITE and MASK READ (R52 to R54) -/

theorem maskWrite_badField {h : Header} {e u : Nat} {v : Flags} {s : State} (hbad : 32 ≤ e ∨ 32 ≤ u) :
    maskWrite h e v u s = refuse .maskWrite h .badField s := if_pos hbad

theorem maskWrite_readOnly {h : Header} {e u : Nat} {v : Flags} {s : State} (he : e < 32) (hu : u < 32)
    (hfixed : e = 0 ∨ 16 ≤ e) : maskWrite h e v u s = refuse .maskWrite h .readOnly s := by
  rw [maskWrite, if_neg (by omega), if_pos (by rw [maskFixed_eq_decide, decide_eq_true hfixed])]

theorem maskWrite_of_variable {h : Header} {e u : Nat} {v : Flags} {s : State} (hlo : 1 ≤ e) (hhi : e ≤ 15)
    (hu : u < 32) :
    maskWrite h e v u s = (staleClaim (maskBaskets e s) (s.withTables { s.tables with
        masks := s.tables.masks.setIfInBounds (e - 1) (v &&& maskValue s.tables u) })).after
      [replyTo .maskWrite h .ok (.flags (v &&& maskValue s.tables u))] := by
  have hvar : ¬ maskFixed e = true := by rw [maskFixed_eq_decide, decide_eq_true_eq]; omega
  rw [maskWrite, if_neg (by omega), if_neg hvar]

theorem maskRead_badField {h : Header} {e : Nat} {s : State} (he : 32 ≤ e) :
    maskRead h e s = refuse .maskRead h .badField s := if_pos he

theorem maskRead_of_entry {h : Header} {e : Nat} {s : State} (he : e < 32) :
    maskRead h e s = answer .maskRead h .ok
      (.maskRead (maskValue s.tables e) (decide (e = 0 ∨ 16 ≤ e)) (maskLanes e s).length
        (s.basketTable.lanes.toList.filter fun r => decide (r.maskEntry = e) && r.active.isSome).length) s := by
  rw [maskRead, if_neg (by omega), maskFixed_eq_decide, maskLanes, List.filter_filter]
  simp only [Bool.and_comm]

/-! ### TIER SET (R56) -/

theorem tierOf_eq_none_iff : ∀ k : Nat, tierOf k = none ↔ 5 ≤ k
  | 0 | 1 | 2 | 3 | 4 => by simp [tierOf]
  | k + 5 => by simp [tierOf]

/-- The code of a tier is its place in the order of R56. -/
theorem tierIndex_of_tierOf : ∀ {k : Nat} {t : Tier}, tierOf k = some t → tierIndex t = k
  | 0, _, rfl | 1, _, rfl | 2, _, rfl | 3, _, rfl | 4, _, rfl => rfl

theorem tierSet_badField {h : Header} {tier rate : Nat} {s : State} (hm : s.link.mode = .maintenance)
    (hbad : 5 ≤ tier ∨ 20 < rate) : tierSet h tier rate s = refuse .tierSet h .badField s := by
  rw [tierSet, inMaintenance_of_maintenance hm]
  cases ht : tierOf tier with
  | none => rfl
  | some t =>
    have hlt : ¬ 5 ≤ tier := by simp [← tierOf_eq_none_iff, ht]
    exact if_pos (hbad.resolve_left hlt)

theorem tierSet_of_tier {h : Header} {tier rate : Nat} {s : State} (hm : s.link.mode = .maintenance) (ht : tier < 5)
    (hr : rate ≤ 20) :
    tierSet h tier rate s = answer .tierSet h .ok (.rates (s.tables.rates.toList.set tier rate))
      (s.withTables { s.tables with rates := s.tables.rates.setIfInBounds tier rate }) := by
  obtain ⟨t, hcode⟩ : ∃ t, tierOf tier = some t :=
    Option.ne_none_iff_exists'.1 fun hn => Nat.not_le.2 ht ((tierOf_eq_none_iff tier).1 hn)
  rw [tierSet, inMaintenance_of_maintenance hm]
  simp [hcode, Nat.not_lt.2 hr, tierIndex_of_tierOf hcode]

/-! ### LIMITS SET (R57) -/

theorem limitOk_iff {lo hi n : Nat} : limitOk lo hi n = true ↔ n = 0 ∨ lo ≤ n ∧ n ≤ hi := by
  simp only [limitOk, Bool.or_eq_true, decide_eq_true_eq, inRange_iff]

/-- A limit whose range begins at 1 takes any field up to its bound. -/
theorem limitOk_one_iff {hi n : Nat} : limitOk 1 hi n = true ↔ n ≤ hi := by
  rw [limitOk_iff]
  omega

/-- The test of LIMITS SET over its seven fields. -/
theorem limitFields_iff {a b c d e f g : Nat} :
    (limitOk 60 3600 a && limitOk 15 600 b && limitOk 1 7 c && limitOk 300 14400 d && limitOk 5 500 e
        && limitOk 1 128 f && limitOk 1 1000 g) = true
      ↔ (a = 0 ∨ 60 ≤ a ∧ a ≤ 3600) ∧ (b = 0 ∨ 15 ≤ b ∧ b ≤ 600) ∧ c ≤ 7 ∧ (d = 0 ∨ 300 ≤ d ∧ d ≤ 14400)
        ∧ (e = 0 ∨ 5 ≤ e ∧ e ≤ 500) ∧ f ≤ 128 ∧ g ≤ 1000 := by
  simp only [Bool.and_eq_true, limitOk_one_iff, limitOk_iff (lo := 60), limitOk_iff (lo := 15),
    limitOk_iff (lo := 300), limitOk_iff (lo := 5), and_assoc]

/-! ### STORE IDENTITY (R59) -/

theorem storeIdentity_badField {h : Header} {n : Nat} {s : State} (hbad : n = 0 ∨ 65535 < n) :
    storeIdentity h n s = refuse .storeIdentity h .badField s := by
  have hout : ¬ inRange 1 65535 n = true := by rw [inRange_iff]; omega
  simp [storeIdentity, hout]

theorem storeIdentity_alreadySet {h : Header} {n m : Nat} {s : State} (hlo : 1 ≤ n) (hhi : n ≤ 65535)
    (hm : s.tables.identity = some m) : storeIdentity h n s = answer .storeIdentity h .alreadySet (.half m) s := by
  simp [storeIdentity, inRange_iff.2 ⟨hlo, hhi⟩, hm]

theorem storeIdentity_of_none {h : Header} {n : Nat} {s : State} (hlo : 1 ≤ n) (hhi : n ≤ 65535)
    (hnone : s.tables.identity = none) :
    storeIdentity h n s = answer .storeIdentity h .ok (.half n)
      (s.withTables { s.tables with identity := some n }) := by
  simp [storeIdentity, inRange_iff.2 ⟨hlo, hhi⟩, hnone]

/-- Settles O48: each clause is one outcome of its request; the fixed entries are read off bit by bit. -/
theorem masksRatesLimitsIdentity : Obligations.MasksRatesLimitsIdentity := by
  refine ⟨⟨?fixed, fun t e v => maskValue_of_held, fun h e u v s => ⟨?write, ?read⟩⟩,
    fun h s => ⟨?tier, ?limits, ?identity⟩⟩
  case fixed =>
    intro t k i hk hi
    exact ⟨getLsbD_maskValue_zero t hi, getLsbD_maskValue_fixed t hk hi⟩
  case write =>
    rintro c rfl hu
    refine ⟨fun hbad => refuses_of_refuse hu rfl (maskWrite_badField hbad),
      fun he hthrough hfixed => refuses_of_refuse hu rfl (maskWrite_readOnly he hthrough hfixed), ?_⟩
    rintro f hlo hhi hthrough rfl
    exact takes_of_runOf hu rfl (maskWrite_of_variable (s := leaveQueue _ s) hlo hhi hthrough)
  case read =>
    rintro c rfl hu
    exact ⟨fun he => refuses_of_refuse hu rfl (maskRead_badField he),
      fun he => takes_of_answer hu rfl (maskRead_of_entry (s := leaveQueue _ s) he)⟩
  case tier =>
    rintro c tier rate rfl hu
    exact ⟨refuses_wrongMode_of_inMaintenance hu rfl rfl,
      fun hm hbad => refuses_of_refuse hu rfl (tierSet_badField hm hbad),
      fun hm ht hr => takes_of_answer hu rfl (tierSet_of_tier (s := leaveQueue _ s) hm ht hr)⟩
  case limits =>
    rintro c a b d e f g i rfl hu ok hok
    rw [← limitFields_iff] at hok
    refine ⟨fun hbad => refuses_of_refuse hu rfl (if_neg (hok.not.1 hbad)), ?_⟩
    rintro ⟨⟩ hgood rfl rfl rfl rfl rfl rfl rfl
    exact takes_of_answer hu rfl (if_pos (hok.1 hgood))
  case identity =>
    rintro c n rfl hu
    exact ⟨fun hbad => refuses_of_refuse hu rfl (storeIdentity_badField hbad),
      fun m hlo hhi hm => takes_of_answer hu rfl (storeIdentity_alreadySet hlo hhi hm),
      fun hlo hhi hnone => takes_of_answer hu rfl (storeIdentity_of_none (s := leaveQueue _ s) hlo hhi hnone)⟩

end Sys2Proof.Machine
end

section
/-! The plan's lines as PLAN LINES reads them (chapter 5): what the request answers, as one equation per outcome of its
rule, and the obligation on it. -/

namespace Sys2Proof.Machine

/-- Steps 1 to 3 of R4 pass a basket that is PARKED, under any header lane of 0 to 15, or that is the header lane's
active basket. -/
theorem basketCheck_of_held {h : Header} {n l : Nat} {b : Basket} {s : State} (hm : s.link.mode ≠ .maintenance)
    (hl : laneOf h = some l) (hb : findBasket n s = some b) (hheld : b.state = .parked ∨ b.lane = some l) :
    basketCheck h n s = .ok (l, b) := by
  simp only [basketCheck, if_neg hm, hl, hb, if_pos hheld]

/-! ### PLAN LINES (R104) -/

/-- Before its first plan a basket has the sequence number 0, and PLAN LINES is refused whatever the start index. -/
theorem planLines_basketState {h : Header} {n start l : Nat} {b : Basket} {s : State}
    (hcheck : basketCheck h n s = .ok (l, b)) (hseq : b.planSeq = 0) :
    planLines h n start s = refuse .planLines h .basketState s := by
  rw [planLines, hcheck]
  cases hp : b.plan with
  | none => simp only [hp]
  | some p => simp only [hp, if_pos hseq]

/-- With a plan installed PLAN LINES is decided by the start index alone. -/
theorem planLines_of_plan {h : Header} {n start l : Nat} {b : Basket} {p : Plan} {s : State}
    (hcheck : basketCheck h n s = .ok (l, b)) (hseq : b.planSeq ≠ 0) (hp : b.plan = some p) :
    planLines h n start s =
      if p.lines.length < start then refuse .planLines h .badField s
      else answer .planLines h .ok
        (.planLines b.planSeq b.current p.lines.length ((p.lines.drop start).take 16) b.heldOffers) s := by
  simp only [planLines, hcheck, hp, if_neg hseq]

/-- Settles O25: past the basket checks, which a PARKED basket passes too, the clauses are the branches of the request. -/
theorem planLinesRule : Obligations.PlanLinesRule := by
  rintro h n start l b s c rfl hu hm hl hb hheld
  have hcheck : basketCheck h n (leaveQueue (.planLines h n start) s) = .ok (l, b) :=
    basketCheck_of_held hm hl hb hheld
  refine ⟨fun hseq => refuses_of_refuse hu rfl (planLines_basketState hcheck hseq),
    fun p hseq hp habove => refuses_of_refuse hu rfl ?above, fun p hseq hp hwithin => takes_of_answer hu rfl ?within⟩
  case above => exact (planLines_of_plan hcheck hseq hp).trans (if_pos habove)
  case within => exact (planLines_of_plan hcheck hseq hp).trans (if_neg (Nat.not_lt.2 hwithin))

end Sys2Proof.Machine
end

section
/-! Price overrides (chapter 6): the records of the table under the router's operations, the lane-grant test, what
OVERRIDE KEY answers as one equation per outcome, and the obligation on it. -/

namespace Sys2Proof.Machine

/-! ### The record of a line -/

theorem hasRecord_eq_any (n line : Nat) (s : State) :
    hasRecord n line s = s.overrides.any fun r => decide (r.basket = n) && decide (r.line = line) :=
  List.isSome_find?

theorem hasRecord_eq_false_iff (n line : Nat) (s : State) : hasRecord n line s = false ↔ recordOf n line s = none :=
  Option.isSome_eq_false_iff.trans Option.isNone_iff_eq_none

theorem removeRecord_eq (n line : Nat) (s : State) :
    removeRecord n line s
      = s.withOverrides (s.overrides.filter fun r => decide (¬ (r.basket = n ∧ r.line = line))) := by
  simp only [removeRecord, Bool.decide_and, decide_not]

@[simp] theorem hasRecord_removeRecord (n line : Nat) (s : State) :
    hasRecord n line (removeRecord n line s) = false := by
  simp only [hasRecord_eq_false_iff, recordOf, removeRecord, State.overrides_withOverrides, List.find?_eq_none,
    List.mem_filter, Bool.not_eq_true']
  rintro r ⟨_, hr⟩
  simp [hr]

/-- A change that leaves a record's basket and line as they are neither makes nor removes the record of a line. -/
theorem hasRecord_mapRecord (n line m k : Nat) {f : OverrideRecord → OverrideRecord} (s : State)
    (hf : ∀ r, (f r).basket = r.basket ∧ (f r).line = r.line) :
    hasRecord n line (mapRecord m k f s) = hasRecord n line s := by
  have hkey (r : OverrideRecord) : (if r.basket = m ∧ r.line = k then f r else r).basket = r.basket
      ∧ (if r.basket = m ∧ r.line = k then f r else r).line = r.line := by
    split
    · exact hf r
    · exact ⟨rfl, rfl⟩
  simp only [hasRecord_eq_any, mapRecord, State.overrides_withOverrides, List.any_map, Function.comp_def, hkey]

/-! ### The presentation pass makes and removes no record (R117, R127) -/

theorem presentOn_overrides (l : Nat) (q : Route) (r : OverrideRecord) (d : Nat) (s : State) :
    (presentOn l q r d s).state.overrides = (mapRecord r.basket r.line markPresented s).overrides := by
  simp [presentOn]

@[simp] theorem hasRecord_presentIfAble (n line l : Nat) (s : State) :
    hasRecord n line (presentIfAble l s).state = hasRecord n line s := by
  unfold presentIfAble
  split
  case h_1 q r d _ _ =>
    have hsame := hasRecord_mapRecord n line r.basket r.line (f := markPresented) s fun _ => ⟨rfl, rfl⟩
    rw [← hsame]
    simp only [hasRecord_eq_any, presentOn_overrides]
  case h_2 => rfl

@[simp] theorem hasRecord_passLanes (n line : Nat) (ls : List Nat) (s : State) :
    hasRecord n line (passLanes ls s).state = hasRecord n line s := by
  induction ls generalizing s with
  | nil => rfl
  | cons l ls ih => simp [passLanes, ih]

@[simp] theorem hasRecord_presentationPass (n line : Nat) (s : State) :
    hasRecord n line (presentationPass s).state = hasRecord n line s :=
  hasRecord_passLanes n line allLanes s

/-! ### A record handed to the router (R111, R128) -/

theorem routeSingle_of_route {l : Nat} {s : State} {q : Route} (hq : s.router.routes[l]? = some q) :
    routeSingle l s = decide (q.mode = .single) := by
  simp [routeSingle, hq]

/-- A record that the pass presents, or any on a PERSISTENT route, stays as the pass leaves it. -/
theorem handToRouter_kept {l n line : Nat} {s : State} {q : Route} {e : Effect} (he : e = presentationPass s)
    (hq : s.router.routes[l]? = some q)
    (hkeep : q.mode = .persistent ∨ ∃ r, recordOf n line e.state = some r ∧ isPresented r = true) :
    handToRouter l n line s = e := by
  unfold handToRouter
  rw [routeSingle_of_route hq, ← he]
  rcases hkeep with hmode | ⟨r, hr, hpres⟩
  · cases hr : recordOf n line e.state <;> simp [hr, hmode]
  · simp [hr, hpres]

/-- A record that the pass does not present goes at once on a SINGLE route. -/
theorem handToRouter_removed {l n line : Nat} {s : State} {q : Route} {e : Effect} (he : e = presentationPass s)
    (hq : s.router.routes[l]? = some q) (hmode : q.mode = .single) (hrec : hasRecord n line e.state = true)
    (hnot : ∀ r, recordOf n line e.state = some r → isPresented r = false) :
    handToRouter l n line s = { e with state := removeRecord n line e.state } := by
  obtain ⟨r, hr⟩ : ∃ r, recordOf n line e.state = some r := Option.isSome_iff_exists.1 hrec
  unfold handToRouter
  rw [routeSingle_of_route hq, ← he]
  simp [hr, hnot r hr, hmode]

/-! ### The lane-grant test (R110) -/

theorem laneGrantTotal_eq (n line : Nat) (s : State) :
    laneGrantTotal n line s =
      ((s.overrides.filter fun r => decide (r.basket = n) && decide (r.line ≠ line)).map laneReduction).sum := by
  simp only [laneGrantTotal, basketRecords, List.filter_filter, Bool.and_comm]

theorem laneGrantTest_iff {l n line price cut : Nat} {why : Reason} {s : State} {lane : Lane}
    (hlane : s.basketTable.lanes[l]? = some lane) :
    laneGrantTest l n line why price cut s = true ↔
      why ≠ .goodwill ∧ 0 < price ∧ cut ≤ lane.floorLimit ∧ laneGrantTotal n line s + cut ≤ lane.basketLimit := by
  simp [laneGrantTest, laneMayGrant, hlane, and_assoc]

/-! ### A record keyed (R107, R109) -/

/-- The state with `r` keyed: the keying count of its basket up by 1 and the basket changed once, the old record of its
line gone, and `r` at the tail of the table. -/
def keyRecord (r : OverrideRecord) (s : State) : State :=
  (s.withBaskets (s.basketTable.baskets.map fun y =>
      if y.number = r.basket then Basket.raised { y with keyingCount := y.keyingCount + 1 } else y)).withOverrides
    ((s.overrides.filter fun o => decide (¬ (o.basket = r.basket ∧ o.line = r.line))) ++ [r])

/-- The model's steps for a keyed record, the removal, the count, the change and the new record, are `keyRecord`. -/
theorem keyRecord_eq (r : OverrideRecord) (s : State) :
    let t := ownChange r.basket (mapBasket r.basket (fun y => { y with keyingCount := y.keyingCount + 1 })
      (removeRecord r.basket r.line s))
    t.withOverrides (t.overrides ++ [r]) = keyRecord r s := by
  simp only [ownChange_overrides, mapBasket_overrides, removeRecord_eq]
  rw [ownChange_mapBasket]
  · rfl
  · exact fun _ => rfl

theorem hasRecord_keyRecord (r : OverrideRecord) (s : State) : hasRecord r.basket r.line (keyRecord r s) = true := by
  simp [hasRecord_eq_any, keyRecord]

/-! ### OVERRIDE KEY taken (R109 to R111) -/

/-- A record that passes the lane-grant test joins GRANTED; a pass runs only where a notice was taken back. -/
theorem keyTaken_of_grant {h : Header} {l price : Nat} {b : Basket} {x : Line} {why : Reason} {s : State}
    (hgrant : laneGrantTest l b.number x.number why price ((x.price - price) * x.quantity) s = true) :
    keyTaken h l b x price why s =
      let back := takeBack l b.number x.number s
      let t := keyRecord (newRecord b.number x b.keyingCount price why true) back.state
      (if back.sent = [] then nothing t else presentationPass t).after
        (keyedReply h .granted b.keyingCount ((x.price - price) * x.quantity) :: back.sent) := by
  simp only [keyTaken, hgrant, if_true, ← keyRecord_eq]
  rfl

/-- A record that fails the lane-grant test joins PENDING and is handed to the router; whether it is there afterwards
makes the outcome. -/
theorem keyTaken_of_noGrant {h : Header} {l price : Nat} {b : Basket} {x : Line} {why : Reason} {s : State}
    (hgrant : ¬ laneGrantTest l b.number x.number why price ((x.price - price) * x.quantity) s = true) :
    keyTaken h l b x price why s =
      let back := takeBack l b.number x.number s
      let e := handToRouter l b.number x.number
        (keyRecord (newRecord b.number x b.keyingCount price why false) back.state)
      e.after (keyedReply h (if hasRecord b.number x.number e.state then .pending else .declined) b.keyingCount
        ((x.price - price) * x.quantity) :: back.sent) := by
  simp only [keyTaken, Bool.eq_false_of_not_eq_true hgrant, ← keyRecord_eq]
  rfl

section handed

variable {h : Header} {l price : Nat} {b : Basket} {x : Line} {why : Reason} {s : State} {q : Route} {back e : Effect}

/-- After the pass the keyed record is in the table, presented or not. -/
theorem hasRecord_pass_keyRecord
    (he : e = presentationPass (keyRecord (newRecord b.number x b.keyingCount price why false) s)) :
    hasRecord b.number x.number e.state = true := by
  rw [he, hasRecord_presentationPass]
  exact hasRecord_keyRecord (newRecord b.number x b.keyingCount price why false) s

/-- A PENDING record that stays is answered PENDING. -/
theorem keyTaken_pending
    (hgrant : ¬ laneGrantTest l b.number x.number why price ((x.price - price) * x.quantity) s = true)
    (hback : takeBack l b.number x.number s = back) (hq : back.state.router.routes[l]? = some q)
    (he : e = presentationPass (keyRecord (newRecord b.number x b.keyingCount price why false) back.state))
    (hkeep : q.mode = .persistent ∨ ∃ r, recordOf b.number x.number e.state = some r ∧ isPresented r = true) :
    keyTaken h l b x price why s =
      e.after (keyedReply h .pending b.keyingCount ((x.price - price) * x.quantity) :: back.sent) := by
  rw [keyTaken_of_noGrant hgrant, hback]
  simp only [handToRouter_kept he hq hkeep, hasRecord_pass_keyRecord he, if_true]

/-- A PENDING record that the router does not present on a SINGLE route is answered DECLINED and gone. -/
theorem keyTaken_declined
    (hgrant : ¬ laneGrantTest l b.number x.number why price ((x.price - price) * x.quantity) s = true)
    (hback : takeBack l b.number x.number s = back) (hq : back.state.router.routes[l]? = some q)
    (he : e = presentationPass (keyRecord (newRecord b.number x b.keyingCount price why false) back.state))
    (hmode : q.mode = .single)
    (hnot : ∀ r, recordOf b.number x.number e.state = some r → isPresented r = false) :
    keyTaken h l b x price why s =
      { state := removeRecord b.number x.number e.state
        sent := keyedReply h .declined b.keyingCount ((x.price - price) * x.quantity) :: (back.sent ++ e.sent) } := by
  have hgone := handToRouter_removed he hq hmode (hasRecord_pass_keyRecord he) hnot
  rw [keyTaken_of_noGrant hgrant, hback]
  simp only [hgone, hasRecord_removeRecord]
  rfl

end handed

/-- A record that its lane's route does not show has no notice to take back. -/
theorem takeBack_of_notPresented {l n line : Nat} {s : State}
    (hp : ∀ p, presentationOf l s = some p → ¬ (p.basket = n ∧ p.line = line)) :
    takeBack l n line s = nothing s := by
  unfold takeBack
  split
  case h_1 p heq => exact if_neg (hp p heq)
  case h_2 => rfl

/-! ### The checks of OVERRIDE KEY (R108) -/

theorem reasonOf_eq_none_iff : ∀ k : Nat, reasonOf k = none ↔ k = 0 ∨ 4 < k
  | 0 | 1 | 2 | 3 | 4 => by simp [reasonOf]
  | k + 5 => by simp [reasonOf]

theorem overrideKey_badField {h : Header} {n line price reason l : Nat} {b : Basket} {s : State}
    (hs : Served h n l b s) (hbad : reason = 0 ∨ 4 < reason ∨ 9999999 < price) :
    overrideKey h n line price reason s = refuse .overrideKey h .badField s := by
  rw [overrideKey, onServed_of_served hs]
  cases hwhy : reasonOf reason with
  | none => rfl
  | some why =>
    have hlist : ¬ (reason = 0 ∨ 4 < reason) := by simp [← reasonOf_eq_none_iff, hwhy]
    have hprice : 9999999 < price := (or_assoc.2 hbad).resolve_left hlist
    exact if_pos hprice

theorem overrideKey_noLine {h : Header} {n line price reason l : Nat} {why : Reason} {b : Basket} {s : State}
    (hs : Served h n l b s) (hwhy : reasonOf reason = some why) (hprice : price ≤ 9999999)
    (hno : ∀ x ∈ b.lines, x.number ≠ line) :
    overrideKey h n line price reason s = refuse .overrideKey h .noLine s := by
  have hx : (b.lines.find? fun x => decide (x.number = line)) = none := by simpa using hno
  have hp : ¬ Config.maxPrice < price := Nat.not_lt.2 hprice
  simp only [overrideKey, onServed_of_served hs, hwhy, if_neg hp, hx]

/-- OVERRIDE KEY for a live line with its fields in range: the checks from the price on, in order. -/
theorem overrideKey_of_line {h : Header} {n line price reason l : Nat} {why : Reason} {b : Basket} {x : Line} {s : State}
    (hs : Served h n l b s) (hwhy : reasonOf reason = some why) (hprice : price ≤ 9999999)
    (hx : (b.lines.find? fun y => decide (y.number = line)) = some x) :
    overrideKey h n line price reason s =
      if x.price ≤ price then refuse .overrideKey h .notReduction s
      else if 65535 < b.keyingCount then refuse .overrideKey h .overrideLimit s
      else if recordOf n line s = none ∧ 8 ≤ (basketRecords n s).length then refuse .overrideKey h .overrideLimit s
      else if recordOf n line s = none ∧ 96 ≤ s.overrides.length then refuse .overrideKey h .overridesFull s
      else keyTaken h l b x price why s := by
  have hp : ¬ Config.maxPrice < price := Nat.not_lt.2 hprice
  simp only [overrideKey, onServed_of_served hs, hwhy, if_neg hp, hx, Bool.and_eq_true, Bool.not_eq_true',
    hasRecord_eq_false_iff, decide_eq_true_eq]
  rfl

/-- The request is taken when the price is a reduction, the keying count is in range and a line without a record finds
room in its basket and in the table. -/
theorem overrideKey_taken {h : Header} {n line price reason l : Nat} {why : Reason} {b : Basket} {x : Line} {s : State}
    (hs : Served h n l b s) (hwhy : reasonOf reason = some why) (hprice : price ≤ 9999999)
    (hx : (b.lines.find? fun y => decide (y.number = line)) = some x) (hless : price < x.price)
    (hcount : b.keyingCount ≤ 65535)
    (hroom : recordOf n line s = none → s.overrides.length < 96 ∧ (basketRecords n s).length < 8) :
    overrideKey h n line price reason s = keyTaken h l b x price why s := by
  rw [overrideKey_of_line hs hwhy hprice hx, if_neg (Nat.not_le.2 hless), if_neg (Nat.not_lt.2 hcount),
    if_neg fun hfull => Nat.not_le.2 (hroom hfull.1).2 hfull.2,
    if_neg fun hfull => Nat.not_le.2 (hroom hfull.1).1 hfull.2]

/-- Settles O30: the checks are the branches of the request; past them nothing is taken back, and the record's fate is
the lane-grant test's, then the router's. -/
theorem overrideKeyRule : Obligations.OverrideKeyRule := by
  rintro h n line price reason l b s c rfl hu hs
  have hserved : Served h n l b (leaveQueue (.overrideKey h n line price reason) s) := hs
  refine ⟨fun hbad => refuses_of_refuse hu rfl (overrideKey_badField hserved hbad),
    fun hlo hhi hprice hno => ?noLine, fun why x hwhy hprice hx => ?line⟩
  case noLine =>
    obtain ⟨why, hwhy⟩ : ∃ why, reasonOf reason = some why :=
      Option.ne_none_iff_exists'.1 fun hnone => by have := (reasonOf_eq_none_iff reason).1 hnone; omega
    exact refuses_of_refuse hu rfl (overrideKey_noLine hserved hwhy hprice hno)
  case line =>
    have heq := overrideKey_of_line hserved hwhy hprice hx
    refine ⟨fun hle => refuses_of_refuse hu rfl (heq.trans (if_pos hle)), fun hless => ?_⟩
    rw [if_neg (Nat.not_le.2 hless)] at heq
    refine ⟨fun hover => refuses_of_refuse hu rfl (heq.trans (if_pos hover)),
      fun hcount hnone hfull => refuses_of_refuse hu rfl (heq.trans ?basketFull),
      fun hcount hnone hroom hfull => refuses_of_refuse hu rfl (heq.trans ?tableFull), ?taken⟩
    case basketFull => exact (if_neg (Nat.not_lt.2 hcount)).trans (if_pos ⟨hnone, hfull⟩)
    case tableFull =>
      exact (if_neg (Nat.not_lt.2 hcount)).trans
        ((if_neg fun hf => Nat.not_le.2 hroom hf.2).trans (if_pos ⟨hnone, hfull⟩))
    case taken =>
      rintro lane cut lanePart keyed hcount hroom hnotice hlane rfl rfl rfl
      have hrun := overrideKey_taken hserved hwhy hprice hx hless hcount hroom
      obtain ⟨_, _, hb, _, _⟩ := hs
      obtain rfl : b.number = n := findBasket_number hb
      obtain rfl : x.number = line := by simpa using List.find?_some hx
      have hback := takeBack_of_notPresented (s := leaveQueue (.overrideKey h b.number x.number price reason) s) hnotice
      have htest := laneGrantTest_iff (n := b.number) (line := x.number) (price := price)
        (cut := (x.price - price) * x.quantity) (why := why)
        (s := leaveQueue (.overrideKey h b.number x.number price reason) s) hlane
      rw [laneGrantTotal_eq] at htest
      refine ⟨fun hgrant => ?granted, ?handed⟩
      case granted =>
        refine takes_of_answer hu rfl (hrun.trans ((keyTaken_of_grant (htest.2 hgrant)).trans ?_))
        rw [hback]
        rfl
      case handed =>
        intro hgrant route e hroute he
        refine ⟨fun hkeep => ?pending, fun hmode hnot => ?declined⟩
        case pending =>
          exact takes_of_runOf hu rfl (hrun.trans (keyTaken_pending (mt htest.1 hgrant) hback hroute he hkeep))
        case declined =>
          rw [← removeRecord_eq]
          exact takes_of_runOf hu rfl
            (hrun.trans (keyTaken_declined (mt htest.1 hgrant) hback hroute he hmode hnot))

end Sys2Proof.Machine
end

section
/-! The Authorisation Router (chapter 7): the end of a presentation, what AUTHORISE and DECLINE, the notice timer's
expiry, DESK RECALL and DESK DUTY answer as one equation per outcome, and the obligations on them. -/

namespace Sys2Proof.Machine

/-! ### One part of an event after another -/

/-- With the effect of the second part named, no proof that puts the parts together looks into that part. -/
theorem Effect.andThen_eq {e f : Effect} {g : State → Effect} (hf : f = g e.state) :
    e.andThen g = { state := f.state, sent := e.sent ++ f.sent } := by
  rw [hf]
  rfl

/-! ### Routes, desks and the record a desk holds -/

theorem presentationOf_of_route {l : Nat} {s : State} {q : Route} (hq : s.router.routes[l]? = some q) :
    presentationOf l s = q.presented := by
  simp [presentationOf, hq]

theorem routeTag_of_route {l : Nat} {s : State} {q : Route} (hq : s.router.routes[l]? = some q) :
    routeTag l s = q.tag := by
  simp [routeTag, hq]

theorem mapRoute_of_route {l : Nat} {s : State} {q : Route} (f : Route → Route) (hq : s.router.routes[l]? = some q) :
    mapRoute l f s = s.withRouter { s.router with routes := s.router.routes.setIfInBounds l (f q) } := by
  simp [mapRoute, hq]

theorem mapDesk_of_desk {d : Nat} {s : State} {k : Desk} (f : Desk → Desk) (hk : s.router.desks[d]? = some k) :
    mapDesk d f s = s.withRouter { s.router with desks := s.router.desks.setIfInBounds d (f k) } := by
  simp [mapDesk, hk]

theorem recordOf_key {n line : Nat} {s : State} {r : OverrideRecord} (hr : recordOf n line s = some r) :
    r.basket = n ∧ r.line = line := by
  simpa using List.find?_some hr

/-- OVERRIDE OUTCOME for the record of a line names that basket and line. -/
theorem outcomeMessage_of_recordOf {n line : Nat} {s : State} {r : OverrideRecord} (hr : recordOf n line s = some r)
    (l : Nat) (outcome : OverrideOutcome) (cause : Option Cause) (desk : Option Nat) (op authorised count : Nat) :
    outcomeMessage l r outcome cause desk op authorised count = noticeTo .overrideOutcome (some l) (.overrideOutcome
      { basket := n, line := line, outcome := outcome, seq := r.seq, cause := cause, desk := desk
        operator := op, authorised := authorised, count := count }) := by
  obtain ⟨rfl, rfl⟩ := recordOf_key hr
  rfl

/-- The lanes of a recall, read off the routes. -/
theorem presentedLanes_eq (p : Route → Presentation → Bool) (s : State) :
    presentedLanes p s
      = (List.range 16).filter fun l => (s.router.routes[l]?).any fun q => q.presented.any (p q) := by
  refine List.filter_congr fun l _ => ?_
  cases hq : s.router.routes[l]? <;> simp

/-- A decided presentation ends on its route and at its desk, where both totals of R130 move. -/
theorem endPresentation_decided {l : Nat} {p : Presentation} {s : State} {q : Route} {d : Desk}
    (hq : s.router.routes[l]? = some q) (hd : s.router.desks[p.desk]? = some d) :
    endPresentation l p true s = s.withRouter
      { routes := s.router.routes.setIfInBounds l { q with presented := none }
        desks := s.router.desks.setIfInBounds p.desk { d with
          openCount := d.openCount - 1, decidedTotal := d.decidedTotal + 1 } } := by
  rw [endPresentation, mapRoute_of_route _ hq, mapDesk_of_desk _ (State.router_withRouter s _ ▸ hd)]
  rfl

/-! ### AUTHORISE and DECLINE (R129, R130) -/

section decision

variable {k : RequestKind} {h : Header} {grant : Bool} {desk op l : Nat} {tag : Byte} {s : State}

section checks

variable (hm : s.link.mode ≠ .maintenance) (hl : laneOf h = some l)
include hm hl

theorem decision_badField (hdesk : 4 ≤ desk) : decision k h grant desk tag op s = refuse k h .badField s := by
  rw [decision, onLane_of_lane hm hl]
  exact if_pos hdesk

variable {q : Route} (hdesk : desk < 4) (hq : s.router.routes[l]? = some q)
include hdesk hq

theorem decision_nothingPresented (hp : q.presented = none) :
    decision k h grant desk tag op s = answer k h .tooLate (.tooLate none) s := by
  simp only [decision, onLane_of_lane hm hl, if_neg (Nat.not_lt.2 (Nat.le_of_lt_succ hdesk)),
    presentationOf_of_route hq, hp]

/-- Past the fields a decision turns on the route's tag and the presented desk. -/
theorem decision_of_presented {p : Presentation} (hp : q.presented = some p) :
    decision k h grant desk tag op s =
      if q.tag = tag ∧ p.desk = desk then decisionTaken k h grant op l p s
      else answer k h .tooLate (.tooLate (some q.tag)) s := by
  simp only [decision, onLane_of_lane hm hl, if_neg (Nat.not_lt.2 (Nat.le_of_lt_succ hdesk)),
    presentationOf_of_route hq, routeTag_of_route hq, hp]

end checks

variable {p : Presentation} {r : OverrideRecord} {e f : Effect}

/-- A taken AUTHORISE: the record GRANTED by the desk as one change to its basket, then the pass. -/
theorem decisionTaken_grant (hr : recordOf p.basket p.line s = some r)
    (he : e = staleClaim [p.basket] ((endPresentation l p true s).withOverrides (s.overrides.map fun o =>
      if o.basket = p.basket ∧ o.line = p.line then grantByDesk p.desk op o else o)))
    (hf : f = presentationPass e.state) :
    decisionTaken k h true op l p s =
      { state := f.state
        sent := [replyTo k h .ok (.decided p.basket p.line p.seq),
          outcomeMessage l r .granted none (some p.desk) op r.reduction 0] ++ e.sent ++ f.sent } := by
  obtain ⟨hbasket, hline⟩ := recordOf_key hr
  have hclaim : staleClaim [r.basket]
      (mapRecord r.basket r.line (grantByDesk p.desk op) (endPresentation l p true s)) = e := by
    rw [he, mapRecord, endPresentation_overrides, hbasket, hline]
  simp only [decisionTaken, hr, if_true, hclaim]
  exact Effect.andThen_eq hf

/-- A taken DECLINE: the record removed as one change to its basket, then the pass. -/
theorem decisionTaken_decline (hr : recordOf p.basket p.line s = some r)
    (he : e = staleClaim [p.basket] ((endPresentation l p true s).withOverrides (s.overrides.filter fun o =>
      decide (¬ (o.basket = p.basket ∧ o.line = p.line)))))
    (hf : f = presentationPass e.state) :
    decisionTaken k h false op l p s =
      { state := f.state
        sent := [replyTo k h .ok (.decided p.basket p.line p.seq),
          outcomeMessage l r .declined (some .deskDeclined) (some p.desk) 0 0 0] ++ e.sent ++ f.sent } := by
  obtain ⟨hbasket, hline⟩ := recordOf_key hr
  have hclaim : staleClaim [r.basket] (removeRecord r.basket r.line (endPresentation l p true s)) = e := by
    rw [he, removeRecord_eq, endPresentation_overrides, hbasket, hline]
  simp only [decisionTaken, hr, Bool.false_eq_true, if_false, hclaim]
  exact Effect.andThen_eq hf

end decision

/-- AUTHORISE and DECLINE are one request of the router but for whether they grant. -/
theorem runOf_eq_decision {h : Header} {desk op : Nat} {tag : Byte} {c : Instr} {k : RequestKind}
    (hc : c = .authorise h desk tag op ∧ k = .authorise ∨ c = .decline h desk tag op ∧ k = .decline) :
    ownerOf c = some .router ∧ runOf c = decision k h (decide (k = .authorise)) desk tag op := by
  rcases hc with ⟨rfl, rfl⟩ | ⟨rfl, rfl⟩ <;> exact ⟨rfl, rfl⟩

/-- Settles O33: the clauses are the outcomes of `decision`; the record that a matching decision finds bears the
presentation's basket and line. -/
theorem decisionRule : Obligations.DecisionRule := by
  intro h desk tag op s c k hc hu
  obtain ⟨ho, hrun⟩ := runOf_eq_decision hc
  refine ⟨fun hm => refuses_wrongMode_of_onLane hu ho hrun hm, fun hm hbad => ?badField,
    fun hm hlane hdesk q hq => ⟨fun hp => ?nothing, fun p hp hother => ?other, ?taken⟩⟩
  case badField =>
    by_cases hlane : h.lane.toNat < 16
    case neg => exact refuses_badField_of_onLane hu ho hrun hm (Nat.not_lt.1 hlane)
    case pos =>
      have hdesk : 4 ≤ desk := hbad.resolve_left (Nat.not_le.2 hlane)
      exact refuses_of_refuse hu ho
        ((congrFun hrun _).trans (decision_badField (s := leaveQueue c s) hm (laneOf_eq_some hlane) hdesk))
  case nothing =>
    exact takes_of_answer hu ho ((congrFun hrun _).trans
      (decision_nothingPresented (s := leaveQueue c s) hm (laneOf_eq_some hlane) hdesk hq hp))
  case other =>
    exact takes_of_answer hu ho ((congrFun hrun _).trans
      ((decision_of_presented (s := leaveQueue c s) hm (laneOf_eq_some hlane) hdesk hq hp).trans
        (if_neg (not_and_or.2 hother))))
  case taken =>
    rintro p d r ended hp rfl rfl hd hr hended
    have hmatch := (congrFun hrun _).trans
      ((decision_of_presented (s := leaveQueue c s) hm (laneOf_eq_some hlane) hdesk hq hp).trans
        (if_pos ⟨rfl, rfl⟩))
    obtain rfl : ended = endPresentation h.lane.toNat p true (leaveQueue c s) :=
      hended.trans (endPresentation_decided (s := leaveQueue c s) hq hd).symm
    refine ⟨?granted, ?declined⟩
    case granted =>
      rintro rfl e f he hf
      rw [← outcomeMessage_of_recordOf hr]
      exact takes_of_runOf hu ho (hmatch.trans (decisionTaken_grant hr he hf))
    case declined =>
      rintro rfl e f he hf
      rw [← outcomeMessage_of_recordOf hr]
      exact takes_of_runOf hu ho (hmatch.trans (decisionTaken_decline hr he hf))

/-! ### The notice timer's expiry and DESK RECALL (R133, R134) -/

theorem noticeTimerExpiry_of_presented {l : Nat} {s : State} {e f : Effect} (hp : presentationOf l s ≠ none)
    (he : e = recallLane .timedOut l s) (hf : f = presentationPass e.state) :
    noticeTimerExpiry l s = { state := f.state, sent := e.sent ++ f.sent } := by
  obtain ⟨p, hp⟩ := Option.ne_none_iff_exists'.1 hp
  simp only [noticeTimerExpiry, hp, ← he, Effect.andThen_eq hf]

theorem deskRecall_badField {h : Header} {code : Nat} {s : State} (hcode : 256 ≤ code) :
    deskRecall h code s = refuse .deskRecall h .badField s :=
  if_pos hcode

theorem deskRecall_taken {h : Header} {code : Nat} {s : State} {ls : List Nat} {e f : Effect} (hcode : code < 256)
    (hls : ls = (List.range 16).filter fun i => (s.router.routes[i]?).any fun q =>
      q.presented.isSome && decide (q.code = code))
    (he : e = recallLanes .recalled ls s) (hf : f = presentationPass e.state) :
    deskRecall h code s =
      { state := f.state, sent := replyTo .deskRecall h .ok (.byte ls.length) :: e.sent ++ f.sent } := by
  have hlanes : presentedLanes (fun q _ => decide (q.code = code)) s = ls := by
    rw [hls, presentedLanes_eq]
    refine List.filter_congr fun l _ => congrArg ((s.router.routes[l]?).any ·) (funext fun q => ?_)
    cases q.presented <;> simp
  simp only [deskRecall, if_neg (Nat.not_lt.2 (Nat.le_of_lt_succ hcode)), hlanes, ← he, Effect.andThen_eq hf]
  rfl

/-! ### DESK DUTY (R135) -/

theorem switchOf_eq_none {n : Nat} (hn : 2 ≤ n) : switchOf n = none := by
  obtain ⟨m, rfl⟩ := Nat.exists_eq_add_of_le' hn
  rfl

theorem switchOf_eq_some {n : Nat} {on : Bool} (hn : n = 0 ∧ on = false ∨ n = 1 ∧ on = true) :
    switchOf n = some on := by
  rcases hn with ⟨rfl, rfl⟩ | ⟨rfl, rfl⟩ <;> rfl

theorem deskDuty_badField {h : Header} {desk duty : Nat} {s : State} (hbad : 4 ≤ desk ∨ 2 ≤ duty) :
    deskDuty h desk duty s = refuse .deskDuty h .badField s := by
  rcases hbad with hdesk | hduty
  · simp [deskDuty, Vector.getElem?_eq_none hdesk]
  · simp [deskDuty, switchOf_eq_none hduty]

section duty

variable {h : Header} {desk duty : Nat} {s : State} {k : Desk}

theorem deskDuty_unchanged {on : Bool} (hk : s.router.desks[desk]? = some k) (hon : switchOf duty = some on)
    (hsame : k.onDuty = on) : deskDuty h desk duty s = answer .deskDuty h .ok (.deskDuty on 0) s := by
  simp only [deskDuty, hk, hon, if_pos hsame]

variable {t : State} {e f : Effect}

theorem deskDuty_on (hk : s.router.desks[desk]? = some k) (hon : switchOf duty = some true) (hoff : k.onDuty = false)
    (ht : t = mapDesk desk (fun k => { k with onDuty := true }) s) (hf : f = presentationPass t) :
    deskDuty h desk duty s =
      { state := f.state, sent := replyTo .deskDuty h .ok (.deskDuty true 0) :: f.sent } := by
  simp only [deskDuty, hk, hon, hoff, Bool.false_eq_true, if_false, if_true, ← ht, ← hf]
  rfl

/-- The desk is off duty before the recalls, so that the pass after them does not find it available. -/
theorem deskDuty_off {ls : List Nat} (hk : s.router.desks[desk]? = some k) (hoff : switchOf duty = some false)
    (hon : k.onDuty = true) (ht : t = mapDesk desk (fun k => { k with onDuty := false }) s)
    (hls : ls = (List.range 16).filter fun i => (presentationOf i s).any fun p => decide (p.desk = desk))
    (he : e = recallLanes .deskOff ls t) (hf : f = presentationPass e.state) :
    deskDuty h desk duty s =
      { state := f.state, sent := replyTo .deskDuty h .ok (.deskDuty false ls.length) :: e.sent ++ f.sent } := by
  have hlanes : presentedLanes (fun _ p => decide (p.desk = desk)) s = ls := by
    rw [hls, presentedLanes_eq]
    refine List.filter_congr fun l _ => ?_
    cases hq : s.router.routes[l]? <;> simp [presentationOf, hq]
  simp only [deskDuty, hk, hoff, hon, Bool.true_eq_false, Bool.false_eq_true, if_false, hlanes, ← ht, ← he,
    Effect.andThen_eq hf]
  rfl

end duty

/-- Settles O35: each clause is one outcome of its event, with the lanes of the recall read off the routes. -/
theorem recallsAndDuty : Obligations.RecallsAndDuty := by
  intro h desk duty code l s
  refine ⟨?expiry, ?recalled, ?duty⟩
  case expiry =>
    rintro c rfl hu e f hp he hf
    exact takes_of_runOf hu rfl (noticeTimerExpiry_of_presented hp he hf)
  case recalled =>
    rintro c rfl hu
    refine ⟨fun hcode => refuses_of_refuse hu rfl (deskRecall_badField hcode), fun ls e f hcode hls he hf =>
      takes_of_runOf hu rfl (deskRecall_taken hcode hls he hf)⟩
  case duty =>
    rintro c rfl hu
    refine ⟨fun hbad => refuses_of_refuse hu rfl (deskDuty_badField hbad), fun k on turned hk hon hturned => ?_⟩
    have hset : turned = mapDesk desk (fun k => { k with onDuty := on }) (leaveQueue (.deskDuty h desk duty) s) :=
      hturned.trans
        (mapDesk_of_desk (s := leaveQueue (.deskDuty h desk duty) s) (fun k => { k with onDuty := on }) hk).symm
    refine ⟨fun hsame => takes_of_answer hu rfl (deskDuty_unchanged hk (switchOf_eq_some hon) hsame), ?on, ?off⟩
    case on =>
      rintro hoff rfl f hf
      exact takes_of_runOf hu rfl (deskDuty_on hk (switchOf_eq_some hon) hoff hset hf)
    case off =>
      rintro ls e f honDuty rfl hls he hf
      exact takes_of_runOf hu rfl (deskDuty_off hk (switchOf_eq_some hon) honDuty hset hls he hf)

end Sys2Proof.Machine
end

section
/-! Accounts and point holds (chapter 8): what a load, a refresh, an eviction, a REDEEM, a REDEEM RELEASE and the expiry
of a hold's timer do, as one equation per outcome of the rule, and the obligations on them. -/

namespace Sys2Proof.Machine

/-! ### One entry of the table -/

theorem findAccount_number {a : Nat} {s : State} {e : Account} (he : findAccount a s = some e) : e.number = a := by
  simpa using List.find?_some he

/-- A change of the entry numbered `a` that keeps its number is what a look-up of `a` then finds. -/
theorem findAccount_mapAccount {a : Nat} {f : Account → Account} {s : State} {e : Account}
    (hf : ∀ x, (f x).number = x.number) (he : findAccount a s = some e) :
    findAccount a (mapAccount a f s) = some (f e) := by
  have hp : ((fun x : Account => decide (x.number = a)) ∘ fun x => if x.number = a then f x else x)
      = fun x => decide (x.number = a) := by
    funext x
    by_cases hx : x.number = a <;> simp [hx, hf]
  have hfind : s.accounts.entries.find? (fun x => decide (x.number = a)) = some e := he
  rw [findAccount, mapAccount, State.accounts_withAccounts, List.find?_map, hp, hfind, Option.map_some,
    if_pos (findAccount_number he)]

/-- Account numbers name one entry each, so a change by number acts on the entry that the look-up finds. -/
theorem mapAccount_congr {a : Nat} {f g : Account → Account} {s : State} {e : Account}
    (hd : (s.accounts.entries.map Account.number).Nodup) (he : findAccount a s = some e) (hfg : f e = g e) :
    mapAccount a f s = mapAccount a g s := by
  have hmem : e ∈ s.accounts.entries := List.mem_of_find?_eq_some he
  have hentries : (s.accounts.entries.map fun x => if x.number = a then f x else x)
      = s.accounts.entries.map fun x => if x.number = a then g x else x := by
    refine List.map_congr_left fun x hx => ?_
    by_cases hn : x.number = a
    case neg => rw [if_neg hn, if_neg hn]
    case pos =>
      obtain rfl : x = e := List.inj_on_of_nodup_map hd hx hmem (hn.trans (findAccount_number he).symm)
      rw [if_pos hn, if_pos hn, hfg]
  rw [mapAccount, mapAccount, hentries]

/-! ### ACCOUNT LOAD (R145 to R147) -/

theorem accountLoad_badField {h : Header} {a tier : Nat} {flags : Flags} {balance : Nat} {s : State}
    (hbad : a = 0 ∨ 9999999999 < a ∨ 5 ≤ tier ∨ 99999999 < balance) :
    accountLoad h a tier flags balance s = refuse .accountLoad h .badField s := by
  rw [accountLoad]
  cases ht : tierOf tier with
  | none => rfl
  | some t =>
    have htier : ¬ 5 ≤ tier := by simp [← tierOf_eq_none_iff, ht]
    refine if_pos ?_
    by_cases hin : inRange 1 9999999999 a = true
    case neg => simp [hin]
    case pos =>
      have hrange := inRange_iff.1 hin
      have hbalance : 99999999 < balance := by omega
      simp [hbalance]

section load

variable {h : Header} {a tier : Nat} {flags : Flags} {balance : Nat} {s : State} {t : Tier}

/-- Fields in range pass R145's checks; what follows depends on whether the number is in the table. -/
theorem accountLoad_of_new (hlo : 1 ≤ a) (hhi : a ≤ 9999999999) (ht : tierOf tier = some t) (hb : balance ≤ 99999999)
    (he : findAccount a s = none) :
    accountLoad h a tier flags balance s = createAccount h a t flags balance s := by
  simp [accountLoad, ht, inRange_iff.2 ⟨hlo, hhi⟩, Nat.not_lt.2 hb, he]

theorem accountLoad_of_entry {e : Account} (hlo : 1 ≤ a) (hhi : a ≤ 9999999999) (ht : tierOf tier = some t)
    (hb : balance ≤ 99999999) (he : findAccount a s = some e) :
    accountLoad h a tier flags balance s = refreshAccount h e t flags balance s := by
  simp [accountLoad, ht, inRange_iff.2 ⟨hlo, hhi⟩, Nat.not_lt.2 hb, he]

theorem createAccount_of_room (hroom : s.accounts.entries.length < 256) :
    createAccount h a t flags balance s =
      { state := s.withAccounts
          { entries := s.accounts.entries ++
              [{ number := a, tier := t, flags := flags, balance := balance, holds := [], refs := 0 }]
            idle := s.accounts.idle ++ [a] }
        sent := [replyTo .accountLoad h .ok (.accountLoaded true none balance 0)] } :=
  if_pos hroom

theorem createAccount_of_full {old : Nat} {rest : List Nat} (hfull : 256 ≤ s.accounts.entries.length)
    (hidle : s.accounts.idle = old :: rest) :
    createAccount h a t flags balance s =
      { state := s.withAccounts
          { entries := (s.accounts.entries.filter fun x => decide (x.number ≠ old)) ++
              [{ number := a, tier := t, flags := flags, balance := balance, holds := [], refs := 0 }]
            idle := rest ++ [a] }
        sent := [replyTo .accountLoad h .ok (.accountLoaded true (some old) balance 0)] } := by
  simp only [createAccount, Config.accounts, if_neg (Nat.not_lt.2 hfull), hidle]
  rfl

variable {e : Account}

theorem refreshAccount_holdsExceed (hheld : balance < heldTotal e) :
    refreshAccount h e t flags balance s = answer .accountLoad h .holdsExceed (.word (heldTotal e)) s :=
  if_pos hheld

/-- The state after a refresh, before any stale claim: the fields of the entry, and an idle entry at the tail of the
idle list. -/
def refreshed (e : Account) (t : Tier) (flags : Flags) (balance : Nat) (s : State) : State :=
  s.withAccounts
    { entries := s.accounts.entries.map fun x =>
        if x.number = e.number then { x with tier := t, flags := flags, balance := balance } else x
      idle := if e.refs = 0 then (s.accounts.idle.filter fun x => decide (x ≠ e.number)) ++ [e.number]
        else s.accounts.idle }

/-- A refresh at or above the held total: it names the attached baskets when tier or flags change (R147). -/
theorem refreshAccount_taken (hheld : heldTotal e ≤ balance) :
    refreshAccount h e t flags balance s =
      (if t ≠ e.tier ∨ flags ≠ e.flags then
          staleClaim (attachedBaskets e.number s) (refreshed e t flags balance s)
        else nothing (refreshed e t flags balance s)).after
        [replyTo .accountLoad h .ok (.accountLoaded false none (balance - heldTotal e) e.refs)] := by
  have hstate : (if e.refs = 0 then joinIdle e.number (leaveIdle e.number
        (mapAccount e.number (fun x => { x with tier := t, flags := flags, balance := balance }) s))
      else mapAccount e.number (fun x => { x with tier := t, flags := flags, balance := balance }) s)
      = refreshed e t flags balance s := by
    rw [refreshed]
    split <;> rfl
  simp only [refreshAccount, if_neg (Nat.not_lt.2 hheld), hstate]
  rfl

end load

/-! ### ACCOUNT EVICT (R148) -/

theorem accountEvict_badField {h : Header} {a : Nat} {s : State} (ha : a = 0 ∨ 9999999999 < a) :
    accountEvict h a s = refuse .accountEvict h .badField s := by
  have hout : ¬ inRange 1 9999999999 a = true := by rw [inRange_iff]; omega
  simp [accountEvict, hout]

theorem accountEvict_notLoaded {h : Header} {a : Nat} {s : State} (hlo : 1 ≤ a) (hhi : a ≤ 9999999999)
    (he : findAccount a s = none) : accountEvict h a s = refuse .accountEvict h .notLoaded s := by
  simp [accountEvict, inRange_iff.2 ⟨hlo, hhi⟩, he]

theorem accountEvict_of_entry {h : Header} {a : Nat} {s : State} {e : Account} (hlo : 1 ≤ a) (hhi : a ≤ 9999999999)
    (he : findAccount a s = some e) :
    accountEvict h a s =
      if e.refs ≠ 0 ∨ e.holds ≠ [] then answer .accountEvict h .inUse (.byte e.refs) s
      else answer .accountEvict h .ok (.word e.balance)
        (s.withAccounts
          { entries := s.accounts.entries.filter fun x => decide (x.number ≠ a)
            idle := s.accounts.idle.filter fun x => decide (x ≠ a) }) := by
  simp [accountEvict, inRange_iff.2 ⟨hlo, hhi⟩, he, Nat.pos_iff_ne_zero]

/-- Settles O38: the clauses are the outcomes of a load that makes an entry, of a refresh and of an eviction. -/
theorem accountLoadAndEvict : Obligations.AccountLoadAndEvict := by
  intro h a tier flags balance s
  refine ⟨?load, ?evict⟩
  case load =>
    rintro c rfl hu
    refine ⟨fun hbad => refuses_of_refuse hu rfl (accountLoad_badField hbad), fun t hlo hhi ht hb => ⟨?create, ?refresh⟩⟩
    case create =>
      rintro fresh hnone rfl
      have hcreate := accountLoad_of_new (h := h) (flags := flags)
        (s := leaveQueue (.accountLoad h a tier flags balance) s) hlo hhi ht hb hnone
      exact ⟨fun hroom => takes_of_runOf hu rfl (hcreate.trans (createAccount_of_room hroom)),
        fun old rest hfull hidle => takes_of_runOf hu rfl (hcreate.trans (createAccount_of_full hfull hidle))⟩
    case refresh =>
      rintro e held after f he rfl rfl rfl
      obtain rfl : e.number = a := findAccount_number he
      have hrefresh := accountLoad_of_entry (h := h) (flags := flags)
        (s := leaveQueue (.accountLoad h e.number tier flags balance) s) hlo hhi ht hb he
      refine ⟨fun hlow => takes_of_answer hu rfl (hrefresh.trans (refreshAccount_holdsExceed hlow)),
        fun hheld htier hflags => ?same, fun hheld hchange => ?changed⟩
      case same =>
        rw [refreshAccount_taken hheld, if_neg (by simp [htier, hflags])] at hrefresh
        exact takes_of_runOf hu rfl hrefresh
      case changed =>
        rw [refreshAccount_taken hheld, if_pos hchange] at hrefresh
        exact takes_of_runOf hu rfl hrefresh
  case evict =>
    rintro c rfl hu
    refine ⟨fun ha => refuses_of_refuse hu rfl (accountEvict_badField ha),
      fun hlo hhi he => refuses_of_refuse hu rfl (accountEvict_notLoaded hlo hhi he), fun e hlo hhi he => ?_⟩
    have hevict := accountEvict_of_entry (h := h) (s := leaveQueue (.accountEvict h a) s) hlo hhi he
    exact ⟨fun huse => takes_of_answer hu rfl (hevict.trans (if_pos huse)),
      fun hrefs hholds => takes_of_answer hu rfl (hevict.trans (if_neg (by simp [hrefs, hholds])))⟩

/-! ### The holds of an entry -/

theorem holdOf_eq_none_iff {n : Nat} {e : Account} : holdOf n e = none ↔ ∀ x ∈ e.holds, x.basket ≠ n := by
  simp [holdOf]

theorem holdOf_isSome_iff {n : Nat} {e : Account} : (holdOf n e).isSome = true ↔ ∃ x ∈ e.holds, x.basket = n := by
  simp [holdOf]

/-- The points of all holds of a list. -/
def pointsOf (xs : List Hold) : Nat := (xs.map Hold.points).sum

@[simp] theorem pointsOf_cons (x : Hold) (xs : List Hold) : pointsOf (x :: xs) = x.points + pointsOf xs := rfl

/-- The hold list after a REDEEM that passes R151: the basket's hold let go, amended, or placed at the tail
(R152, R153). -/
def holdsAfter (n l points timer : Nat) (xs : List Hold) : List Hold :=
  if points = 0 then xs.filter fun x => decide (x.basket ≠ n)
  else if ∃ x ∈ xs, x.basket = n then
    xs.map fun x => if x.basket = n then { x with points := points, timer := timer } else x
  else xs ++ [{ basket := n, lane := l, points := points, timer := timer }]

theorem holdsAfter_zero {n l timer : Nat} {xs : List Hold} :
    holdsAfter n l 0 timer xs = xs.filter fun x => decide (x.basket ≠ n) := if_pos rfl

theorem holdsAfter_of_held {n l points timer : Nat} {xs : List Hold} (hpos : 0 < points)
    (hsome : ∃ x ∈ xs, x.basket = n) :
    holdsAfter n l points timer xs =
      xs.map fun x => if x.basket = n then { x with points := points, timer := timer } else x :=
  (if_neg hpos.ne').trans (if_pos hsome)

theorem holdsAfter_of_new {n l points timer : Nat} {xs : List Hold} (hpos : 0 < points)
    (hnone : ∀ x ∈ xs, x.basket ≠ n) :
    holdsAfter n l points timer xs = xs ++ [{ basket := n, lane := l, points := points, timer := timer }] :=
  (if_neg hpos.ne').trans (if_neg fun ⟨x, hx, hn⟩ => hnone x hx hn)

theorem placeHold_eq (n l a points : Nat) (s : State) :
    placeHold n l a points s =
      mapAccount a (fun e =>
        { e with holds := holdsAfter n l points (1000 * s.tables.limits.holdLifetime) e.holds }) s := by
  refine congrArg (mapAccount a · s) (funext fun e => ?_)
  by_cases hp : points = 0
  case pos => simp [hp, removeHold, holdsAfter]
  case neg =>
    cases hh : holdOf n e with
    | none =>
      have hnone : ¬ ∃ x ∈ e.holds, x.basket = n := fun ⟨x, hx, hn⟩ => holdOf_eq_none_iff.1 hh x hx hn
      simp only [hp, holdsAfter, hnone, if_false]
    | some x =>
      have hsome : ∃ x ∈ e.holds, x.basket = n := holdOf_isSome_iff.1 (Option.isSome_of_eq_some hh)
      simp only [hp, holdsAfter, hsome, if_true, if_false]

/-- An entry numbered once has the hold list of its own after a REDEEM. -/
theorem placeHold_of_entry {n l a points : Nat} {s : State} {e : Account} {xs : List Hold}
    (hd : (s.accounts.entries.map Account.number).Nodup) (he : findAccount a s = some e)
    (hxs : holdsAfter n l points (1000 * s.tables.limits.holdLifetime) e.holds = xs) :
    placeHold n l a points s = mapAccount a (fun x => { x with holds := xs }) s := by
  rw [placeHold_eq]
  exact mapAccount_congr hd he (by rw [hxs])

theorem pointsOf_placed {n l points timer : Nat} {xs : List Hold} (hnone : ∀ x ∈ xs, x.basket ≠ n) :
    pointsOf (xs ++ [{ basket := n, lane := l, points := points, timer := timer }])
      = pointsOf (xs.filter fun x => decide (x.basket ≠ n)) + points := by
  rw [List.filter_eq_self.2 fun x hx => decide_eq_true (hnone x hx)]
  simp [pointsOf]

/-- A basket has one hold on an entry, so amending it adds its new points to those of the others. -/
theorem pointsOf_amended {n points timer : Nat} {xs : List Hold} (hd : (xs.map Hold.basket).Nodup)
    (hsome : ∃ x ∈ xs, x.basket = n) :
    pointsOf (xs.map fun x => if x.basket = n then { x with points := points, timer := timer } else x)
      = pointsOf (xs.filter fun x => decide (x.basket ≠ n)) + points := by
  induction xs with
  | nil => simp at hsome
  | cons x rest ih =>
    obtain ⟨hfirst, hrest⟩ := List.nodup_cons.1 hd
    by_cases hx : x.basket = n
    case pos =>
      have hothers : ∀ y ∈ rest, y.basket ≠ n := fun y hy hn => hfirst (List.mem_map.2 ⟨y, hy, hn.trans hx.symm⟩)
      have hmap : (rest.map fun x => if x.basket = n then { x with points := points, timer := timer } else x) = rest :=
        List.map_congr_left (g := id) (fun y hy => if_neg (hothers y hy)) |>.trans (List.map_id rest)
      have hfilter : (rest.filter fun x => decide (x.basket ≠ n)) = rest :=
        List.filter_eq_self.2 fun y hy => decide_eq_true (hothers y hy)
      rw [List.map_cons, hmap, List.filter_cons_of_neg (by simp [hx]), hfilter, if_pos hx, pointsOf_cons, Nat.add_comm]
    case neg =>
      have hin : ∃ y ∈ rest, y.basket = n := by simpa [hx] using hsome
      simp [hx, ih hrest hin, Nat.add_assoc]

/-! ### REDEEM (R151 to R153) -/

section redeem

variable {h : Header} {n points l a : Nat} {b : Basket} {s : State} {e : Account}

theorem redeem_planStale (hs : Served h n l b s) (hb : b.state = .opened) :
    redeem h n points s = refuse .redeem h .planStale s := by
  rw [redeem, onServed_of_served hs]
  exact if_pos hb

theorem redeem_evaluating (hs : Served h n l b s) (hb : b.state = .totalling) :
    redeem h n points s = refuse .redeem h .evaluating s := by
  rw [redeem, onServed_of_served hs]
  simp [hb]

theorem redeem_badField (hs : Served h n l b s) (hb : b.state = .totalled) (hp : 99999999 < points) :
    redeem h n points s = refuse .redeem h .badField s := by
  rw [redeem, onServed_of_served hs]
  simp [hb, hp]

theorem redeem_noAccount (hs : Served h n l b s) (hb : b.state = .totalled) (hp : points ≤ 99999999)
    (ha : b.account = none) : redeem h n points s = refuse .redeem h .noAccount s := by
  rw [redeem, onServed_of_served hs]
  simp [hb, Nat.not_lt.2 hp, ha]

/-- REDEEM in a TOTALLED basket with an account: the last three checks of R151, then the hold. -/
theorem redeem_of_entry (hs : Served h n l b s) (hb : b.state = .totalled) (hp : points ≤ 99999999)
    (ha : b.account = some a) (he : findAccount a s = some e) :
    redeem h n points s =
      if planPayable b < redemptionValue points s then answer .redeem h .redeemExceeds (.word (planPayable b)) s
      else if e.balance - othersHeld n e < points then
        answer .redeem h .insufficient (.word (e.balance - othersHeld n e)) s
      else if (∀ x ∈ e.holds, x.basket ≠ n) ∧ 0 < points ∧ 4 ≤ e.holds.length then refuse .redeem h .holdsFull s
      else
        { state := placeHold n l a points s, sent := [redeemedReply h a points (placeHold n l a points s)] } := by
  rw [redeem, onServed_of_served hs]
  simp only [hb, ha, reduceCtorEq, if_false, Config.maxBalance, Config.holds, if_neg (Nat.not_lt.2 hp),
    Option.bind_some, he, Option.isNone_iff_eq_none, holdOf_eq_none_iff, findAccount_number he]

/-- A REDEEM that passes every check leaves the new hold list and tells of the points still available after it. -/
theorem redeem_taken {xs : List Hold} (hs : Served h n l b s) (hb : b.state = .totalled) (hp : points ≤ 99999999)
    (ha : b.account = some a) (he : findAccount a s = some e)
    (hd : (s.accounts.entries.map Account.number).Nodup)
    (hvalue : redemptionValue points s ≤ planPayable b) (havail : points ≤ e.balance - othersHeld n e)
    (hroom : ¬ ((∀ x ∈ e.holds, x.basket ≠ n) ∧ 0 < points ∧ 4 ≤ e.holds.length))
    (hxs : holdsAfter n l points (1000 * s.tables.limits.holdLifetime) e.holds = xs)
    (hsum : pointsOf xs = othersHeld n e + points) :
    redeem h n points s =
      { state := mapAccount a (fun x => { x with holds := xs }) s
        sent := [replyTo .redeem h .ok (.redeemed points (redemptionValue points s)
          (if points = 0 then 0 else s.tables.limits.holdLifetime) (e.balance - (othersHeld n e + points)))] } := by
  have hfound : findAccount a (mapAccount a (fun x => { x with holds := xs }) s) = some { e with holds := xs } :=
    findAccount_mapAccount (fun _ => rfl) he
  rw [redeem_of_entry hs hb hp ha he, if_neg (Nat.not_lt.2 hvalue), if_neg (Nat.not_lt.2 havail), if_neg hroom,
    placeHold_of_entry hd he hxs, redeemedReply, hfound, ← hsum]
  rfl

end redeem

/-- Settles O39: the clauses are the checks in order, then the three hold lists a REDEEM that passes them can leave. -/
theorem redeemRule : Obligations.RedeemRule := by
  rintro h n points l b s c rfl hu hserved
  have hs := served_leaveQueue (.redeem h n points) hserved
  refine ⟨fun hb => refuses_of_refuse hu rfl (redeem_planStale hs hb),
    fun hb => refuses_of_refuse hu rfl (redeem_evaluating hs hb),
    fun hb hp => refuses_of_refuse hu rfl (redeem_badField hs hb hp),
    fun hb hp ha => refuses_of_refuse hu rfl (redeem_noAccount hs hb hp ha), ?_⟩
  rintro a payable others value p e held hb hp hplan hpay ha he rfl rfl rfl hd
  obtain rfl : planPayable b = payable := by simp [planPayable, hplan, hpay]
  have hchecks := redeem_of_entry (points := points) hs hb hp ha he
  refine ⟨fun hexceeds => takes_of_answer hu rfl (hchecks.trans (if_pos hexceeds)),
    fun hvalue hshort => takes_of_answer hu rfl
      (hchecks.trans ((if_neg (Nat.not_lt.2 hvalue)).trans (if_pos hshort))),
    fun hvalue havail hpos hnone => ⟨fun hfull => ?full, fun hroom => ?placed⟩,
    fun hvalue havail hpos hsome hholds => ?amended, fun hzero => ?letGo⟩
  case full =>
    exact refuses_of_refuse hu rfl (hchecks.trans ((if_neg (Nat.not_lt.2 hvalue)).trans
      ((if_neg (Nat.not_lt.2 havail)).trans (if_pos ⟨hnone, hpos, hfull⟩))))
  case placed =>
    have htaken := redeem_taken hs hb hp ha he hd hvalue havail (fun ⟨_, _, hfull⟩ => Nat.not_le.2 hroom hfull)
      (holdsAfter_of_new hpos hnone) (pointsOf_placed hnone)
    rw [if_neg hpos.ne'] at htaken
    exact takes_of_runOf hu rfl htaken
  case amended =>
    have hheld : ¬ ∀ x ∈ e.holds, x.basket ≠ n := fun hno => hsome.elim fun x ⟨hx, hn⟩ => hno x hx hn
    have htaken := redeem_taken hs hb hp ha he hd hvalue havail (fun ⟨hno, _⟩ => hheld hno)
      (holdsAfter_of_held hpos hsome) (pointsOf_amended hholds hsome)
    rw [if_neg hpos.ne'] at htaken
    exact takes_of_runOf hu rfl htaken
  case letGo =>
    subst hzero
    have hvalue : redemptionValue 0 (leaveQueue (.redeem h n 0) s) = 0 := by simp [redemptionValue]
    have htaken := redeem_taken hs hb hp ha he hd (hvalue.trans_le (Nat.zero_le _)) (Nat.zero_le _)
      (fun ⟨_, hpos, _⟩ => Nat.lt_irrefl 0 hpos) holdsAfter_zero rfl
    rw [hvalue] at htaken
    exact takes_of_runOf hu rfl htaken

/-! ### REDEEM RELEASE and the hold timer's expiry (R154, R155) -/

section ends

variable {h : Header} {n l a : Nat} {b : Basket} {s : State} {e : Account}

theorem redeemRelease_noAccount (hs : Served h n l b s) (ha : b.account = none) :
    redeemRelease h n s = refuse .redeemRelease h .noAccount s := by
  rw [redeemRelease, onServed_of_served hs, ha]

/-- The points released are those of the basket's hold, or 0 with none. -/
theorem redeemRelease_of_entry (hs : Served h n l b s) (ha : b.account = some a) (he : findAccount a s = some e) :
    redeemRelease h n s =
      answer .redeemRelease h .ok (.word (((holdOf n e).map Hold.points).getD 0)) (mapAccount a (removeHold n) s) := by
  have ⟨_, _, hb, _, _⟩ := hs
  rw [redeemRelease, onServed_of_served hs]
  simp [heldPoints, basketHold, ha, he, findBasket_number hb]

theorem holdEntry_eq (n : Nat) (s : State) :
    holdEntry n s = s.accounts.entries.find? fun e => e.holds.any fun y => decide (y.basket = n) := by
  simp only [holdEntry, holdOf, List.isSome_find?]

theorem holdTimerExpiry_of_hold {x : Hold} (he : holdEntry n s = some e) (hx : holdOf n e = some x) :
    holdTimerExpiry n s =
      { state := mapAccount e.number (removeHold n) s
        sent := [noticeTo .holdLapsed (some x.lane) (.holdLapsed n e.number x.points)] } := by
  simp only [holdTimerExpiry, he, hx]

end ends

/-- Settles O40: the clauses are the outcomes of REDEEM RELEASE and the expiry of the timer of a hold that stands. -/
theorem holdsEnd : Obligations.HoldsEnd := by
  intro h n s
  refine ⟨?release, ?expiry⟩
  case release =>
    rintro c l b rfl hu hserved
    have hs := served_leaveQueue (.redeemRelease h n) hserved
    refine ⟨fun ha => refuses_of_refuse hu rfl (redeemRelease_noAccount hs ha), fun a e ha he points hpoints => ?_⟩
    have hreleased : ((holdOf n e).map Hold.points).getD 0 = points := by
      rcases hpoints with ⟨x, hx, rfl⟩ | ⟨hnone, rfl⟩
      · simp [holdOf, hx]
      · simp [holdOf_eq_none_iff.2 hnone]
    exact takes_of_answer hu rfl (hreleased ▸ redeemRelease_of_entry hs ha he)
  case expiry =>
    rintro c rfl hu e x he hx
    exact takes_of_runOf hu rfl (holdTimerExpiry_of_hold ((holdEntry_eq n _).trans he) hx)

end Sys2Proof.Machine
end

section
/-! Settlement and the journal (chapter 9): what the end of a basket leaves in each block, what SETTLE answers as one
equation per outcome of R163, the park timer's expiry, JOURNAL TAKE and JOURNAL COUNT, and the obligations on them. -/

namespace Sys2Proof.Machine

/-! ### The journal (R160 to R162) -/

@[simp] theorem appendRecord_settlement (r : JournalRecord) (s : State) :
    (appendRecord r s).settlement = { s.settlement with journal := s.settlement.journal ++ [r] } := rfl

theorem journalFull_iff {s : State} : journalFull s = true ↔ 128 ≤ s.settlement.journal.length := decide_eq_true_iff

/-- The notice of an append goes by the count before it. -/
theorem journalWaitingNotice_of_append {r : JournalRecord} {s t : State}
    (hj : t.settlement = { s.settlement with journal := s.settlement.journal ++ [r] }) (ht : t.tables = s.tables) :
    journalWaitingNotice t =
      if s.settlement.journal.length + 1 = s.tables.limits.threshold then
        [noticeTo .journalWaiting none (.journalWaiting (s.settlement.journal.length + 1) s.settlement.waiting
          s.tables.limits.threshold)]
      else [] := by
  simp [journalWaitingNotice, hj, ht]

/-! ### A context becomes FREE (R6, R184) -/

theorem endQuiescing_link (s : State) :
    (endQuiescing s).link = { s.link with
      mode := if s.link.mode = .quiescing ∧ s.basketTable.baskets = [] then .maintenance else s.link.mode } := by
  unfold endQuiescing
  split <;> rfl

theorem freeBasket_basketTable (n : Nat) (s : State) :
    (freeBasket n s).basketTable = { s.basketTable with
      baskets := s.basketTable.baskets.filter fun b => decide (b.number ≠ n)
      lanes := s.basketTable.lanes.map fun r => if r.active = some n then { r with active := none } else r
      parkList := s.basketTable.parkList.filter fun m => decide (m ≠ n) } :=
  endQuiescing_basketTable _

theorem freeBasket_link (n : Nat) (s : State) :
    (freeBasket n s).link = { s.link with
      mode := if s.link.mode = .quiescing ∧ (s.basketTable.baskets.filter fun b => decide (b.number ≠ n)) = [] then
        .maintenance else s.link.mode } :=
  endQuiescing_link _

/-! ### The account of a basket that ends (R150, R158, R159) -/

/-- A change of an entry that keeps its number and reference count, with one reference less after it. -/
theorem dropReference_mapAccount {a : Nat} {f : Account → Account} {s : State} {e : Account}
    (hn : ∀ x, (f x).number = x.number) (hr : ∀ x, (f x).refs = x.refs) (he : findAccount a s = some e) :
    (dropReference a (mapAccount a f s)).accounts =
      { entries := s.accounts.entries.map fun x => if x.number = a then { f x with refs := x.refs - 1 } else x
        idle := if e.refs = 1 then s.accounts.idle ++ [a] else s.accounts.idle } := by
  have hentry (x : Account) : (if (if x.number = a then f x else x).number = a then
        { (if x.number = a then f x else x) with refs := (if x.number = a then f x else x).refs - 1 }
      else if x.number = a then f x else x)
      = if x.number = a then { f x with refs := x.refs - 1 } else x := by
    by_cases hx : x.number = a <;> simp [hx, hn, hr]
  rw [dropReference_of_entry (findAccount_mapAccount hn he)]
  simp [mapAccount, Function.comp_def, hentry, hr]

theorem dropAccount_of_none {b : Basket} {s : State} (ha : b.account = none) : dropAccount b s = s := by
  simp only [dropAccount, ha]

theorem dropAccount_of_entry {b : Basket} {s : State} {a : Nat} {e : Account} (ha : b.account = some a)
    (he : findAccount a s = some e) :
    (dropAccount b s).accounts =
      { entries := s.accounts.entries.map fun x => if x.number = a then
          { x with refs := x.refs - 1, holds := x.holds.filter fun y => decide (y.basket ≠ b.number) } else x
        idle := if e.refs = 1 then s.accounts.idle ++ [a] else s.accounts.idle } := by
  simp only [dropAccount, ha]
  exact dropReference_mapAccount (fun _ => rfl) (fun _ => rfl) he

theorem commitAccount_of_none {b : Basket} {redeemed earned : Nat} {s : State} (ha : b.account = none) :
    commitAccount b redeemed earned s = s := by
  simp only [commitAccount, ha]

theorem commitAccount_of_entry {b : Basket} {redeemed earned : Nat} {s : State} {a : Nat} {e : Account}
    (ha : b.account = some a) (he : findAccount a s = some e) :
    (commitAccount b redeemed earned s).accounts =
      { entries := s.accounts.entries.map fun x => if x.number = a then
          { x with balance := min (x.balance - redeemed + earned) 99999999, refs := x.refs - 1
                   holds := x.holds.filter fun y => decide (y.basket ≠ b.number) } else x
        idle := if e.refs = 1 then s.accounts.idle ++ [a] else s.accounts.idle } := by
  simp only [commitAccount, ha]
  exact dropReference_mapAccount (fun _ => rfl) (fun _ => rfl) he

theorem creditOf_of_none {b : Basket} {redeemed earned : Nat} {s : State} (ha : b.account = none) :
    creditOf b redeemed earned s = none := by
  simp [creditOf, ha]

theorem creditOf_of_entry {b : Basket} {redeemed earned : Nat} {s : State} {a : Nat} {e : Account}
    (ha : b.account = some a) (he : findAccount a s = some e) :
    creditOf b redeemed earned s =
      some (earned, min (e.balance - redeemed + earned) 99999999,
        (e.balance - redeemed + earned) - min (e.balance - redeemed + earned) 99999999) := by
  simp [creditOf, ha, he, balanceAfter, Config.maxBalance]

/-! ### SETTLE (R163 to R166) -/

/-- The PENDING records of a basket, which R163 counts. -/
theorem filter_isPending_basketRecords (n : Nat) (s : State) :
    (basketRecords n s).filter isPending = s.overrides.filter fun r => decide (r.basket = n) && isPending r := by
  simp only [basketRecords, List.filter_filter, Bool.and_comm]

section settle

variable {h : Header} {n points l : Nat} {b : Basket} {s : State}

theorem settle_badField (hs : Served h n l b s) (hp : 99999999 < points) :
    settle h n points s = refuse .settle h .badField s := by
  rw [settle, onServed_of_served hs]
  exact if_pos hp

theorem settle_evaluating (hs : Served h n l b s) (hp : points ≤ 99999999) (hb : b.state = .totalling) :
    settle h n points s = refuse .settle h .evaluating s := by
  rw [settle, onServed_of_served hs]
  exact (if_neg (Nat.not_lt.2 hp)).trans (if_pos hb)

theorem settle_planStale (hs : Served h n l b s) (hp : points ≤ 99999999) (hb : b.state = .opened) :
    settle h n points s = refuse .settle h .planStale s := by
  rw [settle, onServed_of_served hs]
  simp [currentPlan, hb, Config.maxBalance, Nat.not_lt.2 hp]

/-- SETTLE of a TOTALLED basket with a plan: the last five checks of R163 in order, then the commit. -/
theorem settle_of_plan {p : Plan} {waiting held value : Nat} (hs : Served h n l b s) (hp : points ≤ 99999999)
    (hb : b.state = .totalled) (hplan : b.plan = some p)
    (hwaiting : waiting = (s.overrides.filter fun r => decide (r.basket = n) && isPending r).length)
    (hheld : held = heldPoints b s) (hvalue : value = redemptionValue held s) :
    settle h n points s =
      if b.lines = [] then refuse .settle h .empty s
      else if waiting ≠ 0 then answer .settle h .overridePending (.byte waiting) s
      else if points ≠ 0 ∧ held = 0 then refuse .settle h .holdLapsed s
      else if points ≠ held then answer .settle h .redemptionMismatch (.word held) s
      else if p.payable < value then answer .settle h .redeemExceeds (.settleExceeds p.payable value) s
      else if 128 ≤ s.settlement.journal.length then refuse .settle h .journalFull s
      else settleTaken h l b p s := by
  subst hwaiting hheld hvalue
  rw [settle, onServed_of_served hs]
  simp only [currentPlan, hb, hplan, reduceCtorEq, if_false, if_true, Config.maxBalance, if_neg (Nat.not_lt.2 hp),
    filter_isPending_basketRecords, Nat.pos_iff_ne_zero, journalFull_iff]

end settle

section settleTaken

variable {h : Header} {l : Nat} {b : Basket} {p : Plan} {s : State}

theorem settleTaken_settlement :
    (settleTaken h l b p s).state.settlement = { s.settlement with
      journal := s.settlement.journal ++ [.settled (settledRecord l b p (heldPoints b s) s)] } := by
  simp [settleTaken]

theorem settleTaken_accounts :
    (settleTaken h l b p s).state.accounts = (commitAccount b (heldPoints b s) p.points s).accounts := by
  simp [settleTaken]

theorem settleTaken_accounts_of_none (ha : b.account = none) :
    (settleTaken h l b p s).state.accounts = s.accounts := by
  rw [settleTaken_accounts, commitAccount_of_none ha]

theorem settleTaken_overrides :
    (settleTaken h l b p s).state.overrides = s.overrides.filter fun r => decide (r.basket ≠ b.number) := by
  simp [settleTaken, removeRecords]

theorem settleTaken_basketTable :
    (settleTaken h l b p s).state.basketTable = { s.basketTable with
      baskets := s.basketTable.baskets.filter fun x => decide (x.number ≠ b.number)
      lanes := s.basketTable.lanes.map fun r => if r.active = some b.number then { r with active := none } else r
      parkList := s.basketTable.parkList.filter fun m => decide (m ≠ b.number) } := by
  simp [settleTaken, freeBasket_basketTable]

theorem settleTaken_link :
    (settleTaken h l b p s).state.link = { s.link with
      mode := if s.link.mode = .quiescing ∧ (settleTaken h l b p s).state.basketTable.baskets = [] then .maintenance
        else s.link.mode } := by
  rw [settleTaken_basketTable]
  simp [settleTaken, freeBasket_link]

/-- The blocks that a settlement leaves as they were. -/
theorem settleTaken_frame :
    (settleTaken h l b p s).state.store = s.store ∧ (settleTaken h l b p s).state.tables = s.tables
    ∧ (settleTaken h l b p s).state.calendar = s.calendar ∧ (settleTaken h l b p s).state.router = s.router
    ∧ (settleTaken h l b p s).state.evaluator = s.evaluator
    ∧ (settleTaken h l b p s).state.pending = s.pending := by
  simp [settleTaken]

/-- The reply with the figures of R165, then JOURNAL WAITING at the threshold. -/
theorem settleTaken_sent {held value : Nat} (hheld : held = heldPoints b s) (hvalue : value = redemptionValue held s) :
    (settleTaken h l b p s).sent =
      replyTo .settle h .ok (.settled
        { basket := b.number, planSeq := p.seq, payable := p.payable, redeemed := held, redemptionValue := value
          amountDue := p.payable - value, points := p.points
          balance := (creditOf b held p.points s).map fun c => c.2.1
          records := s.settlement.journal.length + 1 })
        :: (if s.settlement.journal.length + 1 = s.tables.limits.threshold then
            [noticeTo .journalWaiting none (.journalWaiting (s.settlement.journal.length + 1) s.settlement.waiting
              s.tables.limits.threshold)]
          else []) := by
  subst hheld hvalue
  have hnotice := journalWaitingNotice_of_append (settleTaken_settlement (h := h) (l := l) (b := b) (p := p) (s := s))
    settleTaken_frame.2.1
  rw [← hnotice]
  simp [settleTaken, settledRecord]

end settleTaken

/-- Settles O55: the clauses are the checks of R163 in order, then what the commit leaves in each block. -/
theorem settleRule : Obligations.SettleRule := by
  rintro h n points l b s c rfl hu hserved
  have hs := served_leaveQueue (.settle h n points) hserved
  obtain rfl : b.number = n := findBasket_number hs.2.2.1
  refine ⟨fun hp => refuses_of_refuse hu rfl (settle_badField hs hp),
    fun hp hb => refuses_of_refuse hu rfl (settle_planStale hs hp hb),
    fun hp hb => refuses_of_refuse hu rfl (settle_evaluating hs hp hb), ?_⟩
  intro p waiting held value hp hb hplan hwaiting hheld hvalue
  have hchecks := settle_of_plan hs hp hb hplan hwaiting hheld hvalue
  have hwait (hl : b.lines ≠ []) := hchecks.trans (if_neg hl)
  have hpoints (hl : b.lines ≠ []) (hw : waiting = 0) := (hwait hl).trans (if_neg (not_not.2 hw))
  have hfigure (hl : b.lines ≠ []) (hw : waiting = 0) (heq : points = held) :=
    ((hpoints hl hw).trans (if_neg fun ⟨hpos, hzero⟩ => hpos (heq.trans hzero))).trans (if_neg (not_not.2 heq))
  have hroom (hl : b.lines ≠ []) (hw : waiting = 0) (heq : points = held) (hv : value ≤ p.payable) :=
    (hfigure hl hw heq).trans (if_neg (Nat.not_lt.2 hv))
  refine ⟨fun hl => refuses_of_refuse hu rfl (hchecks.trans (if_pos hl)),
    fun hl hw => takes_of_answer hu rfl ((hwait hl).trans (if_pos hw)),
    fun hl hw hpos hzero => refuses_of_refuse hu rfl ((hpoints hl hw).trans (if_pos ⟨hpos, hzero⟩)),
    fun hl hw hne hsome => takes_of_answer hu rfl
      (((hpoints hl hw).trans (if_neg fun ⟨hpos, hzero⟩ => hsome.elim hpos (· hzero))).trans (if_pos hne)),
    fun hl hw heq hv => takes_of_answer hu rfl ((hfigure hl hw heq).trans (if_pos hv)),
    fun hl hw heq hv hfull => refuses_of_refuse hu rfl ((hroom hl hw heq hv).trans (if_pos hfull)),
    fun hl hw heq hv hfree => ?taken⟩
  case taken =>
    have htakes := takes_of_runOf hu rfl ((hroom hl hw heq hv).trans (if_neg (Nat.not_le.2 hfree)))
    rw [settleTaken_sent (s := leaveQueue (.settle h b.number points) s) hheld hvalue] at htakes
    obtain ⟨hstore, htables, hcalendar, hrouter, hevaluator, hpending⟩ :=
      settleTaken_frame (h := h) (l := l) (b := b) (p := p) (s := leaveQueue (.settle h b.number points) s)
    subst hheld hvalue
    refine ⟨_, _, _, htakes, settleTaken_settlement, rfl, rfl, rfl, fun r hr => ?laneClass, rfl, rfl, rfl, rfl, rfl,
      rfl, rfl, rfl, rfl, rfl, rfl, rfl, rfl, rfl, rfl, fun ha => ?noAccount, fun a e after ha he hafter => ?account,
      settleTaken_overrides, ?baskets, fun i => ?lanes, ?next, ?parkList, settleTaken_link, hstore, htables, hcalendar,
      hrouter, hevaluator, hpending⟩
    case laneClass => simp [settledRecord, hr]
    case noAccount =>
      have hcredit := creditOf_of_none (redeemed := heldPoints b s) (earned := p.points) (s := s) ha
      exact ⟨congrArg (Option.map fun c => c.2.1) hcredit, hcredit,
        settleTaken_accounts_of_none ha⟩
    case account =>
      subst hafter
      have hcredit := creditOf_of_entry (redeemed := heldPoints b s) (earned := p.points) ha he
      exact ⟨congrArg (Option.map fun c => c.2.1) hcredit, hcredit,
        settleTaken_accounts.trans (commitAccount_of_entry ha he)⟩
    all_goals rw [settleTaken_basketTable]
    case lanes => exact Vector.getElem?_map ..
    all_goals rfl

/-! ### The cancellation of a basket (R18, R21, R167) -/

theorem cancelBasket_settlement (b : Basket) (cause : CancelCause) (s : State) :
    (cancelBasket b cause s).settlement = { s.settlement with
      journal := s.settlement.journal ++ [.cancelled (cancelledRecord b cause s)] } := by
  simp [cancelBasket]

theorem cancelBasket_basketTable (b : Basket) (cause : CancelCause) (s : State) :
    (cancelBasket b cause s).basketTable = { s.basketTable with
      baskets := s.basketTable.baskets.filter fun x => decide (x.number ≠ b.number)
      lanes := s.basketTable.lanes.map fun r => if r.active = some b.number then { r with active := none } else r
      parkList := s.basketTable.parkList.filter fun m => decide (m ≠ b.number) } := by
  simp [cancelBasket, freeBasket_basketTable]

theorem cancelBasket_overrides (b : Basket) (cause : CancelCause) (s : State) :
    (cancelBasket b cause s).overrides = s.overrides.filter fun r => decide (r.basket ≠ b.number) := by
  simp [cancelBasket, removeRecords]

theorem cancelBasket_link (b : Basket) (cause : CancelCause) (s : State) :
    (cancelBasket b cause s).link = { s.link with
      mode := if s.link.mode = .quiescing ∧
          (s.basketTable.baskets.filter fun x => decide (x.number ≠ b.number)) = [] then .maintenance
        else s.link.mode } := by
  simp [cancelBasket, freeBasket_link]

theorem cancelBasket_accounts (b : Basket) (cause : CancelCause) (s : State) :
    (cancelBasket b cause s).accounts = (dropAccount b (removeRecords b.number s)).accounts := by
  simp [cancelBasket]

/-- The record of an expired basket: no lane, and its park time (R167). -/
theorem cancelledRecord_parkExpired {b : Basket} (hl : b.lane = none) (s : State) :
    cancelledRecord b .parkExpired s =
      { identity := s.tables.identity.getD 0, basket := b.number, lane := none, account := b.account
        stamp := s.calendar.now, cause := .parkExpired, parkTime := b.parkTime } := by
  simp [cancelledRecord, laneAndClass, identityInForce, hl]

/-! ### The park timer's expiry (R18) -/

theorem expireBasket_eq (b : Basket) (s : State) :
    expireBasket b s =
      { state := cancelBasket b .parkExpired s
        sent := noticeTo .parkExpired none (.parkExpired b.number b.account b.parkTime) ::
          (if s.settlement.journal.length + 1 = s.tables.limits.threshold then
            [noticeTo .journalWaiting none (.journalWaiting (s.settlement.journal.length + 1) s.settlement.waiting
              s.tables.limits.threshold)]
          else []) } := by
  rw [expireBasket, journalWaitingNotice_of_append (cancelBasket_settlement b .parkExpired s) (cancelBasket_tables ..)]

/-- The expiry of a running park timer: with room in the journal the basket ends, else it is marked and waits. -/
theorem parkTimerExpiry_of_parked {n : Nat} {s : State} {b : Basket} (hb : findBasket n s = some b)
    (hstate : b.state = .parked) (htimer : b.parkTimer ≠ none) :
    parkTimerExpiry n s =
      if 128 ≤ s.settlement.journal.length then
        nothing ((s.withBaskets (s.basketTable.baskets.map fun y =>
          if y.number = n then { y with expired := true, parkTimer := none } else y)).withSettlement
          { s.settlement with waiting := s.settlement.waiting + 1 })
      else expireBasket b s := by
  simp only [parkTimerExpiry, hb, hstate, htimer, ne_eq, not_true, or_self, if_false, journalFull_iff]
  rfl

/-! ### JOURNAL TAKE and JOURNAL COUNT (R168, R170) -/

section journal

variable {h : Header} {s : State} {r : JournalRecord} {rest : List JournalRecord}

theorem journalTake_of_empty (hj : s.settlement.journal = []) :
    journalTake h s = answer .journalTake h .journalEmpty (.byte s.settlement.waiting) s := by
  simp only [journalTake, hj]

theorem admitWaiting_of_none (hw : s.settlement.waiting = 0) : admitWaiting s = nothing s := if_pos hw

theorem admitWaiting_of_some {b : Basket} (hw : s.settlement.waiting ≠ 0) (hb : firstExpired s = some b) :
    admitWaiting s = expireBasket b (s.withSettlement { s.settlement with waiting := s.settlement.waiting - 1 }) := by
  simp only [admitWaiting, if_neg hw, hb]

/-- With no basket waiting JOURNAL TAKE only takes the head of the journal. -/
theorem journalTake_of_none (hj : s.settlement.journal = r :: rest) (hw : s.settlement.waiting = 0) :
    journalTake h s = answer .journalTake h .ok (.journalTaken rest.length 0 r)
      (s.withSettlement { s.settlement with journal := rest }) := by
  have hadmit : admitWaiting (s.withSettlement { s.settlement with journal := rest })
      = nothing (s.withSettlement { s.settlement with journal := rest }) := admitWaiting_of_none hw
  simp only [journalTake, hj, hadmit, nothing_state, State.settlement_withSettlement]
  rw [hw]
  rfl

/-- The waiting basket nearest the head of the park list is cancelled into the place freed. -/
theorem journalTake_of_waiting {b : Basket} (hj : s.settlement.journal = r :: rest) (hw : s.settlement.waiting ≠ 0)
    (hb : firstExpired s = some b) :
    journalTake h s =
      (expireBasket b (s.withSettlement
        { s.settlement with journal := rest, waiting := s.settlement.waiting - 1 })).after
        [replyTo .journalTake h .ok (.journalTaken (rest.length + 1) (s.settlement.waiting - 1) r)] := by
  have hadmit : admitWaiting (s.withSettlement { s.settlement with journal := rest })
      = expireBasket b (s.withSettlement { s.settlement with journal := rest, waiting := s.settlement.waiting - 1 }) :=
    admitWaiting_of_some hw hb
  simp [journalTake, hj, hadmit, expireBasket, cancelBasket_settlement]

end journal

theorem length_filter_not_isSettled (j : List JournalRecord) :
    (j.filter fun r => !isSettled r).length = j.length - (j.filter isSettled).length := by
  rw [List.length_eq_length_filter_add (l := j) isSettled, Nat.add_sub_cancel_left]

/-- JOURNAL COUNT, with the CANCELLED records as those that are not SETTLED. -/
theorem journalCount_eq (h : Header) (s : State) {settled : Nat}
    (hsettled : settled = (s.settlement.journal.filter isSettled).length) :
    journalCount h s = answer .journalCount h .ok
      (.journalCount s.settlement.journal.length settled (s.settlement.journal.length - settled)
        (128 - s.settlement.journal.length) s.settlement.waiting s.tables.limits.threshold) s := by
  rw [journalCount, length_filter_not_isSettled, ← hsettled]
  rfl

/-- Settles O56: the clauses are the outcomes of the expiry, of JOURNAL TAKE and of JOURNAL COUNT, and what the
cancellation of an expired basket leaves in each block. -/
theorem journalAndParkExpiry : Obligations.JournalAndParkExpiry := by
  intro h n s expired hexpired
  obtain rfl : expired = expireBasket := hexpired.trans (funext fun b => funext fun u => (expireBasket_eq b u).symm)
  refine ⟨?expiry, ?take, ?count, fun b u _ hl => ?cancelled⟩
  case expiry =>
    rintro c rfl hu b e hb hstate htimer rfl
    have hexpiry := parkTimerExpiry_of_parked (s := leaveQueue (.parkTimerExpiry n) s) hb hstate htimer
    exact ⟨fun hroom => takes_of_runOf hu rfl (hexpiry.trans (if_neg (Nat.not_le.2 hroom))),
      fun hfull => takes_of_runOf hu rfl (hexpiry.trans (if_pos hfull))⟩
  case take =>
    rintro c rfl hu
    refine ⟨fun hj => takes_of_answer hu rfl (journalTake_of_empty hj),
      fun r rest hj hw => takes_of_answer hu rfl (journalTake_of_none hj hw), ?_⟩
    rintro r rest b e hj hw hb rfl
    exact takes_of_runOf hu rfl (journalTake_of_waiting (s := leaveQueue (.journalTake h) s) hj hw hb)
  case count =>
    rintro c rfl hu settled hsettled
    exact takes_of_answer hu rfl (journalCount_eq h (leaveQueue (.journalCount h) s) hsettled)
  case cancelled =>
    refine ⟨?_, cancelBasket_basketTable .., cancelBasket_overrides .., by rw [cancelBasket_link], fun ha => ?_,
      fun a e ha he => ?_⟩
    · rw [cancelBasket_settlement, cancelledRecord_parkExpired hl]
    · rw [cancelBasket_accounts, dropAccount_of_none ha, removeRecords_accounts]
    · exact (cancelBasket_accounts ..).trans (dropAccount_of_entry ha he)

end Sys2Proof.Machine
end

section
/-! The operating modes (chapter 10): what TRADING START and TRADING STOP answer, as one equation per outcome of their
rules, and the obligation on them. -/

namespace Sys2Proof.Machine

/-! ### TRADING START (R182) -/

theorem tradingStart_wrongMode {h : Header} {s : State} (hm : s.link.mode ≠ .maintenance) :
    tradingStart h s = refuse .tradingStart h .wrongMode s := if_pos hm

theorem tradingStart_calendarUnset {h : Header} {s : State} (hm : s.link.mode = .maintenance)
    (hc : s.calendar.state = .unset) : tradingStart h s = refuse .tradingStart h .calendarUnset s := by
  rw [tradingStart, if_neg (not_not_intro hm), if_pos hc]

theorem tradingStart_noIdentity {h : Header} {s : State} (hm : s.link.mode = .maintenance)
    (hc : s.calendar.state = .running) (hi : s.tables.identity = none) :
    tradingStart h s = refuse .tradingStart h .noIdentity s := by
  simp [tradingStart, hm, hc, hi]

theorem tradingStart_of_identity {h : Header} {n : Nat} {s : State} (hm : s.link.mode = .maintenance)
    (hc : s.calendar.state = .running) (hi : s.tables.identity = some n) :
    tradingStart h s = answer .tradingStart h .ok (.tradingStarted n (openLanes s)) (s.withMode .trading) := by
  simp [tradingStart, hm, hc, hi]

/-! ### TRADING STOP (R183) -/

theorem tradingStop_wrongMode {h : Header} {s : State} (hm : s.link.mode = .maintenance) :
    tradingStop h s = refuse .tradingStop h .wrongMode s := if_pos hm

theorem tradingStop_of_mode {h : Header} {s : State} (hm : s.link.mode ≠ .maintenance) :
    tradingStop h s = answer .tradingStop h .ok
      (.tradingStopped (modeAfterStop s) s.basketTable.baskets.length (parkedBaskets s) (expiredBaskets s))
      (s.withMode (modeAfterStop s)) := if_neg hm

theorem modeAfterStop_of_noBasket {s : State} (hm : s.link.mode = .trading) (hb : s.basketTable.baskets = []) :
    modeAfterStop s = .maintenance := by
  rw [modeAfterStop, if_pos hm, if_pos hb]

theorem modeAfterStop_of_basket {s : State} (hm : s.link.mode = .trading) (hb : s.basketTable.baskets ≠ []) :
    modeAfterStop s = .quiescing := by
  rw [modeAfterStop, if_pos hm, if_neg hb]

theorem modeAfterStop_of_quiescing {s : State} (hm : s.link.mode = .quiescing) : modeAfterStop s = .quiescing := by
  simp [modeAfterStop, hm]

/-- Settles O13: the clauses are the outcomes of the two requests, and the mode after TRADING STOP is read off the mode
before it and the baskets. -/
theorem tradingModes : Obligations.TradingModes := by
  refine ⟨?start, ?stop⟩
  case start =>
    rintro h s c rfl hu
    exact ⟨fun hm => refuses_of_refuse hu rfl (tradingStart_wrongMode hm),
      fun hm hc => refuses_of_refuse hu rfl (tradingStart_calendarUnset hm hc),
      fun hm hc hi => refuses_of_refuse hu rfl (tradingStart_noIdentity hm hc hi),
      fun n hm hc hi => takes_of_answer hu rfl (tradingStart_of_identity hm hc hi)⟩
  case stop =>
    rintro h s c rfl hu
    refine ⟨fun hm => refuses_of_refuse hu rfl (tradingStop_wrongMode hm), fun m hcases => ?_⟩
    have hafter : modeAfterStop (leaveQueue (.tradingStop h) s) = m ∧ s.link.mode ≠ .maintenance := by
      rcases hcases with ⟨rfl, hm, hb⟩ | ⟨rfl, hm, hb⟩ | ⟨rfl, hm⟩
      · exact ⟨modeAfterStop_of_noBasket hm hb, by simp [hm]⟩
      · exact ⟨modeAfterStop_of_basket hm hb, by simp [hm]⟩
      · exact ⟨modeAfterStop_of_quiescing hm, by simp [hm]⟩
    obtain ⟨rfl, hm⟩ := hafter
    exact takes_of_answer hu rfl (tradingStop_of_mode hm)

end Sys2Proof.Machine
end

section
/-! What an event can do to the state: a chain of small changes, each with what its rule has checked before it.  Every
relation kept at all times is then kept by each change, and with it by every event. -/

namespace Sys2Proof.Machine

/-! ### The forms of the tables that hold no baskets -/

/-- The offer array in order, with the program and the erase in flight on a slot and a sector that exist (R22). -/
def OfferStore.InForm (st : OfferStore) : Prop :=
  OfferArray.wf st.slots = true ∧ (∀ p, st.program = some p → p.slot < 512) ∧ ∀ k, st.inProgress = some k → k < 8

/-- A range table in order (R47). -/
def rangesInForm (rs : List GroupRange) : Prop :=
  rs.length ≤ 256 ∧ rs.Pairwise (fun q r => q.last < r.first)
  ∧ ∀ r ∈ rs, 1 ≤ r.first ∧ r.first ≤ r.last ∧ r.last ≤ 999999999 ∧ 1 ≤ r.group ∧ r.group ≤ 255

/-- The fields of a real day with its weekday, and a time of that day (R60, R62, R65). -/
def Stamp.Real (t : Stamp) : Prop :=
  realDay t.year t.month t.day = true ∧ t.weekday = weekdayOf t.year t.month t.day
  ∧ t.hour ≤ 23 ∧ t.minute ≤ 59 ∧ t.second ≤ 59

/-! ### The states that changes leave -/

/-- The state with basket `n` opened on lane `l` (R7, R8). -/
def withNewBasket (n l : Nat) (s : State) : State :=
  mapLane l (fun r => { r with active := some n })
    (s.withBasketTable { s.basketTable with
      baskets := s.basketTable.baskets ++ [newBasket n l]
      nextNumber := followingNumber n })

/-- Basket `n` off lane `l` and on the park list (R17). -/
def withParked (n l timer : Nat) (s : State) : State :=
  s.withBasketTable { s.basketTable with
    baskets := (mapBasket n (parkBasket s.calendar.now timer) s).basketTable.baskets
    lanes := (mapLane l (fun r => { r with active := none }) s).basketTable.lanes
    parkList := s.basketTable.parkList ++ [n] }

/-- Basket `n` off the park list and on lane `l`, the waiting count one lower where the basket was expired (R20). -/
def withRecalled (n l : Nat) (expired : Bool) (s : State) : State :=
  (s.withBasketTable { s.basketTable with
    baskets := (mapBasket n (recallBasket l) s).basketTable.baskets
    lanes := (mapLane l (fun r => { r with active := some n }) s).basketTable.lanes
    parkList := s.basketTable.parkList.filter fun m => decide (m ≠ n) }).withSettlement
    (if expired then { s.settlement with waiting := s.settlement.waiting - 1 } else s.settlement)

/-- Basket `n` totalling and at the tail of the evaluation queue (R16, R78). -/
def withTotalling (n : Nat) (h : Header) (s : State) : State :=
  (mapBasket n (fun b => { b with state := .totalling, outstanding := some h }) s).withEvaluator
    { s.evaluator with queue := s.evaluator.queue ++ [n] }

/-- A parked basket marked expired and counted as waiting (R18). -/
def withExpired (n : Nat) (s : State) : State :=
  (mapBasket n (fun b => { b with expired := true, parkTimer := none }) s).withSettlement
    { s.settlement with waiting := s.settlement.waiting + 1 }

/-- The presentation of lane `l` over, with its record no longer marked (R117, R130). -/
def withTakenBack (l : Nat) (p : Presentation) (decided : Bool) (s : State) : State :=
  endPresentation l p decided (mapRecord p.basket p.line markTakenBack s)

/-- A settled basket's account, journal record, overrides and context (R164). -/
def withSettled (b : Basket) (earned : Nat) (r : JournalRecord) (s : State) : State :=
  freeBasket b.number (removeRecords b.number (appendRecord r (commitAccount b (heldPoints b s) earned s)))

/-! ### Changes -/

/-- A change that keeps the key of a record. -/
def KeepsKey (f : OverrideRecord → OverrideRecord) : Prop := ∀ r, (f r).basket = r.basket ∧ (f r).line = r.line

/-- The record of a line is not marked presented, or the route of its basket's lane does not present it. -/
def Unshown (n line : Nat) (s : State) : Prop :=
  (∀ r, recordOf n line s = some r → isPresented r = false)
  ∨ ∃ b l, findBasket n s = some b ∧ b.lane = some l
      ∧ ∀ p, presentationOf l s = some p → ¬ (p.basket = n ∧ p.line = line)

/-- One change of the state by an event, with what the event's rule has checked before it. -/
inductive Change : State → State → Prop
  | mode (s : State) (m : Mode) : Change s (s.withMode m)
  | countsCleared (s : State) : Change s (clearCounts s)
  /-- A lane's record but for its active basket (R2, R3). -/
  | lane (s : State) (l : Nat) (f : Lane → Lane) (hf : ∀ r, (f r).active = r.active) : Change s (mapLane l f s)
  /-- BASKET OPEN (R7, R8). -/
  | opened (s : State) (l : Nat) (hl : laneActive l s = none) (hlane : s.basketTable.lanes[l]? ≠ none)
      (hroom : s.basketTable.baskets.length < 20) :
      Change s (withNewBasket (freeNumber s 21 s.basketTable.nextNumber) l s)
  /-- The coupons and the keying count of a basket (R12, R107). -/
  | tended (s : State) (n : Nat) (f : Basket → Basket)
      (hf : ∀ b, ∃ coupons count, f b = { b with coupons := coupons, keyingCount := count }) :
      Change s (mapBasket n f s)
  /-- A change counted by R14 (R15). -/
  | raised (s : State) (ns : List Nat) : Change s (staleClaim ns s).state
  /-- A line joins (R9). -/
  | lineAdded (s : State) (n : Nat) (b : Basket) (x : Line) (hb : findBasket n s = some b)
      (hx : x.number = b.nextLine) (hsum : linesTotal b.lines + x.extended ≤ 99999999) :
      Change s (mapBasket n (fun b => { b with lines := b.lines ++ [x], nextLine := b.nextLine + 1 }) s)
  /-- A line's quantity, and its record's reduction with it; a GRANTED record stays within what was authorised, and a
  presented one has been taken back (R10, R114 to R116). -/
  | requantified (s : State) (n line q : Nat) (b : Basket) (x : Line) (g : OverrideRecord → OverrideRecord)
      (hb : findBasket n s = some b) (hx : findLine line b = some x)
      (hsum : linesTotal (setQuantity line q b).lines ≤ 99999999)
      (hkey : KeepsKey g) (hshown : Unshown n line s)
      (hg : ∀ r, recordOf n line s = some r → (g r).price = r.price ∧ (g r).reduction = (x.price - r.price) * q
        ∧ isPresented (g r) = false ∧ ∀ who most, (g r).state = .granted who most → (g r).reduction ≤ most) :
      Change s (mapRecord n line g (mapBasket n (setQuantity line q) s))
  /-- A line without a record goes (R11, R113). -/
  | lineVoided (s : State) (n line : Nat) (hr : recordOf n line s = none) :
      Change s (mapBasket n (fun b => { b with lines := b.lines.filter fun x => decide (x.number ≠ line) }) s)
  /-- TOTAL joins the evaluation queue (R16, R78). -/
  | totalling (s : State) (n : Nat) (h : Header) (b : Basket) (hb : findBasket n s = some b)
      (hopen : b.state = .opened) : Change s (withTotalling n h s)
  /-- An idle unit takes the head of the evaluation queue (R79). -/
  | unitTaken (s : State) : Change s (unitTakes s)
  /-- PARK (R17). -/
  | parked (s : State) (n l timer : Nat) (b : Basket) (hb : findBasket n s = some b) (hl : b.lane = some l)
      (hstate : b.state = .opened ∨ b.state = .totalled) (hrecords : (basketRecords n s).any isPending = false)
      (hhold : basketHold b s = none) (hroom : s.basketTable.parkList.length < 8) :
      Change s (withParked n l timer s)
  /-- RECALL (R20). -/
  | recalled (s : State) (n l : Nat) (b : Basket) (hb : findBasket n s = some b) (hn : n ∈ s.basketTable.parkList)
      (hl : laneActive l s = none) (hlane : s.basketTable.lanes[l]? ≠ none) :
      Change s (withRecalled n l b.expired s)
  /-- ACCOUNT ATTACH (R13, R150). -/
  | attached (s : State) (n a : Nat) (b : Basket) (e : Account) (hb : findBasket n s = some b)
      (hparked : b.state ≠ .parked) (hnone : b.account = none) (he : findAccount a s = some e) :
      Change s (mapBasket n (fun b => { b with account := some a }) (addReference a s))
  /-- ACCOUNT DETACH (R13, R150). -/
  | detached (s : State) (n a : Nat) (b : Basket) (hb : findBasket n s = some b) (ha : b.account = some a)
      (hhold : basketHold b s = none) :
      Change s (mapBasket n (fun b => { b with account := none }) (dropReference a s))
  /-- A load that makes an entry in a table with room (R145). -/
  | created (s : State) (e : Account) (hnew : findAccount e.number s = none) (hholds : e.holds = []) (hrefs : e.refs = 0)
      (hbalance : e.balance ≤ 99999999) (hroom : s.accounts.entries.length < 256) :
      Change s (s.withAccounts { entries := s.accounts.entries ++ [e], idle := s.accounts.idle ++ [e.number] })
  /-- A load that evicts the head of the idle list (R145). -/
  | createdEvicting (s : State) (e : Account) (old : Nat) (rest : List Nat) (hnew : findAccount e.number s = none)
      (hholds : e.holds = []) (hrefs : e.refs = 0) (hbalance : e.balance ≤ 99999999)
      (hidle : s.accounts.idle = old :: rest) :
      Change s (s.withAccounts
        { entries := (s.accounts.entries.filter fun x => decide (x.number ≠ old)) ++ [e], idle := rest ++ [e.number] })
  /-- A load that refreshes an entry (R146). -/
  | refreshed (s : State) (e : Account) (t : Tier) (flags : Flags) (balance : Nat)
      (he : findAccount e.number s = some e) (hheld : heldTotal e ≤ balance) (hbalance : balance ≤ 99999999) :
      Change s (refreshed e t flags balance s)
  /-- ACCOUNT EVICT (R148). -/
  | evicted (s : State) (e : Account) (he : findAccount e.number s = some e) (hrefs : e.refs = 0) (hholds : e.holds = []) :
      Change s (s.withAccounts
        { entries := s.accounts.entries.filter fun x => decide (x.number ≠ e.number)
          idle := s.accounts.idle.filter fun x => decide (x ≠ e.number) })
  /-- A hold placed, amended or released (R151 to R153). -/
  | held (s : State) (n l points : Nat) (b : Basket) (e : Account) (hb : findBasket n s = some b)
      (hparked : b.state ≠ .parked) (hl : b.lane = some l) (ha : b.account = some e.number)
      (he : findAccount e.number s = some e) (hpoints : points ≤ e.balance - othersHeld n e)
      (hroom : holdOf n e = none → 0 < points → e.holds.length < 4) : Change s (placeHold n l e.number points s)
  /-- A hold removed (R154, R155). -/
  | holdRemoved (s : State) (n a : Nat) : Change s (mapAccount a (removeHold n) s)
  /-- A record keyed for a line, in the place of the line's old one (R108 to R111). -/
  | keyed (s : State) (b : Basket) (x : Line) (r : OverrideRecord) (hb : findBasket r.basket s = some b)
      (hx : findLine r.line b = some x) (hprice : r.price < x.price)
      (hreduction : r.reduction = (x.price - r.price) * x.quantity) (hnew : isPresented r = false)
      (hgranted : ∀ who most, r.state = .granted who most → r.reduction ≤ most)
      (hold : Unshown r.basket r.line s)
      (hbasket : hasRecord r.basket r.line s = true ∨ (basketRecords r.basket s).length < 8)
      (htable : hasRecord r.basket r.line s = true ∨ s.overrides.length < 96) : Change s (keyRecord r s)
  /-- A record that no route presents goes. -/
  | recordRemoved (s : State) (n line : Nat) (hr : Unshown n line s) :
      Change s (removeRecord n line s)
  /-- A record that no route presents is granted (R118). -/
  | recordGranted (s : State) (n line : Nat) (who : Authority) (hr : Unshown n line s) :
      Change s (mapRecord n line (fun r => { r with state := .granted who r.reduction }) s)
  /-- The PENDING records of a lane whose route presents nothing go (R138). -/
  | displaced (s : State) (l : Nat) (hp : presentationOf l s = none) :
      Change s (s.withOverrides (s.overrides.filter fun q => !(displaced l s).contains q))
  /-- A route but for what it has presented (R137, R138). -/
  | route (s : State) (l : Nat) (f : Route → Route) (hf : ∀ r, (f r).presented = r.presented) :
      Change s (mapRoute l f s)
  /-- A desk but for its open count (R135). -/
  | desk (s : State) (d : Nat) (f : Desk → Desk) (hf : ∀ k, (f k).openCount = k.openCount) : Change s (mapDesk d f s)
  /-- A route presents a record (R126). -/
  | presented (s : State) (l d : Nat) (q : Route) (r : OverrideRecord) (hq : s.router.routes[l]? = some q)
      (hcan : canPresent l s = some (r, d)) : Change s (presentOn l q r d s).state
  /-- A presentation ends (R130 to R132). -/
  | takenBack (s : State) (l : Nat) (p : Presentation) (decided : Bool) (hp : presentationOf l s = some p) :
      Change s (withTakenBack l p decided s)
  /-- CANCEL (R21), with no notice of the basket on its lane any more. -/
  | cancelled (s : State) (b : Basket) (hb : findBasket b.number s = some b)
      (hjournal : s.settlement.journal.length < 128)
      (hnotice : ∀ l p, b.lane = some l → presentationOf l s = some p → p.basket ≠ b.number) :
      Change s (cancelBasket b .host (cancelEvaluation b.number s))
  /-- The cancellation of a parked basket on expiry (R18). -/
  | expired (s : State) (b : Basket) (hb : findBasket b.number s = some b) (hparked : b.state = .parked)
      (hjournal : s.settlement.journal.length < 128) : Change s (cancelBasket b .parkExpired s)
  /-- An expiry with the journal full (R18, R169). -/
  | markedExpired (s : State) (n : Nat) (b : Basket) (hb : findBasket n s = some b) (hparked : b.state = .parked)
      (htimer : b.parkTimer ≠ none) (hjournal : 128 ≤ s.settlement.journal.length) : Change s (withExpired n s)
  /-- SETTLE (R164). -/
  | settled (s : State) (l earned : Nat) (b : Basket) (r : JournalRecord) (hb : findBasket b.number s = some b)
      (hl : b.lane = some l) (hstate : b.state = .totalled) (hrecords : (basketRecords b.number s).any isPending = false)
      (hjournal : s.settlement.journal.length < 128) : Change s (withSettled b earned r s)
  /-- JOURNAL TAKE with no basket to admit (R168). -/
  | collected (s : State) (r : JournalRecord) (rest : List JournalRecord) (hj : s.settlement.journal = r :: rest)
      (hnone : s.settlement.waiting = 0 ∨ firstExpired s = none) :
      Change s (s.withSettlement { s.settlement with journal := rest })
  /-- JOURNAL TAKE that admits the first waiting basket (R19, R168). -/
  | admitted (s : State) (r : JournalRecord) (rest : List JournalRecord) (b : Basket)
      (hj : s.settlement.journal = r :: rest) (hb : firstExpired s = some b) :
      Change s (cancelBasket b .parkExpired
        (s.withSettlement { journal := rest, waiting := s.settlement.waiting - 1 }))
  | restarted (s : State) : Change s (restartedState s)
  /-- The offer store, kept in form (R22). -/
  | stored (s : State) (st : OfferStore) (hst : s.store.InForm → st.InForm) : Change s (s.withStore st)
  /-- The reference tables, the ranges kept in form (R47). -/
  | tabled (s : State) (x : Tables) (hx : rangesInForm s.tables.ranges → rangesInForm x.ranges) :
      Change s (s.withTables x)
  /-- The calendar, kept at a real day (R60). -/
  | timed (s : State) (x : Calendar) (hx : s.calendar.now.Real → x.now.Real) : Change s (s.withCalendar x)

/-- A chain of changes. -/
def Changes : State → State → Prop := Relation.ReflTransGen Change

theorem Changes.refl {s : State} : Changes s s := Relation.ReflTransGen.refl

theorem Changes.one {s t : State} (h : Change s t) : Changes s t := Relation.ReflTransGen.single h

theorem Changes.tail {s t u : State} (h : Changes s t) (hc : Change t u) : Changes s u := Relation.ReflTransGen.tail h hc

theorem Changes.trans {s t u : State} (h : Changes s t) (hu : Changes t u) : Changes s u := Relation.ReflTransGen.trans h hu

/-- What every change keeps, a chain of changes keeps. -/
theorem Changes.keep {P : State → Prop} {s t : State} (h : Changes s t) (hP : ∀ s t, P s → Change s t → P t) (hs : P s) :
    P t := by
  induction h with
  | refl => exact hs
  | tail _ hc ih => exact hP _ _ ih hc

end Sys2Proof.Machine
end

section
/-! Every event but the completion of an evaluation is a chain of changes. -/

namespace Sys2Proof.Machine

/-! ### Requests and their checks -/

theorem onServed_changes {k : RequestKind} {h : Header} {n : Nat} {f : Nat → Basket → State → Effect} {s : State}
    (hf : ∀ l b, Served h n l b s → Changes s (f l b s).state) : Changes s (onServed k h n f s).state := by
  unfold onServed
  cases hc : basketCheck h n s with
  | error e => exact .refl
  | ok lb =>
    obtain ⟨l, b⟩ := lb
    simp only
    split
    · exact .refl
    · rename_i hp
      refine hf l b ?_
      unfold basketCheck at hc
      split at hc
      · cases hc
      · rename_i hm
        split at hc
        · cases hc
        · rename_i g hg
          split at hc
          · cases hc
          · rename_i c hb
            split at hc
            · rename_i hlane
              cases hc
              exact ⟨hm, hg, hb, hp, hlane.resolve_left hp⟩
            · cases hc

theorem onLane_changes {k : RequestKind} {h : Header} {f : Nat → State → Effect} {s : State}
    (hf : ∀ l, laneOf h = some l → Changes s (f l s).state) : Changes s (onLane k h f s).state := by
  unfold onLane
  split
  · exact .refl
  · split
    · exact .refl
    · exact hf _ (by assumption)

theorem inMaintenance_changes {k : RequestKind} {h : Header} {f : State → Effect} {s : State}
    (hf : Changes s (f s).state) : Changes s (inMaintenance k h f s).state := by
  unfold inMaintenance
  split
  · exact hf
  · exact .refl

theorem findBasket_number_self {n : Nat} {s : State} {b : Basket} (h : findBasket n s = some b) :
    findBasket b.number s = some b := by rw [findBasket_number h, h]

theorem findAccount_number_self {a : Nat} {s : State} {e : Account} (h : findAccount a s = some e) :
    findAccount e.number s = some e := by rw [findAccount_number h, h]

theorem ownChange_eq_staleClaim (n : Nat) (s : State) : ownChange n s = (staleClaim [n] s).state := by
  simp [ownChange, mapBasket, staleClaim]

/-- A basket's own request raises it as a stale claim naming it would (R15). -/
theorem changes_ownChange (n : Nat) (s : State) : Change s (ownChange n s) := by
  rw [ownChange_eq_staleClaim]; exact .raised s [n]

theorem lane_ne_none_of_state {l : Nat} {s : State} (h : laneState l s ≠ .closed) : s.basketTable.lanes[l]? ≠ none := by
  intro hn
  simp [laneState, hn] at h

/-! ### Lanes and baskets (chapter 1) -/

theorem laneOpen_changes (h : Header) (s : State) : Changes s (laneOpen h s).state :=
  onLane_changes fun l _ => .one (.lane s l _ fun _ => rfl)

theorem laneClose_changes (h : Header) (s : State) : Changes s (laneClose h s).state := by
  refine onLane_changes fun l _ => ?_
  split
  · exact .refl
  · exact .one (.lane s l _ fun _ => rfl)

theorem laneProfile_changes (h : Header) (c m f g : Nat) (s : State) : Changes s (laneProfile h c m f g s).state := by
  refine onLane_changes fun l _ => ?_
  split
  · exact .refl
  · split
    · exact .refl
    · split
      · exact .refl
      · exact .one (.lane s l _ fun _ => rfl)

theorem basketOpen_changes (h : Header) (s : State) : Changes s (basketOpen h s).state := by
  unfold basketOpen
  split
  · exact .refl
  · split
    · exact .refl
    · rename_i l hl
      split
      · exact .refl
      · rename_i hstate
        split
        · exact .refl
        · rename_i hactive
          split
          · exact .refl
          · rename_i hroom
            exact .one (.opened s l (by simpa using hactive) (lane_ne_none_of_state hstate)
              (by simpa [Config.contexts] using hroom))

theorem lineFieldsOk_sum {b : Basket} {item q u : Nat} {m : Bool} (h : lineFieldsOk b item q u m = true) :
    linesTotal b.lines + q * u ≤ 99999999 := by
  simp only [lineFieldsOk, Bool.and_eq_true, decide_eq_true_eq] at h
  exact h.2

theorem lineAdd_changes (h : Header) (n item q u : Nat) (m c e : Bool) (s : State) :
    Changes s (lineAdd h n item q u m c e s).state := by
  refine onServed_changes fun l b hs => ?_
  obtain ⟨-, -, hb, -, -⟩ := hs
  split
  · exact .refl
  · rename_i hok
    split
    · exact .refl
    · split
      · exact .refl
      · refine (Changes.one (.lineAdded s n b _ hb ?_ ?_)).tail (changes_ownChange n _)
        · rfl
        · exact lineFieldsOk_sum (by simpa using hok)

theorem couponPresent_changes (h : Header) (n key : Nat) (s : State) : Changes s (couponPresent h n key s).state := by
  refine onServed_changes fun l b _ => ?_
  split
  · exact .refl
  · split
    · exact .refl
    · split
      · exact .refl
      · exact (Changes.one (.tended s n _ fun b => ⟨_, b.keyingCount, rfl⟩)).tail (changes_ownChange n _)

theorem couponWithdraw_changes (h : Header) (n key : Nat) (s : State) : Changes s (couponWithdraw h n key s).state := by
  refine onServed_changes fun l b _ => ?_
  split
  · exact .refl
  · exact (Changes.one (.tended s n _ fun b => ⟨_, b.keyingCount, rfl⟩)).tail (changes_ownChange n _)

theorem total_changes (h : Header) (n : Nat) (s : State) : Changes s (total h n s).state := by
  refine onServed_changes fun l b hs => ?_
  obtain ⟨-, -, hb, -, -⟩ := hs
  split
  · rename_i hopen
    exact (Changes.one (.totalling s n h b hb hopen)).tail (.unitTaken _)
  · exact .refl
  · split <;> exact .refl
  · exact .refl

theorem planLines_changes (h : Header) (n start : Nat) (s : State) : Changes s (planLines h n start s).state := by
  unfold planLines
  split
  · exact .refl
  · split
    · exact .refl
    · split
      · exact .refl
      · split <;> exact .refl

theorem state_opened_or_totalled {b : Basket} (hp : b.state ≠ .parked) (ht : b.state ≠ .totalling) :
    b.state = .opened ∨ b.state = .totalled := by
  cases h : b.state <;> simp_all

theorem park_changes (h : Header) (n : Nat) (s : State) : Changes s (park h n s).state := by
  refine onServed_changes fun l b hs => ?_
  obtain ⟨-, -, hb, hp, hl⟩ := hs
  split
  · exact .refl
  · rename_i ht
    split
    · exact .refl
    · rename_i hrec
      split
      · exact .refl
      · rename_i hhold
        split
        · exact .refl
        · rename_i hroom
          exact .one (.parked s n l _ b hb hl (state_opened_or_totalled hp ht) (by simpa using hrec)
            (by simpa using hhold) (by simpa [Config.parkPlaces] using hroom))

theorem recallRequest_changes (h : Header) (n : Nat) (s : State) : Changes s (recallRequest h n s).state := by
  refine onLane_changes fun l _ => ?_
  split
  · exact .refl
  · rename_i hstate
    split
    · exact .refl
    · rename_i hactive
      split
      · exact .refl
      · rename_i hn
        split
        · exact .refl
        · rename_i b hb
          have := Changes.one (.recalled s n l b hb (by simpa using hn) (by simpa using hactive)
            (lane_ne_none_of_state hstate))
          cases he : b.expired <;> rw [he] at this <;> exact this

/-! ### Accounts (chapter 8) -/

theorem accountAttach_changes (h : Header) (n a : Nat) (s : State) : Changes s (accountAttach h n a s).state := by
  refine onServed_changes fun l b hs => ?_
  obtain ⟨-, -, hb, hp, -⟩ := hs
  split
  · exact .refl
  · rename_i hnone
    split
    · exact .refl
    · rename_i e he
      exact (Changes.one (.attached s n a b e hb hp (by simpa using hnone) he)).tail (changes_ownChange n _)

theorem accountDetach_changes (h : Header) (n : Nat) (s : State) : Changes s (accountDetach h n s).state := by
  refine onServed_changes fun l b hs => ?_
  obtain ⟨-, -, hb, -, -⟩ := hs
  split
  · exact .refl
  · rename_i a ha
    split
    · exact .refl
    · rename_i hhold
      exact (Changes.one (.detached s n a b hb ha (by simpa using hhold))).tail (changes_ownChange n _)

theorem createAccount_changes {a : Nat} (h : Header) (t : Tier) (flags : Flags) {balance : Nat} {s : State}
    (ha : findAccount a s = none) (hb : balance ≤ 99999999) : Changes s (createAccount h a t flags balance s).state := by
  unfold createAccount
  split
  · exact .one (.created s _ ha rfl rfl hb (by assumption))
  · split
    · exact .refl
    · rename_i old rest hidle
      exact .one (.createdEvicting s _ old rest ha rfl rfl hb hidle)

theorem refreshAccount_changes (h : Header) {e : Account} (t : Tier) (flags : Flags) {balance : Nat} {s : State}
    (he : findAccount e.number s = some e) (hb : balance ≤ 99999999) :
    Changes s (refreshAccount h e t flags balance s).state := by
  by_cases hheld : balance < heldTotal e
  · rw [refreshAccount_holdsExceed hheld]
    exact .refl
  · rw [refreshAccount_taken (Nat.le_of_not_lt hheld)]
    have hc := Changes.one (.refreshed s e t flags balance he (Nat.le_of_not_lt hheld) hb)
    simp only [Effect.after_state]
    split
    · exact hc.tail (.raised _ _)
    · exact hc

theorem accountLoad_changes (h : Header) (a tier : Nat) (flags : Flags) (balance : Nat) (s : State) :
    Changes s (accountLoad h a tier flags balance s).state := by
  unfold accountLoad
  split
  · exact .refl
  · split
    · exact .refl
    · rename_i hb
      have hb : balance ≤ 99999999 := by
        simp only [Bool.or_eq_true, decide_eq_true_eq, not_or] at hb
        exact Nat.le_of_not_lt hb.2
      split
      · rename_i e he
        exact refreshAccount_changes h _ flags (findAccount_number_self he) hb
      · rename_i ha
        exact createAccount_changes h _ flags ha hb

theorem accountEvict_changes (h : Header) (a : Nat) (s : State) : Changes s (accountEvict h a s).state := by
  unfold accountEvict
  split
  · exact .refl
  · split
    · exact .refl
    · rename_i e he
      split
      · exact .refl
      · rename_i huse
        obtain ⟨hrefs, hholds⟩ := not_or.1 huse
        obtain rfl := findAccount_number he
        exact .one (.evicted s e he (by omega) (by simpa using hholds))

theorem accountRead_changes (h : Header) (a : Nat) (s : State) : Changes s (accountRead h a s).state := by
  unfold accountRead
  split
  · exact .refl
  · split <;> exact .refl

theorem redeem_changes (h : Header) (n points : Nat) (s : State) : Changes s (redeem h n points s).state := by
  refine onServed_changes fun l b hs => ?_
  obtain ⟨-, -, hb, hp, hl⟩ := hs
  split
  · exact .refl
  · split
    · exact .refl
    · split
      · exact .refl
      · split
        · exact .refl
        · rename_i e he
          obtain ⟨a, ha, hea⟩ := Option.bind_eq_some_iff.1 he
          split
          · exact .refl
          · split
            · exact .refl
            · rename_i hpoints
              split
              · exact .refl
              · rename_i hfull
                refine .one (.held s n l points b e hb hp hl (by rw [ha, findAccount_number hea])
                  (findAccount_number_self hea) (Nat.le_of_not_lt hpoints) fun hnone hpos => ?_)
                by_contra hlen
                exact hfull ⟨by simp [hnone], hpos, by simpa [Config.holds] using hlen⟩

theorem redeemRelease_changes (h : Header) (n : Nat) (s : State) : Changes s (redeemRelease h n s).state := by
  refine onServed_changes fun l b _ => ?_
  split
  · exact .refl
  · exact .one (.holdRemoved s n _)

theorem holdTimerExpiry_changes (n : Nat) (s : State) : Changes s (holdTimerExpiry n s).state := by
  unfold holdTimerExpiry
  split
  · exact .refl
  · split
    · exact .refl
    · exact .one (.holdRemoved s n _)

end Sys2Proof.Machine
end

section
/-! Every event but the completion of an evaluation is a chain of changes: overrides and the router. -/

namespace Sys2Proof.Machine

/-! ### Records under two changes -/

theorem keepsKey_markTakenBack : KeepsKey markTakenBack := fun _ => ⟨rfl, rfl⟩

theorem mapRecord_mapRecord {n line : Nat} {f g : OverrideRecord → OverrideRecord} (s : State) (hf : KeepsKey f) :
    mapRecord n line g (mapRecord n line f s) = mapRecord n line (fun r => g (f r)) s := by
  have hentry (r : OverrideRecord) : (if (if r.basket = n ∧ r.line = line then f r else r).basket = n
        ∧ (if r.basket = n ∧ r.line = line then f r else r).line = line then
        g (if r.basket = n ∧ r.line = line then f r else r) else if r.basket = n ∧ r.line = line then f r else r)
      = if r.basket = n ∧ r.line = line then g (f r) else r := by
    by_cases hr : r.basket = n ∧ r.line = line
    · simp only [if_pos hr, (hf r).1, (hf r).2]
    · simp only [if_neg hr]
  unfold mapRecord
  simp only [State.overrides_withOverrides, List.map_map, Function.comp_def, hentry]
  rfl

theorem removeRecord_mapRecord {n line : Nat} {f : OverrideRecord → OverrideRecord} (s : State) (hf : KeepsKey f) :
    removeRecord n line (mapRecord n line f s) = removeRecord n line s := by
  have hlist : ∀ rs : List OverrideRecord,
      (rs.map fun r => if r.basket = n ∧ r.line = line then f r else r).filter
        (fun r => !(decide (r.basket = n) && decide (r.line = line)))
      = rs.filter fun r => !(decide (r.basket = n) && decide (r.line = line)) := by
    intro rs
    induction rs with
    | nil => rfl
    | cons r rs ih =>
      by_cases hr : r.basket = n ∧ r.line = line
      · rw [List.map_cons, if_pos hr, List.filter_cons, List.filter_cons, ih]
        simp [hr, hf r]
      · rw [List.map_cons, if_neg hr, List.filter_cons, List.filter_cons, ih]
  unfold removeRecord mapRecord
  rw [State.overrides_withOverrides, hlist]
  rfl

theorem recordOf_mapRecord {n line : Nat} {f : OverrideRecord → OverrideRecord} (s : State) (hf : KeepsKey f) :
    recordOf n line (mapRecord n line f s) = (recordOf n line s).map f := by
  simp only [recordOf, mapRecord, State.overrides_withOverrides, List.find?_map]
  have hp : ((fun r : OverrideRecord => decide (r.basket = n) && decide (r.line = line)) ∘
      fun r => if r.basket = n ∧ r.line = line then f r else r)
      = fun r => decide (r.basket = n) && decide (r.line = line) := by
    funext r
    by_cases hr : r.basket = n ∧ r.line = line
    · simp [hr, hf r]
    · simp [hr]
  rw [hp]
  cases h : s.overrides.find? fun r => decide (r.basket = n) && decide (r.line = line) with
  | none => rfl
  | some r =>
    have hr := List.find?_some h
    simp only [Bool.and_eq_true, decide_eq_true_eq] at hr
    simp [hr]

theorem mapRecord_of_none {n line : Nat} {f : OverrideRecord → OverrideRecord} {s : State}
    (hnone : recordOf n line s = none) : mapRecord n line f s = s := by
  have hentries : (s.overrides.map fun r => if r.basket = n ∧ r.line = line then f r else r) = s.overrides := by
    refine (List.map_congr_left fun r hr => ?_).trans (List.map_id _)
    exact if_neg (by simpa using List.find?_eq_none.1 hnone r hr)
  rw [mapRecord, hentries]
  rfl

/-! ### A presentation's end beside changes of the records -/

theorem endPresentation_withOverrides (l : Nat) (p : Presentation) (d : Bool) (x : List OverrideRecord) (s : State) :
    endPresentation l p d (s.withOverrides x) = (endPresentation l p d s).withOverrides x := by
  unfold endPresentation mapDesk mapRoute
  simp only [State.router_withOverrides]
  cases hq : s.router.routes[l]? with
  | none =>
    simp only [State.router_withOverrides]
    cases s.router.desks[p.desk]? <;> rfl
  | some q =>
    simp only [State.router_withRouter]
    cases s.router.desks[p.desk]? <;> rfl

theorem endPresentation_mapRecord (l : Nat) (p : Presentation) (d : Bool) (n line : Nat)
    (f : OverrideRecord → OverrideRecord) (s : State) :
    endPresentation l p d (mapRecord n line f s) = mapRecord n line f (endPresentation l p d s) := by
  rw [mapRecord, endPresentation_withOverrides, mapRecord, endPresentation_overrides]

theorem withTakenBack_eq (l : Nat) (p : Presentation) (d : Bool) (s : State) :
    withTakenBack l p d s = mapRecord p.basket p.line markTakenBack (endPresentation l p d s) :=
  endPresentation_mapRecord ..

theorem withTakenBack_overrides (l : Nat) (p : Presentation) (d : Bool) (s : State) :
    (withTakenBack l p d s).overrides = (mapRecord p.basket p.line markTakenBack s).overrides := by
  simp [withTakenBack]

/-- A record that has been taken back is presented no longer. -/
theorem unshown_withTakenBack (l : Nat) (p : Presentation) (d : Bool) (s : State) :
    Unshown p.basket p.line (withTakenBack l p d s) := by
  refine .inl fun r hr => ?_
  rw [withTakenBack_eq, recordOf_mapRecord _ keepsKey_markTakenBack] at hr
  obtain ⟨o, -, rfl⟩ := Option.map_eq_some_iff.1 hr
  rfl

/-- A taken-back record that goes leaves what its removal alone leaves. -/
theorem removeRecord_withTakenBack (l : Nat) (p : Presentation) (d : Bool) (s : State) :
    removeRecord p.basket p.line (withTakenBack l p d s) = removeRecord p.basket p.line (endPresentation l p d s) := by
  rw [withTakenBack_eq, removeRecord_mapRecord _ keepsKey_markTakenBack]

theorem changes_removed {l : Nat} {p : Presentation} (d : Bool) {s : State} (hp : presentationOf l s = some p) :
    Changes s (removeRecord p.basket p.line (endPresentation l p d s)) := by
  rw [← removeRecord_withTakenBack]
  exact (Changes.one (.takenBack s l p d hp)).tail (.recordRemoved _ _ _ (unshown_withTakenBack ..))

/-! ### The presentation pass (R127) -/

theorem presentIfAble_changes (l : Nat) (s : State) : Changes s (presentIfAble l s).state := by
  unfold presentIfAble
  split
  · exact .one (.presented s l _ _ _ (by assumption) (by assumption))
  · exact .refl

theorem passLanes_changes (ls : List Nat) (s : State) : Changes s (passLanes ls s).state := by
  induction ls generalizing s with
  | nil => exact .refl
  | cons l ls ih => exact (presentIfAble_changes l s).trans (ih _)

theorem presentationPass_changes (s : State) : Changes s (presentationPass s).state := passLanes_changes _ s

/-! ### One part of an event after another -/

theorem Changes.after {s : State} {e : Effect} (ms : List Message) (h : Changes s e.state) : Changes s (e.after ms).state := h

theorem Changes.andThen {s : State} {e : Effect} {f : State → Effect} (h : Changes s e.state)
    (hf : ∀ t, Changes t (f t).state) : Changes s (e.andThen f).state := h.trans (hf _)

theorem Changes.pass {s t : State} (h : Changes s t) : Changes s (presentationPass t).state :=
  h.trans (presentationPass_changes t)

/-! ### Recalls (R119, R132) -/

theorem recallLane_changes (cause : Cause) (l : Nat) (s : State) : Changes s (recallLane cause l s).state := by
  unfold recallLane
  split
  · exact .refl
  · rename_i p hp
    split
    · rename_i hnone
      have hsame : withTakenBack l p false s = endPresentation l p false s := by
        rw [withTakenBack, mapRecord_of_none hnone]
      exact .one (hsame ▸ Change.takenBack s l p false hp)
    · rename_i r hr
      obtain ⟨hb, hline⟩ := recordOf_key hr
      simp only [Effect.after_state, recallRecord, hb, hline]
      split
      · exact (changes_removed false hp).tail (.raised _ _)
      · split
        · exact (changes_removed false hp).tail (.raised _ _)
        · simp only [nothing_state, ← withTakenBack_eq]
          exact .one (.takenBack s l p false hp)

theorem recallLanes_changes (cause : Cause) (ls : List Nat) (s : State) : Changes s (recallLanes cause ls s).state := by
  induction ls generalizing s with
  | nil => exact .refl
  | cons l ls ih => exact (recallLane_changes cause l s).andThen fun t => ih t

theorem noticeTimerExpiry_changes (l : Nat) (s : State) : Changes s (noticeTimerExpiry l s).state := by
  unfold noticeTimerExpiry
  split
  · exact .refl
  · exact (recallLane_changes .timedOut l s).andThen presentationPass_changes

/-! ### Decisions (R129, R130) -/

theorem decisionTaken_changes (k : RequestKind) (h : Header) (grant : Bool) (op l : Nat) {p : Presentation} {s : State}
    (hp : presentationOf l s = some p) : Changes s (decisionTaken k h grant op l p s).state := by
  unfold decisionTaken
  simp only
  split
  · rename_i hnone
    have hsame : withTakenBack l p true s = endPresentation l p true s := by
      rw [withTakenBack, mapRecord_of_none hnone]
    exact (Changes.one (hsame ▸ Change.takenBack s l p true hp)).pass.after _
  · rename_i r hr
    obtain ⟨hb, hline⟩ := recordOf_key hr
    simp only [hb, hline]
    split
    · refine Changes.andThen (Changes.after _ (Changes.tail ?_ (.raised _ _))) presentationPass_changes
      have hgrant := Change.recordGranted (withTakenBack l p true s) p.basket p.line (.desk p.desk op)
        (unshown_withTakenBack ..)
      rw [withTakenBack_eq, mapRecord_mapRecord _ keepsKey_markTakenBack, ← withTakenBack_eq] at hgrant
      exact (Changes.one (.takenBack s l p true hp)).tail hgrant
    · exact (((changes_removed true hp).tail (.raised _ _)).after _).andThen presentationPass_changes

theorem decision_changes (k : RequestKind) (h : Header) (grant : Bool) (desk : Nat) (tag : Byte) (op : Nat) (s : State) :
    Changes s (decision k h grant desk tag op s).state := by
  refine onLane_changes fun l _ => ?_
  split
  · exact .refl
  · split
    · exact .refl
    · split
      · exact decisionTaken_changes k h grant op l (by assumption)
      · exact .refl

/-! ### Desks and routes (R134 to R138) -/

theorem deskDuty_changes (h : Header) (desk duty : Nat) (s : State) : Changes s (deskDuty h desk duty s).state := by
  unfold deskDuty
  split
  · split
    · exact .refl
    · split
      · exact (Changes.one (.desk s desk (fun k => { k with onDuty := true }) fun _ => rfl)).pass.after _
      · refine (Changes.andThen ?_ presentationPass_changes).after _
        exact (Changes.one (.desk s desk (fun k => { k with onDuty := false }) fun _ => rfl)).trans (recallLanes_changes _ _ _)
  · exact .refl

theorem deskRecall_changes (h : Header) (code : Nat) (s : State) : Changes s (deskRecall h code s).state := by
  unfold deskRecall
  split
  · exact .refl
  · exact ((recallLanes_changes _ _ _).andThen presentationPass_changes).after _

theorem deskStatus_changes (h : Header) (desk : Nat) (s : State) : Changes s (deskStatus h desk s).state := by
  unfold deskStatus
  split <;> exact .refl

theorem presentationOf_mapRoute {l : Nat} {f : Route → Route} (s : State) (hf : ∀ r, (f r).presented = r.presented) :
    presentationOf l (mapRoute l f s) = presentationOf l s := by
  cases hq : s.router.routes[l]? with
  | none => simp [mapRoute, hq]
  | some q =>
    have hlt : l < 16 := (Vector.getElem?_eq_some_iff.1 hq).1
    rw [presentationOf_of_route hq, mapRoute_of_route f hq]
    simp [presentationOf, hlt, hf]

theorem removeDisplaced_changes {l : Nat} {s : State} (hp : presentationOf l s = none) :
    Changes s (removeDisplaced l (displaced l s) s).state := by
  unfold removeDisplaced
  split
  · exact .refl
  · exact (Changes.one (.displaced s l hp)).tail (.raised _ _)

theorem routeSet_changes (h : Header) (desk mode code : Nat) (s : State) : Changes s (routeSet h desk mode code s).state := by
  unfold routeSet
  split
  · rename_i l d m _ _ _
    split
    · exact .refl
    · rename_i q hq
      split
      · exact .refl
      · split
        · exact .refl
        · rename_i hbusy
          have hnone : q.presented = none := by
            simp only [Bool.or_eq_true, not_or, Option.isSome_iff_ne_none, ne_eq, not_not] at hbusy
            exact hbusy.2
          refine Changes.after _ (.trans (.one (.route s l (fun q => { q with desk := d, mode := m, code := code })
            fun _ => rfl)) ?_)
          split
          · exact removeDisplaced_changes (by
              rw [presentationOf_mapRoute s (f := fun q => { q with desk := d, mode := m, code := code }) fun _ => rfl,
                presentationOf_of_route hq, hnone])
          · exact .refl
  · exact .refl

theorem routeMask_changes (h : Header) (setting : Nat) (s : State) : Changes s (routeMask h setting s).state := by
  unfold routeMask
  split
  · rename_i l on _ _
    split
    · exact .refl
    · simp only
      split
      · exact .refl
      · split
        · exact .one (.route s l _ fun _ => rfl)
        · exact (Changes.one (.route s l (fun q => { q with masked := false }) fun _ => rfl)).pass.after _
  · exact .refl

end Sys2Proof.Machine
end

section
/-! Every event but the completion of an evaluation is a chain of changes: keying, withdrawal and quantity changes. -/

namespace Sys2Proof.Machine

/-! ### Changes of the basket table beside a taking back -/

theorem endPresentation_withBasketTable (l : Nat) (p : Presentation) (d : Bool) (x : BasketTable) (s : State) :
    endPresentation l p d (s.withBasketTable x) = (endPresentation l p d s).withBasketTable x := by
  unfold endPresentation mapDesk mapRoute
  simp only [State.router_withBasketTable]
  cases hq : s.router.routes[l]? with
  | none =>
    simp only [State.router_withBasketTable]
    cases s.router.desks[p.desk]? <;> rfl
  | some q =>
    simp only [State.router_withRouter]
    cases s.router.desks[p.desk]? <;> rfl

/-- A taking back reads the router alone. -/
theorem takeBack_withBasketTable (l n line : Nat) (x : BasketTable) (s : State) :
    takeBack l n line (s.withBasketTable x) =
      { state := (takeBack l n line s).state.withBasketTable x, sent := (takeBack l n line s).sent } := by
  unfold takeBack
  have hp : presentationOf l (s.withBasketTable x) = presentationOf l s := rfl
  rw [hp]
  split
  · split
    · rw [endPresentation_withBasketTable]
      rfl
    · rfl
  · rfl

theorem ownChange_mapBasket_eq_withBasketTable {s w : State} (n : Nat) (f : Basket → Basket)
    (hw : w.basketTable = s.basketTable) :
    ownChange n (mapBasket n f w) = w.withBasketTable (ownChange n (mapBasket n f s)).basketTable := by
  simp only [ownChange, mapBasket, State.withBaskets, State.basketTable_withBasketTable, hw]
  rfl

/-! ### Taking a notice back (R131) -/

theorem presentationOf_endPresentation (l : Nat) (p : Presentation) (d : Bool) (s : State) :
    presentationOf l (endPresentation l p d s) = none := by
  have hdesk : ∀ (f : Desk → Desk) (t : State), presentationOf l (mapDesk p.desk f t) = presentationOf l t := by
    intro f t
    unfold mapDesk
    split <;> rfl
  rw [endPresentation, hdesk]
  cases hq : s.router.routes[l]? with
  | none => simp [mapRoute, presentationOf, hq]
  | some q =>
    have hlt : l < 16 := (Vector.getElem?_eq_some_iff.1 hq).1
    rw [mapRoute_of_route _ hq]
    simp [presentationOf, hlt]

/-- What a taking back leaves, but for the mark of the record, is a chain of changes away, and then the record of the
line is shown no longer. -/
theorem takeBack_changes {l n : Nat} (line : Nat) {b : Basket} {s : State} (hb : findBasket n s = some b)
    (hl : b.lane = some l) :
    ∃ u, Changes s u ∧ Unshown n line u
      ∧ (u = (takeBack l n line s).state ∨ u = mapRecord n line markTakenBack (takeBack l n line s).state) := by
  unfold takeBack
  split
  · rename_i p hp
    split
    · rename_i hkey
      obtain ⟨rfl, rfl⟩ := hkey
      exact ⟨_, .one (.takenBack s l p false hp), unshown_withTakenBack .., .inr (withTakenBack_eq ..)⟩
    · rename_i hkey
      refine ⟨s, .refl, .inr ⟨b, l, hb, hl, fun q hq => ?_⟩, .inl rfl⟩
      cases hp.symm.trans hq
      exact hkey
  · rename_i hp
    exact ⟨s, .refl, .inr ⟨b, l, hb, hl, fun q hq => (by cases hp.symm.trans hq)⟩, .inl rfl⟩

/-- A lane action removes a line's record with its notice. -/
theorem takeBack_removeRecord_changes {l n : Nat} (line : Nat) {b : Basket} {s : State} (hb : findBasket n s = some b)
    (hl : b.lane = some l) : Changes s (removeRecord n line (takeBack l n line s).state) := by
  obtain ⟨u, hu, hshown, rfl | rfl⟩ := takeBack_changes line hb hl
  · exact hu.tail (.recordRemoved _ _ _ hshown)
  · rw [← removeRecord_mapRecord _ keepsKey_markTakenBack]
    exact hu.tail (.recordRemoved _ _ _ hshown)

theorem recordOf_removeRecord (n line : Nat) (s : State) : recordOf n line (removeRecord n line s) = none :=
  (hasRecord_eq_false_iff n line _).1 (hasRecord_removeRecord n line s)

/-- A withdrawal beside a change of the basket table. -/
theorem withdrawRecord_changes {l n line : Nat} {x : BasketTable} {s : State}
    (hx : Changes s ((removeRecord n line (takeBack l n line s).state).withBasketTable x)) :
    Changes s (withdrawRecord l n line (s.withBasketTable x)).state := by
  unfold withdrawRecord
  rw [takeBack_withBasketTable]
  refine Changes.after _ ?_
  split
  · exact hx
  · exact hx.pass

theorem overrideWithdraw_changes (h : Header) (n line : Nat) (s : State) :
    Changes s (overrideWithdraw h n line s).state := by
  refine onServed_changes fun l b hs => ?_
  obtain ⟨-, -, hb, -, hl⟩ := hs
  split
  · exact .refl
  · refine Changes.after _ (withdrawRecord_changes ?_)
    have hc := (takeBack_removeRecord_changes line hb hl).tail (changes_ownChange n _)
    simpa only [ownChange, mapBasket, State.withBaskets, removeRecord_basketTable, takeBack_basketTable] using hc

theorem lineVoid_changes (h : Header) (n line : Nat) (s : State) : Changes s (lineVoid h n line s).state := by
  refine onServed_changes fun l b hs => ?_
  obtain ⟨-, -, hb, -, hl⟩ := hs
  split
  · exact .refl
  · refine Changes.after _ ?_
    rw [ownChange_mapBasket_eq_withBasketTable _ _ (rfl : s.basketTable = s.basketTable)]
    refine withdrawRecord_changes ?_
    rw [← ownChange_mapBasket_eq_withBasketTable _ _ (by simp)]
    exact ((takeBack_removeRecord_changes line hb hl).tail
      (.lineVoided _ n line (recordOf_removeRecord ..))).tail (changes_ownChange n _)

/-! ### A record handed to the router (R128) -/

theorem handToRouter_changes {l n line : Nat} {s t : State} (ht : Changes s t) :
    Changes s (handToRouter l n line t).state := by
  unfold handToRouter
  simp only
  split
  · rename_i r hr
    split
    · rename_i hgone
      simp only [Bool.and_eq_true, Bool.not_eq_true'] at hgone
      exact ht.pass.tail (.recordRemoved _ _ _ (.inl fun o ho => by cases hr.symm.trans ho; exact hgone.2))
    · exact ht.pass
  · exact ht.pass

/-! ### OVERRIDE KEY (R108 to R111) -/

theorem keyRecord_mapRecord (r : OverrideRecord) (s : State) {f : OverrideRecord → OverrideRecord} (hf : KeepsKey f) :
    keyRecord r (mapRecord r.basket r.line f s) = keyRecord r s := by
  rw [← keyRecord_eq, ← keyRecord_eq, removeRecord_mapRecord s hf]

/-- What keying reads of the records stays the same under a change of one record that keeps its key. -/
theorem hasRecord_mapRecord_self (n line : Nat) (s : State) {f : OverrideRecord → OverrideRecord} (hf : KeepsKey f) :
    hasRecord n line (mapRecord n line f s) = hasRecord n line s := by
  rw [hasRecord, recordOf_mapRecord s hf, Option.isSome_map, hasRecord]

theorem length_basketRecords_mapRecord (n m line : Nat) (s : State) {f : OverrideRecord → OverrideRecord}
    (hf : KeepsKey f) : (basketRecords n (mapRecord m line f s)).length = (basketRecords n s).length := by
  have hp : ((fun r : OverrideRecord => decide (r.basket = n)) ∘ fun r => if r.basket = m ∧ r.line = line then f r else r)
      = fun r => decide (r.basket = n) := by
    funext r
    by_cases hr : r.basket = m ∧ r.line = line
    · simp [hr, hf r]
    · simp [hr]
  rw [basketRecords, mapRecord, State.overrides_withOverrides, List.filter_map, hp, List.length_map]
  rfl

/-- A keyed record follows the taking back of the line's notice. -/
theorem takeBack_keyRecord_changes {l : Nat} {b : Basket} {x : Line} {r : OverrideRecord} {s : State}
    (hb : findBasket r.basket s = some b) (hl : b.lane = some l) (hx : findLine r.line b = some x)
    (hprice : r.price < x.price) (hreduction : r.reduction = (x.price - r.price) * x.quantity)
    (hnew : isPresented r = false) (hgranted : ∀ who most, r.state = .granted who most → r.reduction ≤ most)
    (hbasket : hasRecord r.basket r.line s = true ∨ (basketRecords r.basket s).length < 8)
    (htable : hasRecord r.basket r.line s = true ∨ s.overrides.length < 96) :
    Changes s (keyRecord r (takeBack l r.basket r.line s).state) := by
  obtain ⟨u, hu, hshown, hstate⟩ := takeBack_changes r.line hb hl
  have hover : (takeBack l r.basket r.line s).state.overrides = s.overrides := takeBack_overrides ..
  have hrecords : recordOf r.basket r.line (takeBack l r.basket r.line s).state = recordOf r.basket r.line s := by
    simp only [recordOf, hover]
  have hcount : basketRecords r.basket (takeBack l r.basket r.line s).state = basketRecords r.basket s := by
    simp only [basketRecords, hover]
  have hkeyed : Change u (keyRecord r u) := by
    rcases hstate with rfl | rfl
    · refine .keyed _ b x r ?_ hx hprice hreduction hnew hgranted hshown ?_ ?_
      · simpa [findBasket] using hb
      · simpa [hasRecord, hrecords, hcount] using hbasket
      · simpa [hasRecord, hrecords, hover] using htable
    · refine .keyed _ b x r ?_ hx hprice hreduction hnew hgranted hshown ?_ ?_
      · simpa [findBasket] using hb
      · rw [hasRecord_mapRecord_self _ _ _ keepsKey_markTakenBack,
          length_basketRecords_mapRecord _ _ _ _ keepsKey_markTakenBack, hcount, hasRecord, hrecords]
        exact hbasket
      · rw [hasRecord_mapRecord_self _ _ _ keepsKey_markTakenBack, hasRecord, hrecords]
        simpa [mapRecord, hover, hasRecord] using htable
  rcases hstate with rfl | rfl
  · exact hu.tail hkeyed
  · rw [← keyRecord_mapRecord r _ keepsKey_markTakenBack]
    exact hu.tail hkeyed

theorem keyTaken_changes (h : Header) {l price : Nat} {b : Basket} {x : Line} (why : Reason) {s : State}
    (hb : findBasket b.number s = some b) (hl : b.lane = some l) (hx : findLine x.number b = some x)
    (hprice : price < x.price) (hbasket : hasRecord b.number x.number s = true ∨ (basketRecords b.number s).length < 8)
    (htable : hasRecord b.number x.number s = true ∨ s.overrides.length < 96) :
    Changes s (keyTaken h l b x price why s).state := by
  have hkeyed (granted : Bool) :
      Changes s (keyRecord (newRecord b.number x b.keyingCount price why granted) (takeBack l b.number x.number s).state) := by
    refine takeBack_keyRecord_changes (r := newRecord b.number x b.keyingCount price why granted)
      hb hl hx hprice rfl ?_ ?_ hbasket htable
    · cases granted <;> rfl
    · intro who most hm
      cases granted <;> cases hm
      exact Nat.le_refl _
  by_cases hgrant : laneGrantTest l b.number x.number why price ((x.price - price) * x.quantity) s = true
  · rw [keyTaken_of_grant hgrant]
    refine Changes.after _ ?_
    split
    · exact hkeyed true
    · exact (hkeyed true).pass
  · rw [keyTaken_of_noGrant hgrant]
    exact (handToRouter_changes (hkeyed false)).after _

theorem overrideKey_changes (h : Header) (n line price reason : Nat) (s : State) :
    Changes s (overrideKey h n line price reason s).state := by
  refine onServed_changes fun l b hs => ?_
  obtain ⟨-, -, hb, -, hl⟩ := hs
  obtain rfl := findBasket_number hb
  split
  · exact .refl
  · split
    · exact .refl
    · split
      · exact .refl
      · rename_i x hx
        obtain rfl : x.number = line := by simpa using List.find?_some hx
        split
        · exact .refl
        · rename_i hprice
          split
          · exact .refl
          · split
            · exact .refl
            · rename_i hbasket
              split
              · exact .refl
              · rename_i htable
                refine keyTaken_changes h _ hb hl hx (Nat.lt_of_not_le hprice) ?_ ?_
                · cases hr : hasRecord b.number x.number s
                  · simp only [hr, Bool.not_false, Bool.true_and, decide_eq_true_eq] at hbasket
                    exact .inr (Nat.lt_of_not_le hbasket)
                  · exact .inl rfl
                · cases hr : hasRecord b.number x.number s
                  · simp only [hr, Bool.not_false, Bool.true_and, decide_eq_true_eq] at htable
                    exact .inr (Nat.lt_of_not_le htable)
                  · exact .inl rfl

/-! ### LINE QUANTITY (R10, R114 to R116) -/

section quantity

variable {l n line q : Nat} {b : Basket} {x : Line} {s : State}

/-- A record's change beside the line's quantity and the count of the change. -/
theorem quantity_mapRecord_changes {u : State} {g : OverrideRecord → OverrideRecord} (hu : Changes s u)
    (htable : u.basketTable = s.basketTable) (hb : findBasket n s = some b) (hx : findLine line b = some x)
    (hsum : linesTotal (setQuantity line q b).lines ≤ 99999999) (hkey : KeepsKey g) (hshown : Unshown n line u)
    (hg : ∀ r, recordOf n line u = some r → (g r).price = r.price ∧ (g r).reduction = (x.price - r.price) * q
        ∧ isPresented (g r) = false ∧ ∀ who most, (g r).state = .granted who most → (g r).reduction ≤ most) :
    Changes s (mapRecord n line g (u.withBasketTable (ownChange n (mapBasket n (setQuantity line q) s)).basketTable)) := by
  have hbu : findBasket n u = some b := by simpa [findBasket, htable] using hb
  have hc := (hu.tail (.requantified u n line q b x g hbu hx hsum hkey hshown hg)).tail (changes_ownChange n _)
  rw [← ownChange_mapBasket_eq_withBasketTable n _ htable]
  exact hc

theorem quantity_changes {u : State} (hu : Changes s u)
    (htable : u.basketTable = s.basketTable) (hb : findBasket n s = some b) (hx : findLine line b = some x)
    (hsum : linesTotal (setQuantity line q b).lines ≤ 99999999) (hnone : recordOf n line u = none) :
    Changes s (u.withBasketTable (ownChange n (mapBasket n (setQuantity line q) s)).basketTable) := by
  have hc := quantity_mapRecord_changes (g := id) hu htable hb hx hsum (fun _ => ⟨rfl, rfl⟩)
    (.inl fun r hr => by cases hnone.symm.trans hr) fun r hr => by cases hnone.symm.trans hr
  rwa [mapRecord_of_none] at hc
  exact hnone

theorem requantifyPresented_changes (hb : findBasket n s = some b) (hl : b.lane = some l) (hx : findLine line b = some x)
    (hsum : linesTotal (setQuantity line q b).lines ≤ 99999999) {r : OverrideRecord} (hr : recordOf n line s = some r) :
    Changes s (requantifyPresented l n line (reductionAt r x.price q)
      (s.withBasketTable (ownChange n (mapBasket n (setQuantity line q) s)).basketTable)).state := by
  unfold requantifyPresented
  simp only [takeBack_withBasketTable]
  refine (Changes.pass ?_).after _
  split
  · exact quantity_changes (takeBack_removeRecord_changes line hb hl) (by simp) hb hx hsum (recordOf_removeRecord ..)
  · obtain ⟨u, hu, hshown, hstate⟩ := takeBack_changes line hb hl
    have hback : recordOf n line (takeBack l n line s).state = some r := by
      rw [← hr]; simp only [recordOf, takeBack_overrides]
    have htable : u.basketTable = s.basketTable := by rcases hstate with rfl | rfl <;> simp
    have hgoal := quantity_mapRecord_changes (g := fun r' => withReduction (reductionAt r x.price q) (markTakenBack r'))
      hu htable hb hx hsum (fun _ => ⟨rfl, rfl⟩) hshown (by
        intro o ho
        have hprice : o.price = r.price := by
          rcases hstate with rfl | rfl
          · rw [Option.some.inj (hback.symm.trans ho)]
          · rw [recordOf_mapRecord _ keepsKey_markTakenBack, hback] at ho
            rw [← Option.some.inj ho]
            rfl
        refine ⟨rfl, ?_, rfl, fun who most hm => by cases hm⟩
        rw [hprice]
        rfl)
    rcases hstate with rfl | rfl
    · exact hgoal
    · have hcommute : ∀ t : State, (mapRecord n line markTakenBack t).withBasketTable
            (ownChange n (mapBasket n (setQuantity line q) s)).basketTable
          = mapRecord n line markTakenBack (t.withBasketTable
            (ownChange n (mapBasket n (setQuantity line q) s)).basketTable) := fun _ => rfl
      rw [hcommute, mapRecord_mapRecord _ keepsKey_markTakenBack] at hgoal
      exact hgoal

theorem requantify_changes (hb : findBasket n s = some b) (hl : b.lane = some l) (hx : findLine line b = some x)
    (hsum : linesTotal (setQuantity line q b).lines ≤ 99999999) :
    Changes s (requantify l n line x.price q (ownChange n (mapBasket n (setQuantity line q) s))).state := by
  rw [ownChange_mapBasket_eq_withBasketTable n _ (rfl : s.basketTable = s.basketTable)]
  have hrec : ∀ y, recordOf n line (s.withBasketTable y) = recordOf n line s := fun _ => rfl
  unfold requantify
  rw [hrec]
  split
  · rename_i hnone
    exact quantity_changes .refl rfl hb hx hsum hnone
  · rename_i r hr
    simp only
    have hself (g : OverrideRecord → OverrideRecord) (hkey : KeepsKey g) (hp : isPresented r = false)
        (hg : (g r).price = r.price ∧ (g r).reduction = (x.price - r.price) * q ∧ isPresented (g r) = false
          ∧ ∀ who most, (g r).state = .granted who most → (g r).reduction ≤ most) :=
      quantity_mapRecord_changes (g := g) .refl rfl hb hx hsum hkey
        (.inl fun o ho => by cases hr.symm.trans ho; exact hp) fun o ho => by cases hr.symm.trans ho; exact hg
    split
    · rename_i count hst
      have hp : isPresented r = false := by simp [isPresented, hst]
      exact hself _ (fun _ => ⟨rfl, rfl⟩) hp ⟨rfl, rfl, by simp [isPresented, withReduction, hst],
        fun who most hm => by simp [withReduction, hst] at hm⟩
    · exact requantifyPresented_changes hb hl hx hsum hr
    · rename_i who most hst
      have hp : isPresented r = false := by simp [isPresented, hst]
      split
      · rename_i hle
        refine hself _ (fun _ => ⟨rfl, rfl⟩) hp ⟨rfl, rfl, by simp [isPresented, withReduction, hst], fun w m hm => ?_⟩
        have : most = m := by
          have : r.state = .granted w m := hm
          rw [hst] at this
          cases this; rfl
        rw [← this]
        exact hle
      · unfold outgrown
        split
        · refine hself _ (fun _ => ⟨rfl, rfl⟩) hp ⟨rfl, rfl, rfl, fun w m hm => ?_⟩
          cases hm
          exact Nat.le_refl _
        · exact handToRouter_changes (hself _ (fun _ => ⟨rfl, rfl⟩) hp ⟨rfl, rfl, rfl, fun w m hm => by cases hm⟩)

end quantity

theorem lineQuantity_changes (h : Header) (n line q : Nat) (s : State) : Changes s (lineQuantity h n line q s).state := by
  refine onServed_changes fun l b hs => ?_
  obtain ⟨-, -, hb, -, hl⟩ := hs
  split
  · exact .refl
  · rename_i x hx
    split
    · exact .refl
    · rename_i hok
      split
      · exact .refl
      · refine (requantify_changes hb hl hx ?_).after _
        simp only [Bool.or_eq_true, decide_eq_true_eq, not_or] at hok
        exact Nat.le_of_not_lt hok.2

end Sys2Proof.Machine
end

section
/-! Every event but the completion of an evaluation is a chain of changes: settlement, the store, the tables, the calendar
and the modes. -/

namespace Sys2Proof.Machine

/-! ### The ends of baskets and the journal (chapter 9) -/

theorem journal_lt_of_not_full {s : State} (h : ¬ journalFull s = true) : s.settlement.journal.length < 128 :=
  Nat.lt_of_not_le fun hle => h (journalFull_iff.2 hle)

theorem settle_changes (h : Header) (n expected : Nat) (s : State) : Changes s (settle h n expected s).state := by
  refine onServed_changes fun l b hs => ?_
  obtain ⟨-, -, hb, -, hl⟩ := hs
  obtain rfl := findBasket_number hb
  split
  · exact .refl
  · split
    · exact .refl
    · split
      · exact .refl
      · rename_i p hp
        split
        · exact .refl
        · split
          · exact .refl
          · rename_i hpending
            split
            · exact .refl
            · split
              · exact .refl
              · split
                · exact .refl
                · split
                  · exact .refl
                  · rename_i hj
                    refine .one (.settled s l p.points b _ hb hl ?_ ?_ (journal_lt_of_not_full hj))
                    · unfold currentPlan at hp
                      split at hp
                      · assumption
                      · cases hp
                    · rw [List.any_eq_false]
                      intro r hr hpend
                      exact hpending (List.length_pos_of_mem (List.mem_filter.2 ⟨hr, hpend⟩))

/-- A cancelled basket's records go, so that a change of one of them before does not count. -/
theorem cancelled_mapRecord (b : Basket) (line : Nat) (s : State) {f : OverrideRecord → OverrideRecord} (hf : KeepsKey f) :
    cancelBasket b .host (cancelEvaluation b.number (mapRecord b.number line f s))
      = cancelBasket b .host (cancelEvaluation b.number s) := by
  have hlist : ∀ rs : List OverrideRecord,
      (rs.map fun r => if r.basket = b.number ∧ r.line = line then f r else r).filter (fun r => decide (r.basket ≠ b.number))
      = rs.filter fun r => decide (r.basket ≠ b.number) := by
    intro rs
    induction rs with
    | nil => rfl
    | cons r rs ih =>
      by_cases hr : r.basket = b.number ∧ r.line = line
      · rw [List.map_cons, if_pos hr, List.filter_cons, List.filter_cons, ih]
        simp [hr.1, (hf r).1]
      · rw [List.map_cons, if_neg hr, List.filter_cons, List.filter_cons, ih]
  have hcancel (t : State) : cancelBasket b .host (cancelEvaluation b.number t)
      = freeBasket b.number (appendRecord (.cancelled (cancelledRecord b .host t))
          (dropAccount b ((cancelEvaluation b.number t).withOverrides
            (t.overrides.filter fun r => decide (r.basket ≠ b.number))))) := rfl
  rw [hcancel, hcancel, mapRecord, State.overrides_withOverrides, hlist]
  rfl

theorem cancelTaken_changes (h : Header) {b : Basket} {s : State} (hb : findBasket b.number s = some b)
    (hj : s.settlement.journal.length < 128) : Changes s (cancelTaken h b s).state := by
  have hback : Changes s (cancelBasket b .host (cancelEvaluation b.number
      (match b.lane.bind fun l => (presentationOf l s).map fun p => (l, p) with
        | some (l, p) => takeBack l b.number p.line s
        | none => nothing s).state)) := by
    split
    · rename_i l p hlp
      obtain ⟨l', hl, hmap⟩ := Option.bind_eq_some_iff.1 hlp
      obtain ⟨p', hp, hpair⟩ := Option.map_eq_some_iff.1 hmap
      cases hpair
      unfold takeBack
      rw [hp]
      simp only
      split
      · rename_i hkey
        have hcancel := Change.cancelled (withTakenBack l p false s) b (by simpa [findBasket, withTakenBack] using hb)
          (by simpa [withTakenBack] using hj) fun l₂ p₂ hl₂ hp₂ => by
            cases hl.symm.trans hl₂
            cases (presentationOf_endPresentation ..).symm.trans hp₂
        have hback := Changes.one (.takenBack s l p false hp)
        rw [withTakenBack_eq, hkey.1] at hback hcancel
        rw [cancelled_mapRecord _ _ _ keepsKey_markTakenBack] at hcancel
        exact hback.tail hcancel
      · rename_i hkey
        refine .one (.cancelled s b hb hj fun l₂ p₂ hl₂ hp₂ => ?_)
        cases hl.symm.trans hl₂
        cases hp.symm.trans hp₂
        exact fun hn => hkey ⟨hn, trivial⟩
    · rename_i hnone
      refine .one (.cancelled s b hb hj fun l p hl hp => ?_)
      simp [hl, hp] at hnone
  have hend (back : Effect) (hb : Changes s (cancelBasket b .host (cancelEvaluation b.number back.state))) :
      Changes s (if back.sent = [] then nothing (cancelBasket b .host (cancelEvaluation b.number back.state))
        else presentationPass (cancelBasket b .host (cancelEvaluation b.number back.state))).state := by
    split
    · exact hb
    · exact hb.pass
  exact hend _ hback

theorem cancel_changes (h : Header) (n : Nat) (s : State) : Changes s (cancel h n s).state := by
  unfold cancel
  split
  · exact .refl
  · split
    · exact .refl
    · rename_i b hb
      split
      · exact .refl
      · split
        · exact .refl
        · rename_i hj
          exact cancelTaken_changes h (findBasket_number_self hb) (journal_lt_of_not_full hj)

theorem parkTimerExpiry_changes (n : Nat) (s : State) : Changes s (parkTimerExpiry n s).state := by
  unfold parkTimerExpiry
  split
  · exact .refl
  · rename_i b hb
    split
    · exact .refl
    · rename_i hrun
      obtain ⟨hparked, htimer⟩ := not_or.1 hrun
      split
      · rename_i hj
        exact .one (.markedExpired s n b hb (by simpa using hparked) htimer (journalFull_iff.1 hj))
      · rename_i hj
        exact .one (.expired s b (findBasket_number_self hb) (by simpa using hparked) (journal_lt_of_not_full hj))

theorem journalTake_changes (h : Header) (s : State) : Changes s (journalTake h s).state := by
  unfold journalTake
  split
  · exact .refl
  · rename_i r rest hj
    refine Changes.after _ ?_
    unfold admitWaiting
    split
    · rename_i hw
      exact .one (.collected s r rest hj (.inl hw))
    · split
      · rename_i hnone
        exact .one (.collected s r rest hj (.inr hnone))
      · rename_i b hb
        exact .one (.admitted s r rest b hj hb)

/-! ### The offer store (chapter 2) -/

theorem eraseSet_lt {st : OfferStore} {k : Nat} (hk : k ∈ eraseSet st) : k < 8 :=
  List.mem_range.1 (List.mem_filter.1 hk).1

theorem beginErase_inForm {st : OfferStore} (hst : st.InForm) : (beginErase st).InForm := by
  obtain ⟨hwf, hprogram, -⟩ := hst
  unfold beginErase
  split
  · exact ⟨hwf, hprogram, fun k hk => by cases hk⟩
  · rename_i j rest hset
    refine ⟨hwf, hprogram, fun k hk => ?_⟩
    cases hk
    exact eraseSet_lt (hset ▸ List.mem_cons_self ..)

theorem OfferStore.inForm_of {st : OfferStore} (hwf : OfferArray.wf st.slots = true)
    (hp : ∀ p, st.program = some p → p.slot < 512) (hk : ∀ k, st.inProgress = some k → k < 8) : st.InForm := ⟨hwf, hp, hk⟩

theorem OfferStore.inForm_of_programless {st : OfferStore} (hwf : OfferArray.wf st.slots = true)
    (hp : st.program = none) (hk : ∀ k, st.inProgress = some k → k < 8) : st.InForm :=
  ⟨hwf, fun p h => (by cases hp.symm.trans h), hk⟩

theorem programFailed_inForm {slot : Nat} {st : OfferStore} (hst : st.InForm) (hslot : slot < 512) :
    (programFailed slot st).InForm := by
  obtain ⟨hwf, -, hprogress⟩ := hst
  refine OfferStore.inForm_of_programless ?_ rfl fun k hk => by cases hk
  have hput := OfferArray.wf_put slot .damaged st.slots hwf hslot
  simp only [programFailed]
  split
  · split
    · rename_i k hk
      exact OfferArray.wf_damageSector k _ hput (hprogress k hk)
    · exact hput
  · exact hput

theorem offerWrite_changes (h : Header) (slot : Nat) (r : OfferRecord) (s : State) :
    Changes s (offerWrite h slot r s).state := by
  unfold offerWrite
  split
  · exact .refl
  · rename_i hok
    obtain ⟨hslot, -⟩ := not_or.1 hok
    split
    · exact .refl
    · split
      · exact .refl
      · split
        · exact .refl
        · split
          · exact .refl
          · refine .one (.stored s _ fun hst => ?_)
            obtain ⟨hwf, -, hprogress⟩ := hst
            exact ⟨hwf, fun p hp => by cases hp; exact Nat.lt_of_not_le hslot, hprogress⟩

theorem offerRetire_changes (h : Header) (slot : Nat) (s : State) : Changes s (offerRetire h slot s).state := by
  unfold offerRetire
  split
  · exact .refl
  · rename_i hslot
    split
    · exact .refl
    · split
      · exact .refl
      · split
        · exact .refl
        · refine (Changes.one (.stored s _ fun hst => ?_)).tail (.raised _ _)
          obtain ⟨hwf, -, hprogress⟩ := hst
          exact ⟨hwf, fun p hp => by cases hp; exact Nat.lt_of_not_le hslot, hprogress⟩

theorem offerProgramCompletion_changes (o : StoreOutcome) (s : State) : Changes s (offerProgramCompletion o s).state := by
  unfold offerProgramCompletion
  split
  · rename_i slot r h hprogram
    split
    · refine .one (.stored s _ fun hst => ?_)
      obtain ⟨hwf, hslot, hprogress⟩ := hst
      exact OfferStore.inForm_of_programless (OfferArray.wf_put _ _ _ hwf (hslot _ hprogram)) rfl hprogress
    · exact .one (.stored s _ fun hst => programFailed_inForm hst (hst.2.1 _ hprogram))
  · exact .refl
  · exact .refl

theorem retireSlot_wf {slot : Nat} {a : OfferArray} (ha : OfferArray.wf a = true) (hslot : slot < 512) :
    OfferArray.wf (retireSlot slot a) = true := by
  unfold retireSlot
  split
  · exact OfferArray.wf_put _ _ _ ha hslot
  · exact ha

theorem retireProgramCompletion_changes (o : StoreOutcome) (s : State) :
    Changes s (retireProgramCompletion o s).state := by
  unfold retireProgramCompletion
  split
  · rename_i slot h hprogram
    split
    · refine .one (.stored s _ fun hst => ?_)
      obtain ⟨hwf, hslot, hprogress⟩ := hst
      exact OfferStore.inForm_of_programless (retireSlot_wf hwf (hslot _ hprogram)) rfl hprogress
    · exact .one (.stored s _ fun hst => programFailed_inForm hst (hst.2.1 _ hprogram))
  · exact .refl
  · exact .refl

theorem offerRead_changes (h : Header) (slot : Nat) (s : State) : Changes s (offerRead h slot s).state := by
  unfold offerRead
  split <;> exact .refl

theorem sectorErase_changes (h : Header) (k : Nat) (s : State) : Changes s (sectorErase h k s).state := by
  unfold sectorErase
  split
  · exact .refl
  · split
    · exact .refl
    · split
      · exact .refl
      · exact .one (.stored s _ id)

theorem gatherTimerExpiry_changes (s : State) : Changes s (gatherTimerExpiry s).state := by
  unfold gatherTimerExpiry
  split
  · exact .one (.stored s _ fun hst => beginErase_inForm (st := { s.store with gatherTimer := none }) hst)
  · exact .refl

theorem eraseCompletion_changes (o : StoreOutcome) (s : State) : Changes s (eraseCompletion o s).state := by
  unfold eraseCompletion
  split
  · exact .refl
  · rename_i k hk
    split
    · exact .refl
    · split
      · refine .one (.stored s _ fun hst => ?_)
        obtain ⟨hwf, hprogram, -⟩ := hst
        have herased : (sectorErased k s.store).InForm :=
          ⟨OfferArray.wf_eraseSector k _ hwf, hprogram, fun j hj => by cases hj⟩
        split
        · exact beginErase_inForm herased
        · exact herased
      · refine .one (.stored s _ fun hst => ?_)
        obtain ⟨hwf, hprogram, hprogress⟩ := hst
        refine OfferStore.inForm_of ?_ hprogram fun j hj => by cases hj
        dsimp only
        exact OfferArray.wf_damageSector k _ hwf (hprogress k hk)

theorem eraseSuspend_changes (h : Header) (s : State) : Changes s (eraseSuspend h s).state := by
  unfold eraseSuspend
  split
  · exact .one (.stored s _ id)
  · refine .one (.stored s _ fun hst => ?_)
    obtain ⟨hwf, hprogram, -⟩ := hst
    exact ⟨hwf, hprogram, fun j hj => by cases hj⟩
  all_goals exact .refl

theorem suspendCompletion_changes (s : State) : Changes s (suspendCompletion s).state := by
  unfold suspendCompletion
  split
  · exact .one (.stored s _ id)
  · exact .refl

theorem eraseResume_changes (h : Header) (s : State) : Changes s (eraseResume h s).state := by
  unfold eraseResume
  split
  · refine .one (.stored s _ fun hst => ?_)
    unfold resumed
    split
    · exact hst
    · exact beginErase_inForm hst
  · split <;> exact .refl

theorem storeClearFault_changes (h : Header) (s : State) : Changes s (storeClearFault h s).state := by
  unfold storeClearFault
  rw [answer_state]
  split
  · exact .one (.stored s _ id)
  · exact .refl

/-! ### The reference tables (chapter 3) -/

theorem length_insertRange (r : GroupRange) (rs : List GroupRange) : (insertRange r rs).length = rs.length + 1 := by
  induction rs with
  | nil => rfl
  | cons q rest ih => unfold insertRange; split <;> simp [ih]

theorem mem_insertRange {r q : GroupRange} {rs : List GroupRange} (h : q ∈ insertRange r rs) : q = r ∨ q ∈ rs := by
  induction rs with
  | nil => exact .inl (by simpa [insertRange] using h)
  | cons p rest ih =>
    unfold insertRange at h
    split at h
    · simpa using h
    · rcases List.mem_cons.1 h with rfl | h
      · simp
      · rcases ih h with h | h <;> simp [h]

/-- A range that shares no code with a table in order takes its place in it (R47, R48). -/
theorem insertRange_pairwise {r : GroupRange} {rs : List GroupRange} (hasc : rs.Pairwise fun p q => p.last < q.first)
    (hle : ∀ q ∈ rs, q.first ≤ q.last) (hfree : ∀ q ∈ rs, q.last < r.first ∨ r.last < q.first) (hr : r.first ≤ r.last) :
    (insertRange r rs).Pairwise fun p q => p.last < q.first := by
  induction rs with
  | nil => simp [insertRange]
  | cons q rest ih =>
    obtain ⟨hq, hrest⟩ := List.pairwise_cons.1 hasc
    have hqle := hle q (by simp)
    have hqfree := hfree q (by simp)
    unfold insertRange
    split
    · refine List.pairwise_cons.2 ⟨fun p hp => ?_, hasc⟩
      rcases List.mem_cons.1 hp with rfl | hp
      · omega
      · have := hq p hp
        omega
    · refine List.pairwise_cons.2 ⟨fun p hp => ?_, ih hrest (fun p hp => hle p (by simp [hp])) fun p hp => hfree p (by simp [hp])⟩
      rcases mem_insertRange hp with rfl | hp
      · omega
      · exact hq p hp

theorem insertRange_inForm {r : GroupRange} {rs : List GroupRange} (hin : rangesInForm rs)
    (hr : 1 ≤ r.first ∧ r.first ≤ r.last ∧ r.last ≤ 999999999 ∧ 1 ≤ r.group ∧ r.group ≤ 255)
    (hfree : ∀ q ∈ rs, q.last < r.first ∨ r.last < q.first) (hroom : rs.length < 256) : rangesInForm (insertRange r rs) := by
  obtain ⟨-, hasc, hvals⟩ := hin
  refine ⟨by rw [length_insertRange]; omega, insertRange_pairwise hasc (fun q hq => (hvals q hq).2.1) hfree hr.2.1,
    fun q hq => ?_⟩
  rcases mem_insertRange hq with rfl | hq
  · exact hr
  · exact hvals q hq

theorem groupRangeAdd_changes (h : Header) (f l g : Nat) (con earn : Bool) (s : State) :
    Changes s (groupRangeAdd h f l g con earn s).state := by
  refine inMaintenance_changes ?_
  split
  · exact .refl
  · rename_i hok
    split
    · exact .refl
    · rename_i hfree
      split
      · exact .refl
      · rename_i hroom
        simp only [Bool.not_eq_true', Bool.not_eq_false, Bool.and_eq_true, decide_eq_true_eq, inRange_iff] at hok
        obtain ⟨⟨⟨hf, hl⟩, hfl⟩, hg⟩ := hok
        refine .one (.tabled s _ fun hin => insertRange_inForm hin ?_ ?_ ?_)
        · exact ⟨hf.1, hfl, hl.2, hg⟩
        · intro q hq
          exact sharesCode_eq_false_iff.1 (by simpa using List.find?_eq_none.1 hfree q hq)
        · exact Nat.lt_of_not_le hroom

theorem groupRangeRemove_changes (h : Header) (f : Nat) (s : State) : Changes s (groupRangeRemove h f s).state := by
  refine inMaintenance_changes ?_
  split
  · exact .refl
  · split
    · exact .refl
    · refine .one (.tabled s _ fun hin => ?_)
      obtain ⟨hlen, hasc, hvals⟩ := hin
      exact ⟨(List.length_filter_le _ _).trans hlen, hasc.filter _, fun r hr => hvals r (List.mem_of_mem_filter hr)⟩

theorem groupTableClear_changes (h : Header) (s : State) : Changes s (groupTableClear h s).state :=
  inMaintenance_changes (.one (.tabled s _ fun _ => ⟨by simp, .nil, by simp⟩))

theorem maskWrite_changes (h : Header) (e : Nat) (v : Flags) (u : Nat) (s : State) :
    Changes s (maskWrite h e v u s).state := by
  unfold maskWrite
  split
  · exact .refl
  · split
    · exact .refl
    · refine Changes.after _ ((Changes.one (.tabled s _ ?_)).tail (.raised _ _))
      exact id

theorem maskRead_changes (h : Header) (e : Nat) (s : State) : Changes s (maskRead h e s).state := by
  unfold maskRead
  split <;> exact .refl

theorem tierSet_changes (h : Header) (t r : Nat) (s : State) : Changes s (tierSet h t r s).state := by
  refine inMaintenance_changes ?_
  split
  · exact .refl
  · split
    · exact .refl
    · exact .one (.tabled s _ id)

theorem limitsSet_changes (h : Header) (a b c d e f g : Nat) (s : State) :
    Changes s (limitsSet h a b c d e f g s).state := by
  unfold limitsSet
  split
  · exact .one (.tabled s _ id)
  · exact .refl

theorem storeIdentity_changes (h : Header) (n : Nat) (s : State) : Changes s (storeIdentity h n s).state := by
  unfold storeIdentity
  split
  · exact .refl
  · split
    · exact .refl
    · exact .one (.tabled s _ id)

/-! ### The calendar (chapter 4) -/

theorem recheck_change (s : State) : Change s (recheck s) :=
  .stored s _ fun hst => ⟨OfferArray.wf_mapSlots _ _ hst.1, hst.2⟩

theorem daysInMonth_le (y m : Nat) : daysInMonth y m ≤ 31 := by
  unfold daysInMonth; split <;> (try split) <;> omega

theorem realDay_iff {y m d : Nat} :
    realDay y m d = true ↔ (2000 ≤ y ∧ y ≤ 2099) ∧ (1 ≤ m ∧ m ≤ 12) ∧ 1 ≤ d ∧ d ≤ daysInMonth y m := by
  simp [realDay, inRange_iff, and_assoc]

/-- The days of the months before one, with its own, are those before the next (R65). -/
theorem daysBeforeMonth_succ {y m : Nat} (hm : 1 ≤ m) : daysBeforeMonth y (m + 1) = daysBeforeMonth y m + daysInMonth y m :=
  if_neg (by omega)

/-- A year has 365 days, or 366 when it is divisible by 4 (R60). -/
theorem daysBeforeMonth_year (y : Nat) : daysBeforeMonth y 12 + 31 = if y % 4 = 0 then 366 else 365 := by
  have hmonths : daysBeforeMonth y 12 = 0 + 31 + daysInMonth y 2 + 31 + 30 + 31 + 30 + 31 + 31 + 30 + 31 + 30 := rfl
  have hfeb : daysInMonth y 2 = if y % 4 = 0 then 29 else 28 := rfl
  rw [hmonths, hfeb]
  split <;> rfl

/-- The weekday goes up by 1 with the day and runs round after 6 (R62). -/
theorem weekdayOf_of_succ {y m d y' m' d' : Nat} (h : daysSince2000 y' m' d' = daysSince2000 y m d + 1) :
    weekdayOf y' m' d' = if weekdayOf y m d + 1 = 7 then 0 else weekdayOf y m d + 1 := by
  unfold weekdayOf
  rw [h]
  split <;> omega

theorem nextDay_real {t : Stamp} (ht : t.Real) (hlast : ¬ (t.year = 2099 ∧ t.month = 12 ∧ t.day = 31)) :
    (nextDay t).Real := by
  obtain ⟨hday, hweek, hh, hm, hs⟩ := ht
  obtain ⟨hy, hmo, hd⟩ := realDay_iff.1 hday
  unfold nextDay
  simp only
  split
  · rename_i hin
    refine ⟨realDay_iff.2 ⟨hy, hmo, Nat.le_add_left .., hin⟩, ?_, hh, hm, hs⟩
    rw [weekdayOf_of_succ (y := t.year) (m := t.month) (d := t.day) (by simp only [daysSince2000]; omega), hweek]
  · rename_i hend
    have hd31 : t.day = daysInMonth t.year t.month := by omega
    split
    · rename_i hin
      have hfirst : 1 ≤ daysInMonth t.year (t.month + 1) := by
        unfold daysInMonth; split <;> (try split) <;> omega
      refine ⟨realDay_iff.2 ⟨hy, ⟨Nat.le_add_left .., hin⟩, Nat.le_refl _, hfirst⟩, ?_, hh, hm, hs⟩
      rw [weekdayOf_of_succ (y := t.year) (m := t.month) (d := t.day) ?_, hweek]
      simp only [daysSince2000, daysBeforeMonth_succ hmo.1]
      omega
    · rename_i hin
      have hmo12 : t.month = 12 := by omega
      have h31 : daysInMonth t.year 12 = 31 := by simp [daysInMonth]
      rw [hmo12, h31] at hd31
      have hyear := daysBeforeMonth_year t.year
      refine ⟨realDay_iff.2 (by dsimp only; refine ⟨by omega, by omega, by omega, by simp [daysInMonth]⟩), ?_, hh, hm, hs⟩
      rw [weekdayOf_of_succ (y := t.year) (m := t.month) (d := t.day) ?_, hweek]
      rw [hmo12, hd31]
      simp only [daysSince2000]
      have hjan : daysBeforeMonth (t.year + 1) 1 = 0 := rfl
      rw [hjan]
      split at hyear <;> omega

theorem lastMinute_iff {t : Stamp} : lastMinute t = true ↔
    t.year = 2099 ∧ t.month = 12 ∧ t.day = 31 ∧ t.hour = 23 ∧ t.minute = 59 := by
  simp [lastMinute, and_assoc]

theorem nextMinute_real {t : Stamp} (ht : t.Real) (hlast : ¬ lastMinute t = true) : (nextMinute t).Real := by
  obtain ⟨hday, hweek, hh, hm, hs⟩ := ht
  unfold nextMinute
  split
  · exact ⟨hday, hweek, hh, by simp only; omega, hs⟩
  · split
    · exact ⟨hday, hweek, by simp only; omega, by simp, hs⟩
    · refine nextDay_real ⟨hday, hweek, by simp, by simp, hs⟩ fun hd => hlast (lastMinute_iff.2 ?_)
      exact ⟨hd.1, hd.2.1, hd.2.2, by omega, by omega⟩

theorem withSecond_real {t : Stamp} (ht : t.Real) {k : Nat} (hk : k ≤ 59) : ({ t with second := k } : Stamp).Real := by
  obtain ⟨hday, hweek, hh, hm, -⟩ := ht
  exact ⟨hday, hweek, hh, hm, hk⟩

theorem nextSecond_real {t : Stamp} (ht : t.Real) : (nextSecond t).Real := by
  unfold nextSecond
  split
  · exact withSecond_real ht (by omega)
  · split
    · exact ht
    · exact nextMinute_real (withSecond_real ht (by omega)) (by assumption)

theorem roundMinute_real {t : Stamp} (ht : t.Real) : (roundMinute t).Real := by
  unfold roundMinute
  split
  · exact withSecond_real ht (by omega)
  · rename_i h
    exact nextMinute_real (withSecond_real ht (by omega)) (not_or.1 h).2

theorem secondEvent_changes (s : State) : Changes s (secondEvent s).state := by
  unfold secondEvent
  split
  · exact .refl
  · rw [nothing_state]
    have ht := Changes.one (.timed s { s.calendar with now := nextSecond s.calendar.now, phase := s.calendar.phase - 1000 }
      fun h => nextSecond_real h)
    split
    · exact ht.tail (recheck_change _)
    · exact ht

theorem calendarSet_changes (h : Header) (y mo d ho mi se : Nat) (s : State) :
    Changes s (calendarSet h y mo d ho mi se s).state := by
  unfold calendarSet
  split
  · rename_i hok
    refine (Changes.one (.timed s _ fun _ => ?_)).tail (recheck_change _)
    simp only [calendarFieldsOk, Bool.and_eq_true, decide_eq_true_eq, and_assoc] at hok
    exact ⟨hok.1, rfl, hok.2⟩
  · exact .refl

theorem minuteMark_changes (h : Header) (s : State) : Changes s (minuteMark h s).state := by
  unfold minuteMark
  split
  · exact .refl
  · exact (Changes.one (.timed s { s.calendar with now := roundMinute s.calendar.now, phase := 0 } fun ht =>
      roundMinute_real ht)).tail (recheck_change _)

/-! ### Modes and the engine (chapter 10) -/

theorem tradingStart_changes (h : Header) (s : State) : Changes s (tradingStart h s).state := by
  unfold tradingStart
  split
  · exact .refl
  · split
    · exact .refl
    · split
      · exact .refl
      · exact .one (.mode s _)

theorem tradingStop_changes (h : Header) (s : State) : Changes s (tradingStop h s).state := by
  unfold tradingStop
  split
  · exact .refl
  · exact .one (.mode s _)

theorem engineStatus_changes (h : Header) (clear : Nat) (s : State) : Changes s (engineStatus h clear s).state := by
  unfold engineStatus
  split
  · exact .refl
  · rw [answer_state]
    split
    · exact .one (.countsCleared s)
    · exact .refl

/-! ### Every event -/

/-- Every event but the completion of an evaluation is a chain of changes. -/
theorem runOf_changes {c : Instr} (hc : ∀ u, c ≠ .evaluationCompletion u) (s : State) : Changes s (runOf c s).state := by
  cases c with
  | powerOn | pinReset | frameReceived | messageSent | heldMessageJoin => exact .refl
  | laneOpen h => exact laneOpen_changes h s
  | laneClose h => exact laneClose_changes h s
  | laneProfile h c m f g => exact laneProfile_changes h c m f g s
  | basketOpen h => exact basketOpen_changes h s
  | lineAdd h n i q u m c e => exact lineAdd_changes h n i q u m c e s
  | lineQuantity h n l q => exact lineQuantity_changes h n l q s
  | lineVoid h n l => exact lineVoid_changes h n l s
  | couponPresent h n k => exact couponPresent_changes h n k s
  | couponWithdraw h n k => exact couponWithdraw_changes h n k s
  | accountAttach h n a => exact accountAttach_changes h n a s
  | accountDetach h n => exact accountDetach_changes h n s
  | total h n => exact total_changes h n s
  | planLines h n i => exact planLines_changes h n i s
  | park h n => exact park_changes h n s
  | basketRecall h n => exact recallRequest_changes h n s
  | cancel h n => exact cancel_changes h n s
  | overrideKey h n l p r => exact overrideKey_changes h n l p r s
  | overrideWithdraw h n l => exact overrideWithdraw_changes h n l s
  | redeem h n p => exact redeem_changes h n p s
  | redeemRelease h n => exact redeemRelease_changes h n s
  | settle h n p => exact settle_changes h n p s
  | authorise h d t o => exact decision_changes _ h _ d t o s
  | decline h d t o => exact decision_changes _ h _ d t o s
  | deskDuty h d u => exact deskDuty_changes h d u s
  | deskRecall h c => exact deskRecall_changes h c s
  | deskStatus h d => exact deskStatus_changes h d s
  | routeSet h d m c => exact routeSet_changes h d m c s
  | routeMask h m => exact routeMask_changes h m s
  | accountLoad h a t f b => exact accountLoad_changes h a t f b s
  | accountEvict h a => exact accountEvict_changes h a s
  | accountRead h a => exact accountRead_changes h a s
  | offerWrite h k r => exact offerWrite_changes h k r s
  | offerRetire h k => exact offerRetire_changes h k s
  | offerRead h k => exact offerRead_changes h k s
  | sectorErase h k => exact sectorErase_changes h k s
  | eraseSuspend h => exact eraseSuspend_changes h s
  | eraseResume h => exact eraseResume_changes h s
  | storeStatus h => exact .refl
  | storeClearFault h => exact storeClearFault_changes h s
  | groupRangeAdd h f l g c e => exact groupRangeAdd_changes h f l g c e s
  | groupRangeRemove h f => exact groupRangeRemove_changes h f s
  | groupTableClear h => exact groupTableClear_changes h s
  | maskWrite h t f u => exact maskWrite_changes h t f u s
  | maskRead h e => exact maskRead_changes h e s
  | tierSet h t r => exact tierSet_changes h t r s
  | limitsSet h a b c d e f g => exact limitsSet_changes h a b c d e f g s
  | storeIdentity h n => exact storeIdentity_changes h n s
  | calendarSet h y mo d ho mi se => exact calendarSet_changes h y mo d ho mi se s
  | calendarRead h => exact .refl
  | minuteMark h => exact minuteMark_changes h s
  | tradingStart h => exact tradingStart_changes h s
  | tradingStop h => exact tradingStop_changes h s
  | restart h => exact .one (.restarted s)
  | engineStatus h c => exact engineStatus_changes h c s
  | journalTake h => exact journalTake_changes h s
  | journalCount h => exact .refl
  | parkTimerExpiry n => exact parkTimerExpiry_changes n s
  | holdTimerExpiry n => exact holdTimerExpiry_changes n s
  | noticeTimerExpiry l => exact noticeTimerExpiry_changes l s
  | gatherTimerExpiry => exact gatherTimerExpiry_changes s
  | secondEvent => exact secondEvent_changes s
  | evaluationCompletion u => exact absurd rfl (hc u)
  | offerProgramCompletion o => exact offerProgramCompletion_changes o s
  | retireProgramCompletion o => exact retireProgramCompletion_changes o s
  | eraseCompletion o => exact eraseCompletion_changes o s
  | suspendCompletion => exact suspendCompletion_changes s

/-- The completion of an evaluation: its unit is freed with its result dropped, installed or queued again, and then an
idle unit takes the head of the queue (R79, R98). -/
theorem evaluationCompletion_cases (i : Nat) (s : State) :
    (evaluationCompletion i s).state = s
    ∨ ∃ u, s.evaluator.units[i]? = some (some u) ∧
      ((evaluationCompletion i s).state = unitTakes (freeUnit i s)
      ∨ (u.discard = false ∧ ∃ b, findBasket u.basket s = some b ∧
        ((evaluationCompletion i s).state = unitTakes (mapBasket u.basket (installed (planOf u.snapshot)) (freeUnit i s))
        ∨ (evaluationCompletion i s).state = unitTakes ((freeUnit i s).withEvaluator
            { (freeUnit i s).evaluator with queue := (freeUnit i s).evaluator.queue ++ [u.basket] })))) := by
  unfold evaluationCompletion
  split
  · rename_i u hu
    refine .inr ⟨u, hu, ?_⟩
    simp only [completionOutcome]
    split
    · exact .inl rfl
    · rename_i hdiscard
      have hfind : findBasket u.basket (freeUnit i s) = findBasket u.basket s := rfl
      rw [hfind]
      split
      · exact .inl rfl
      · rename_i b hb
        refine .inr ⟨by simpa using hdiscard, b, hb, ?_⟩
        split
        · exact .inl rfl
        · exact .inr rfl
  · exact .inl rfl
  · exact .inl rfl

/-- What every change keeps, and the completion of an evaluation, every event keeps. -/
theorem runOf_keeps {P : State → Prop} (hchange : ∀ s t, P s → Change s t → P t)
    (hdone : ∀ i s, P s → P (evaluationCompletion i s).state) (c : Instr) (s : State) (hs : P s) : P (runOf c s).state := by
  by_cases hc : ∀ u, c ≠ .evaluationCompletion u
  · exact (runOf_changes hc s).keep hchange hs
  · obtain ⟨u, hu⟩ := not_forall.1 hc
    rw [not_not.1 hu]
    exact hdone u s hs

end Sys2Proof.Machine
end

section
/-! What every event keeps, every step keeps; and the relations of the tables and the calendar (O57). -/

namespace Sys2Proof.Machine

/-! ### The link's own work changes the link alone -/

theorem refuseFrame_eq (code : Byte) (h : Header) (st : Status) (s : State) :
    ∃ x, refuseFrame code h st s = s.withLink x := by
  unfold refuseFrame
  split <;> exact ⟨_, rfl⟩

theorem judgeFrame_eq (body : List Byte) (s : State) : ∃ x, judgeFrame body s = s.withLink x := by
  unfold judgeFrame
  simp only
  split
  · exact refuseFrame_eq ..
  · split
    · exact refuseFrame_eq ..
    · split
      · exact refuseFrame_eq ..
      · exact ⟨_, rfl⟩

theorem receive_eq (skip : Nat) (bs : List Byte) (s : State) : ∃ x, receive skip bs s = s.withLink x := by
  induction bs generalizing skip s with
  | nil => cases skip <;> exact ⟨_, rfl⟩
  | cons b rest ih =>
    cases skip with
    | succ k => exact ih k s
    | zero =>
      unfold receive
      split
      · exact ih 0 s
      · split
        · exact ⟨_, rfl⟩
        · split
          · exact ih 0 s
          · split
            · exact ⟨_, rfl⟩
            · split
              · obtain ⟨x, hx⟩ := judgeFrame_eq ((rest.drop 2).take (field rest 0 2)) s
                obtain ⟨y, hy⟩ := ih (field rest 0 2 + 4) (judgeFrame ((rest.drop 2).take (field rest 0 2)) s)
                exact ⟨y, by rw [hy, hx]; rfl⟩
              · obtain ⟨y, hy⟩ := ih 0 (countFrameError s)
                exact ⟨y, by rw [hy]; rfl⟩

theorem messageSent_eq (s : State) : ∃ x, messageSent s = s.withLink x := by
  unfold messageSent
  split <;> exact ⟨_, rfl⟩

theorem heldMessageJoin_eq (s : State) : ∃ x, heldMessageJoin s = s.withLink x := by
  unfold heldMessageJoin
  split
  · exact ⟨_, rfl⟩
  · split <;> exact ⟨_, rfl⟩

theorem waitOnQueue_eq (c : Instr) (s : State) : ∃ x, waitOnQueue c s = s.withLink x := by
  rcases waitOnQueue_cases c s with h | ⟨-, -, h⟩ | ⟨-, -, _, _, h⟩ <;> rw [h]
  · exact ⟨s.link, rfl⟩
  · exact ⟨_, rfl⟩
  · exact refuseFrame_eq ..

/-! ### What holds after a step -/

section yields

variable {P Q : State → Prop} (hPQ : ∀ s, P s → Q s) (hlinkP : ∀ s x, P s → P (s.withLink x))
  (hlinkQ : ∀ s x, Q s → Q (s.withLink x)) (hrun : ∀ c s, P s → Q (runOf c s).state)
  (hrunOut : ∀ c s, P s → Q (runOut c s)) (hreset : ∀ cause straps s, P s → Q (resetState cause straps s))
include hPQ hlinkP hlinkQ hrun hrunOut hreset

/-- What holds after every effect, with timers run out and after a reset, and does not read the link, holds after every
command. -/
theorem exec_yields {c : Instr} {s t : State} (hs : P s) (h : exec c s = .next t) : Q t := by
  have hlinked {u : State} (hu : ∃ x, u = s.withLink x) : Q u := by
    obtain ⟨x, rfl⟩ := hu
    exact hlinkQ s x (hPQ s hs)
  cases ho : ownerOf c with
  | some b =>
    rw [exec_eq_takeEvent s ho] at h
    cases h
    refine takeEvent_preserves Q (hPQ s hs) (hlinked (waitOnQueue_eq c s)) ?_ ?_
    · rcases stayDue_cases c s with ⟨-, h⟩ | ⟨-, -, h⟩ | ⟨-, -, h⟩ <;> rw [h]
      · exact hlinkQ _ _ (hrunOut c s hs)
      · exact hlinkQ _ _ (hlinked (waitOnQueue_eq c s))
      · exact hlinked (waitOnQueue_eq c s)
    · exact hlinkQ _ _ (hrun c _ (hlinkP _ _ hs))
  | none =>
    cases c with
    | powerOn straps => cases h; exact hreset _ _ _ hs
    | pinReset straps => cases h; exact hreset _ _ _ hs
    | frameReceived bytes => cases h; exact hlinked (receive_eq ..)
    | messageSent => cases h; exact hlinked (messageSent_eq s)
    | heldMessageJoin => cases h; exact hlinked (heldMessageJoin_eq s)
    | _ => cases ho

variable (hpending : ∀ (s : State) cs, P s → P { s with pending := cs }) (htick : ∀ s, P s → Q (tick s))
include hpending htick

/-- What holds after every command and after a millisecond holds after every step. -/
theorem step_yields {s t : State} (hs : P s) (h : step s = .next t) : Q t := by
  have hexec {c : Instr} {s t : State} (hs : P s) (h : exec c s = .next t) : Q t :=
    exec_yields hPQ hlinkP hlinkQ hrun hrunOut hreset hs h
  unfold step at h
  split at h
  · cases h
    rcases idle_cases s with ⟨before, c, after, u, -, hu, hi⟩ | ⟨c, -, hx⟩ | hi
    · rw [hi]
      exact hlinkQ _ _ (hlinkQ _ _ (hexec (hlinkP _ _ hs) hu))
    · exact hexec hs hx
    · rw [hi]
      exact htick s hs
  · exact hexec (hpending _ _ hs) h

end yields

/-- What every change, the completion of an evaluation, a reset and the timers keep, and what does not read the link, every
step keeps. -/
theorem step_keeps {P : State → Prop} (hlink : ∀ s x, P s → P (s.withLink x)) (hchange : ∀ s t, P s → Change s t → P t)
    (hdone : ∀ i s, P s → P (evaluationCompletion i s).state) (hrunOut : ∀ c s, P s → P (runOut c s))
    (hreset : ∀ cause straps s, P s → P (resetState cause straps s))
    (hpending : ∀ (s : State) cs, P s → P { s with pending := cs }) (htick : ∀ s, P s → P (tick s))
    {s t : State} (hs : P s) (h : step s = .next t) : P t :=
  step_yields (fun _ => id) hlink hlink (fun c s => runOf_keeps hchange hdone c s) hrunOut hreset hpending htick hs h

/-! ### The completion of an evaluation, field by field -/

/-- The completion of an evaluation changes the evaluator and the baskets alone. -/
theorem evaluationCompletion_frame (i : Nat) (s : State) :
    (evaluationCompletion i s).state.link = s.link ∧ (evaluationCompletion i s).state.store = s.store
    ∧ (evaluationCompletion i s).state.calendar = s.calendar ∧ (evaluationCompletion i s).state.tables = s.tables
    ∧ (evaluationCompletion i s).state.overrides = s.overrides ∧ (evaluationCompletion i s).state.router = s.router
    ∧ (evaluationCompletion i s).state.accounts = s.accounts
    ∧ (evaluationCompletion i s).state.settlement = s.settlement
    ∧ (evaluationCompletion i s).state.pending = s.pending := by
  rcases evaluationCompletion_cases i s with h | ⟨u, -, h | ⟨-, b, -, h | h⟩⟩ <;> rw [h] <;> simp

end Sys2Proof.Machine
end

section
/-! The relations of the tables, the store, the calendar and the capacities, which every step keeps (O57). -/

namespace Sys2Proof.Machine

/-! ### What a change keeps -/

/-- A change keeps the store, the range table and the calendar in form. -/
theorem Change.forms {s t : State} (h : Change s t) :
    (s.store.InForm → t.store.InForm) ∧ (rangesInForm s.tables.ranges → rangesInForm t.tables.ranges)
    ∧ (s.calendar.now.Real → t.calendar.now.Real) := by
  cases h with
  | stored st hst => exact ⟨hst, id, id⟩
  | tabled x hx => exact ⟨id, hx, id⟩
  | timed x hx => exact ⟨id, id, hx⟩
  | _ => simp [withNewBasket, withParked, withRecalled, withTotalling, withExpired, withTakenBack, withSettled,
      Machine.refreshed, keyRecord, restartedState, clearCounts, State.withBaskets]

/-- A change leaves the link's queues and raises none of its counts. -/
theorem Change.link_kept {s t : State} (h : Change s t) :
    t.link.requests = s.link.requests ∧ t.link.transmit = s.link.transmit ∧ t.link.held = s.link.held
    ∧ t.link.due = s.link.due ∧ t.link.frameErrors ≤ s.link.frameErrors ∧ t.link.refusalsLost ≤ s.link.refusalsLost := by
  cases h <;> simp [withNewBasket, withParked, withRecalled, withTotalling, withExpired, withTakenBack, withSettled,
      Machine.refreshed, keyRecord, restartedState, clearCounts, State.withBaskets, freeBasket_link, cancelBasket_link]

/-- The baskets, the park list, the override table and the journal within their capacities. -/
def SizesKept (s : State) : Prop :=
  s.basketTable.baskets.length ≤ 20 ∧ s.basketTable.parkList.length ≤ 8 ∧ s.overrides.length ≤ 96
  ∧ s.settlement.journal.length ≤ 128

theorem length_filter_lt_of_record {n line : Nat} {s : State}
    (h : hasRecord n line s = true ∨ s.overrides.length < 96) (ho : s.overrides.length ≤ 96) :
    (s.overrides.filter fun o => decide (¬ (o.basket = n ∧ o.line = line))).length < 96 := by
  rcases h with h | h
  · rw [hasRecord_eq_any, List.any_eq_true] at h
    obtain ⟨r, hr, hkey⟩ := h
    have : (s.overrides.filter fun o => decide (¬ (o.basket = n ∧ o.line = line))).length < s.overrides.length :=
      List.length_filter_lt_length_iff_exists.2 ⟨r, hr, by simpa using hkey⟩
    omega
  · exact (List.length_filter_le ..).trans_lt h

theorem Change.sizes_kept {s t : State} (h : Change s t) (hs : SizesKept s) : SizesKept t := by
  obtain ⟨hb, hp, ho, hj⟩ := hs
  have hbaskets (p : Basket → Bool) := (List.length_filter_le p s.basketTable.baskets).trans hb
  have hparks (p : Nat → Bool) := (List.length_filter_le p s.basketTable.parkList).trans hp
  have hrecords (p : OverrideRecord → Bool) := (List.length_filter_le p s.overrides).trans ho
  unfold SizesKept
  cases h with
  | opened l _ _ hroom => exact ⟨by simp [withNewBasket, mapLane]; omega, hp, ho, hj⟩
  | parked n l timer b _ _ _ _ _ hroom =>
    exact ⟨by simp [withParked, mapBasket, State.withBaskets, hb], by simp [withParked]; omega, ho, hj⟩
  | recalled n l b =>
    refine ⟨by simp [withRecalled, mapBasket, State.withBaskets, hb], by simp [withRecalled, hparks], ho, ?_⟩
    cases he : b.expired <;> simpa [withRecalled] using hj
  | keyed b x r _ _ _ _ _ _ _ _ htable =>
    refine ⟨by simp [keyRecord, State.withBaskets, hb], hp, ?_, hj⟩
    have hlt := length_filter_lt_of_record htable ho
    simp only [keyRecord, State.overrides_withOverrides, List.length_append, List.length_singleton]
    omega
  | cancelled b _ hjournal | expired b _ _ hjournal | settled l earned b r _ _ _ _ hjournal =>
    simp [withSettled, freeBasket_basketTable, cancelBasket_basketTable, cancelBasket_overrides,
      cancelBasket_settlement, removeRecords, hbaskets, hparks, hrecords]
    omega
  | collected r rest hjournal =>
    rw [hjournal] at hj
    exact ⟨hb, hp, ho, (Nat.le_succ _).trans hj⟩
  | admitted r rest b hjournal =>
    rw [hjournal] at hj
    simp only [List.length_cons] at hj
    simp [cancelBasket_basketTable, cancelBasket_overrides, cancelBasket_settlement, hbaskets, hparks, hrecords]
    omega
  | _ => simp [hb, hp, ho, hj, hrecords, withTotalling, withExpired, withTakenBack, Machine.refreshed, restartedState,
      clearCounts, State.withBaskets, mapBasket, mapLane, staleClaim, removeRecord, mapRecord, presentOn_overrides,
      BasketTable.restarted]

theorem evaluationCompletion_sizes_kept (i : Nat) {s : State} (hs : SizesKept s) :
    SizesKept (evaluationCompletion i s).state := by
  rcases evaluationCompletion_cases i s with h | ⟨u, -, h | ⟨-, b, -, h | h⟩⟩ <;> rw [h] <;>
    simpa [SizesKept, mapBasket, State.withBaskets] using hs

/-! ### The link's queues and counts (R175, R176, R179) -/

/-- The request queue, the transmit queue and the link's counts within their capacities. -/
def LinkWithin (s : State) : Prop :=
  s.link.requests.length ≤ 32 ∧ s.link.transmit.length ≤ 64 ∧ s.link.frameErrors ≤ 65535 ∧ s.link.refusalsLost ≤ 65535

theorem countUp_le (n : Nat) : countUp n ≤ 65535 := Nat.min_le_right ..

theorem refuseFrame_linkWithin {code : Byte} {h : Header} {st : Status} {s : State} (hs : LinkWithin s) :
    LinkWithin (refuseFrame code h st s) := by
  obtain ⟨hr, ht, he, hl⟩ := hs
  unfold refuseFrame
  split
  · rename_i hroom
    refine ⟨hr, ?_, he, hl⟩
    simp only [State.link_withLink, List.length_append, List.length_singleton]
    exact hroom
  · exact ⟨hr, ht, he, countUp_le _⟩

theorem judgeFrame_linkWithin {body : List Byte} {s : State} (hs : LinkWithin s) : LinkWithin (judgeFrame body s) := by
  unfold judgeFrame
  simp only
  split
  · exact refuseFrame_linkWithin hs
  · split
    · exact refuseFrame_linkWithin hs
    · split
      · exact refuseFrame_linkWithin hs
      · rename_i hroom
        obtain ⟨hr, ht, he, hl⟩ := hs
        refine ⟨?_, ht, he, hl⟩
        simp only [State.link_withLink, List.length_append, List.length_singleton]
        exact Nat.lt_of_not_le hroom

theorem receive_linkWithin (skip : Nat) (bs : List Byte) {s : State} (hs : LinkWithin s) : LinkWithin (receive skip bs s) := by
  induction bs generalizing skip s with
  | nil => cases skip <;> exact hs
  | cons b rest ih =>
    cases skip with
    | succ k => exact ih k hs
    | zero =>
      unfold receive
      split
      · exact ih 0 hs
      · split
        · exact hs
        · split
          · exact ih 0 hs
          · split
            · exact hs
            · split
              · exact ih _ (judgeFrame_linkWithin hs)
              · refine ih 0 ?_
                obtain ⟨hr, ht, -, hl⟩ := hs
                exact ⟨hr, ht, countUp_le _, hl⟩

theorem waitOnQueue_linkWithin (c : Instr) {s : State} (hs : LinkWithin s) : LinkWithin (waitOnQueue c s) := by
  rcases waitOnQueue_cases c s with h | ⟨-, hroom, h⟩ | ⟨-, -, _, _, h⟩ <;> rw [h]
  · exact hs
  · obtain ⟨hr, ht, he, hl⟩ := hs
    exact ⟨by simpa using hroom, ht, he, hl⟩
  · exact refuseFrame_linkWithin hs

theorem runOf_linkWithin (c : Instr) {s : State} (hs : LinkWithin s) : LinkWithin (runOf c s).state := by
  refine runOf_keeps (fun s t hs hc => ?_) (fun i s hs => ?_) c s hs
  · obtain ⟨hr, ht, he, hl⟩ := hs
    obtain ⟨hr', ht', -, -, he', hl'⟩ := hc.link_kept
    exact ⟨hr' ▸ hr, ht' ▸ ht, he'.trans he, hl'.trans hl⟩
  · obtain ⟨hlink, -⟩ := evaluationCompletion_frame i s
    rw [LinkWithin, hlink]
    exact hs

theorem takeEvent_linkWithin (c : Instr) {s : State} (hs : LinkWithin s) : LinkWithin (takeEvent c s) := by
  refine takeEvent_preserves LinkWithin hs (waitOnQueue_linkWithin c hs) ?_ ?_
  · rcases stayDue_cases c s with ⟨-, h⟩ | ⟨-, -, h⟩ | ⟨-, -, h⟩ <;> rw [h]
    · simpa [LinkWithin] using hs
    · exact waitOnQueue_linkWithin c hs
    · exact waitOnQueue_linkWithin c hs
  · have hleft : LinkWithin (leaveQueue c s) := by
      obtain ⟨hr, hrest⟩ := hs
      exact ⟨(List.length_erase_le ..).trans hr, hrest⟩
    obtain ⟨hr, ht, he, hl⟩ := runOf_linkWithin c hleft
    exact ⟨hr, place_transmit_le _ _ _ ht, he, hl⟩

theorem exec_linkWithin {c : Instr} {s t : State} (hs : LinkWithin s) (h : exec c s = .next t) : LinkWithin t := by
  cases ho : ownerOf c with
  | some b =>
    rw [exec_eq_takeEvent s ho] at h
    cases h
    exact takeEvent_linkWithin c hs
  | none =>
    cases c with
    | powerOn straps => cases h; exact ⟨Nat.zero_le _, Nat.succ_le_succ (Nat.zero_le _), Nat.zero_le _, Nat.zero_le _⟩
    | pinReset straps => cases h; exact ⟨Nat.zero_le _, Nat.succ_le_succ (Nat.zero_le _), Nat.zero_le _, Nat.zero_le _⟩
    | frameReceived bytes => cases h; exact receive_linkWithin _ _ hs
    | messageSent =>
      cases h
      obtain ⟨hr, ht, he, hl⟩ := hs
      unfold messageSent
      split
      · exact ⟨hr, ht, he, hl⟩
      · rename_i m rest hm
        rw [hm] at ht
        exact ⟨hr, (Nat.le_succ _).trans ht, he, hl⟩
    | heldMessageJoin =>
      cases h
      obtain ⟨hr, ht, he, hl⟩ := hs
      unfold heldMessageJoin
      split
      · exact ⟨hr, ht, he, hl⟩
      · split
        · rename_i hroom
          refine ⟨hr, ?_, he, hl⟩
          simp only [State.link_withLink, List.length_append, List.length_singleton]
          exact hroom
        · exact ⟨hr, ht, he, hl⟩
    | _ => cases ho

theorem step_linkWithin {s t : State} (hs : LinkWithin s) (h : step s = .next t) : LinkWithin t :=
  step_preserves LinkWithin (fun _ _ _ => exec_linkWithin) (fun _ => id) (fun _ _ => id) (fun _ _ => id) hs h

/-! ### Timers and resets -/

/-- A timer that runs out and a millisecond change no number of baskets, parked baskets, records or journal records. -/
theorem runOut_sizes_kept (c : Instr) {s : State} (hs : SizesKept s) : SizesKept (runOut c s) := by
  unfold runOut
  split <;> (try split) <;> simpa [SizesKept, mapBasket, State.withBaskets] using hs

theorem step_sizes_kept {s t : State} (hs : SizesKept s) (h : step s = .next t) : SizesKept t := by
  refine step_keeps (fun _ _ => id) (fun _ _ hs hc => hc.sizes_kept hs) (fun i _ => evaluationCompletion_sizes_kept i)
    (fun c _ => runOut_sizes_kept c) (fun _ _ _ _ => ?_) (fun _ _ => id) (fun s hs => ?_) hs h
  · exact ⟨by simp [resetState, BasketTable.powerOn], by simp [resetState, BasketTable.powerOn],
      Nat.zero_le _, Nat.zero_le _⟩
  · simpa [SizesKept, tick] using hs

/-- The array as read at reset is in order (R22, R23). -/
theorem classify_wf {st : OfferStore} (hst : st.InForm) : OfferArray.wf (classify st) = true := by
  obtain ⟨hwf, hprogram, hprogress⟩ := hst
  refine OfferArray.wf_mapSlots _ _ ?_
  have hput : OfferArray.wf (match st.program with
      | some p => OfferArray.put p.slot .damaged st.slots
      | none => st.slots) = true := by
    split
    · exact OfferArray.wf_put _ _ _ hwf (hprogram _ (by assumption))
    · exact hwf
  split
  · exact OfferArray.wf_damageSector _ _ hput (hprogress _ (by assumption))
  · exact hput

/-- A step keeps the form of the store, of the range table and of the calendar, each on its own. -/
theorem step_forms {P : State → Prop} (hP : P = (·.store.InForm) ∨ P = (rangesInForm ·.tables.ranges)
    ∨ P = (·.calendar.now.Real)) {s t : State} (hs : P s) (h : step s = .next t) : P t := by
  have hlink : ∀ s x, P s → P (s.withLink x) := by rcases hP with rfl | rfl | rfl <;> exact fun _ _ => id
  have hchange : ∀ s t, P s → Change s t → P t := by
    rcases hP with rfl | rfl | rfl
    · exact fun s t hs hc => hc.forms.1 hs
    · exact fun s t hs hc => hc.forms.2.1 hs
    · exact fun s t hs hc => hc.forms.2.2 hs
  have hdone : ∀ i s, P s → P (evaluationCompletion i s).state := by
    intro i s hs
    obtain ⟨-, hstore, hcal, htab, -⟩ := evaluationCompletion_frame i s
    rcases hP with rfl | rfl | rfl
    · exact hstore.symm ▸ hs
    · exact htab.symm ▸ hs
    · exact hcal.symm ▸ hs
  have hrunOut : ∀ c s, P s → P (runOut c s) := by
    intro c s hs
    rcases hP with rfl | rfl | rfl
    · unfold runOut
      split <;> (try split) <;> exact hs
    · simpa using hs
    · simpa using hs
  have hreset : ∀ cause straps s, P s → P (resetState cause straps s) := by
    intro cause straps s hs
    rcases hP with rfl | rfl | rfl
    · exact ⟨classify_wf hs, fun p hp => (by cases hp), fun k hk => (by cases hk)⟩
    · exact ⟨Nat.zero_le _, .nil, fun r hr => (by cases hr)⟩
    · have hreal : Calendar.powerOn.now.Real := ⟨by decide, by decide, by decide, by decide, by decide⟩
      exact hreal
  have hpending : ∀ (s : State) cs, P s → P { s with pending := cs } := by
    rcases hP with rfl | rfl | rfl <;> exact fun _ _ => id
  have htick : ∀ s, P s → P (tick s) := by
    intro s hs
    rcases hP with rfl | rfl | rfl
    · exact hs
    · exact hs
    · simp only [tick, tickPhase]
      split <;> exact hs
  exact step_keeps hlink hchange hdone hrunOut hreset hpending htick hs h

/-- Settles O57: the capacities, the forms of the store and the range table and a real day are kept by each change, and
with it by every step. -/
theorem stepsKeepTablesInForm : Obligations.StepsKeepTablesInForm := by
  intro s t h
  refine ⟨fun hs => ?_, fun hs => step_forms (P := (·.store.InForm)) (.inl rfl) hs h,
    fun hs => step_forms (P := (rangesInForm ·.tables.ranges)) (.inr (.inl rfl)) hs h,
    fun hs => step_forms (P := (·.calendar.now.Real)) (.inr (.inr rfl)) hs h⟩
  obtain ⟨hr, ht, he, hl, hb, hp, ho, hj⟩ := hs
  obtain ⟨hr', ht', he', hl'⟩ := step_linkWithin ⟨hr, ht, he, hl⟩ h
  exact ⟨hr', ht', he', hl', step_sizes_kept ⟨hb, hp, ho, hj⟩ h⟩

end Sys2Proof.Machine
end

section
/-! Lanes, baskets and the park list in agreement (R6): each change keeps them so. -/

namespace Sys2Proof.Machine

/-! ### Lists with a key -/

section keyed

variable {α : Type} {key : α → Nat} {xs : List α}

theorem eq_of_key_eq (hd : (xs.map key).Nodup) {a b : α} (ha : a ∈ xs) (hb : b ∈ xs) (h : key a = key b) : a = b :=
  List.inj_on_of_nodup_map hd ha hb h

theorem map_key_map_if {f : α → α} {n : Nat} (hf : ∀ x, key x = n → key (f x) = key x) :
    (xs.map fun x => if key x = n then f x else x).map key = xs.map key := by
  rw [List.map_map]
  refine List.map_congr_left fun x _ => ?_
  by_cases hx : key x = n
  · simp [hx, hf x hx]
  · simp [hx]

theorem map_key_filter_nodup (hd : (xs.map key).Nodup) (p : α → Bool) : ((xs.filter p).map key).Nodup :=
  hd.sublist (List.filter_sublist.map key)

/-- One element changed: how many hold of `p` changes with it. -/
theorem length_filter_map_if (hd : (xs.map key).Nodup) {b : α} (hb : b ∈ xs) (f : α → α) (p : α → Bool) :
    ((xs.map fun x => if key x = key b then f x else x).filter p).length + (if p b then 1 else 0)
      = (xs.filter p).length + (if p (f b) then 1 else 0) := by
  induction xs with
  | nil => cases hb
  | cons a rest ih =>
    obtain ⟨hnot, hrest⟩ := List.nodup_cons.1 hd
    by_cases hab : a = b
    · subst hab
      have hsame : (rest.map fun x => if key x = key a then f x else x) = rest := by
        refine (List.map_congr_left fun x hx => ?_).trans (List.map_id _)
        exact if_neg fun (hk : key x = key a) => hnot (hk ▸ List.mem_map_of_mem hx)
      simp only [List.map_cons, hsame, if_true, List.filter_cons]
      split <;> split <;> simp
    · have hbr : b ∈ rest := (List.mem_cons.1 hb).resolve_left (Ne.symm hab)
      have hk : ¬ key a = key b := fun hk => hnot (hk ▸ List.mem_map_of_mem hbr)
      have := ih hrest hbr
      simp only [List.map_cons, if_neg hk, List.filter_cons]
      cases p a <;> simp <;> omega

/-- One element gone: how many hold of `p` goes down by what it counted. -/
theorem length_filter_ne (hd : (xs.map key).Nodup) {b : α} (hb : b ∈ xs) (p : α → Bool) :
    ((xs.filter fun x => decide (key x ≠ key b)).filter p).length + (if p b then 1 else 0) = (xs.filter p).length := by
  induction xs with
  | nil => cases hb
  | cons a rest ih =>
    obtain ⟨hnot, hrest⟩ := List.nodup_cons.1 hd
    by_cases hab : a = b
    · subst hab
      have hsame : (rest.filter fun x => decide (key x ≠ key a)) = rest :=
        List.filter_eq_self.2 fun x hx => decide_eq_true fun (hk : key x = key a) => hnot (hk ▸ List.mem_map_of_mem hx)
      rw [List.filter_cons_of_neg (by simp), hsame, List.filter_cons]
      split <;> simp
    · have hbr : b ∈ rest := (List.mem_cons.1 hb).resolve_left (Ne.symm hab)
      have hk : key a ≠ key b := fun hk => hnot (hk ▸ List.mem_map_of_mem hbr)
      have hlen := ih hrest hbr
      rw [List.filter_cons_of_pos (by simpa using hk), List.filter_cons, List.filter_cons]
      cases p a
      · exact hlen
      · simp only [if_true, List.length_cons]
        omega

end keyed

/-! ### The relation, clause by clause -/

/-- The clauses of `BasketsAgree`, of a basket table. -/
structure BasketTable.Agrees (t : BasketTable) : Prop where
  nodup : (t.baskets.map Basket.number).Nodup
  room : t.baskets.length ≤ 20
  parkNodup : t.parkList.Nodup
  parkRoom : t.parkList.length ≤ 8
  next : 1 ≤ t.nextNumber ∧ t.nextNumber ≤ 65535
  numbers : ∀ b ∈ t.baskets, 1 ≤ b.number ∧ b.number ≤ 65535
  parked_iff : ∀ b ∈ t.baskets, b.state = .parked ↔ b.number ∈ t.parkList
  parkHas : ∀ n ∈ t.parkList, ∃ b ∈ t.baskets, b.number = n
  parkedLane : ∀ b ∈ t.baskets, b.state = .parked → b.lane = none
  onLane : ∀ b ∈ t.baskets, b.state ≠ .parked →
    ∃ l r, b.lane = some l ∧ t.lanes[l]? = some r ∧ r.active = some b.number
  laneHas : ∀ l r n, t.lanes[l]? = some r → r.active = some n → ∃ b ∈ t.baskets, b.number = n ∧ b.lane = some l

theorem basketsAgree_iff {s : State} : BasketsAgree s ↔ s.basketTable.Agrees :=
  ⟨fun ⟨h1, h2, h3, h4, h5, h6, h7, h8, h9, h10, h11⟩ => ⟨h1, h2, h3, h4, h5, h6, h7, h8, h9, h10, h11⟩,
    fun h => ⟨h.nodup, h.room, h.parkNodup, h.parkRoom, h.next, h.numbers, h.parked_iff, h.parkHas, h.parkedLane,
      h.onLane, h.laneHas⟩⟩

/-- With no number twice, a basket is what a look-up of its number finds. -/
theorem findBasket_of_mem {s : State} (hd : (s.basketTable.baskets.map Basket.number).Nodup) {b : Basket}
    (hb : b ∈ s.basketTable.baskets) : findBasket b.number s = some b := by
  cases hf : findBasket b.number s with
  | none =>
    have hne := List.find?_eq_none.1 hf b hb
    simp at hne
  | some c => rw [eq_of_key_eq hd (findBasket_mem hf) hb (findBasket_number hf)]

/-! ### Lanes -/

theorem lanes_mapLane (l : Nat) (f : Lane → Lane) (s : State) (k : Nat) :
    (mapLane l f s).basketTable.lanes[k]? = if k = l then (s.basketTable.lanes[l]?).map f else s.basketTable.lanes[k]? := by
  simp only [mapLane, State.basketTable_withBasketTable]
  cases hr : s.basketTable.lanes[l]? with
  | none =>
    simp only [Option.map_none]
    split
    · rename_i hk; rw [hk, hr]
    · rfl
  | some r =>
    have hlt : l < 16 := (Vector.getElem?_eq_some_iff.1 hr).1
    simp only [Vector.getElem?_setIfInBounds, hlt, Option.map_some, if_true, eq_comm]

namespace BasketTable.Agrees

variable {t : BasketTable}

/-- Baskets changed but for their numbers, lanes and whether they are parked. -/
theorem map (h : t.Agrees) {f : Basket → Basket}
    (hf : ∀ b ∈ t.baskets, (f b).number = b.number ∧ ((f b).state = .parked ↔ b.state = .parked) ∧ (f b).lane = b.lane) :
    ({ t with baskets := t.baskets.map f } : BasketTable).Agrees := by
  have hnum : (t.baskets.map f).map Basket.number = t.baskets.map Basket.number := by
    rw [List.map_map]
    exact List.map_congr_left fun b hb => (hf b hb).1
  refine ⟨hnum ▸ h.nodup, by simpa using h.room, h.parkNodup, h.parkRoom, h.next, ?_, ?_, ?_, ?_, ?_, ?_⟩
  · intro b hb
    obtain ⟨c, hc, rfl⟩ := List.mem_map.1 hb
    rw [(hf c hc).1]
    exact h.numbers c hc
  · intro b hb
    obtain ⟨c, hc, rfl⟩ := List.mem_map.1 hb
    rw [(hf c hc).1, (hf c hc).2.1]
    exact h.parked_iff c hc
  · intro n hn
    obtain ⟨c, hc, rfl⟩ := h.parkHas n hn
    exact ⟨f c, List.mem_map_of_mem hc, (hf c hc).1⟩
  · intro b hb hp
    obtain ⟨c, hc, rfl⟩ := List.mem_map.1 hb
    rw [(hf c hc).2.2]
    exact h.parkedLane c hc ((hf c hc).2.1.1 hp)
  · intro b hb hp
    obtain ⟨c, hc, rfl⟩ := List.mem_map.1 hb
    rw [(hf c hc).2.2, (hf c hc).1]
    exact h.onLane c hc fun hp' => hp ((hf c hc).2.1.2 hp')
  · intro l r n hl hr
    obtain ⟨c, hc, rfl, hcl⟩ := h.laneHas l r n hl hr
    exact ⟨f c, List.mem_map_of_mem hc, (hf c hc).1, (hf c hc).2.2.trans hcl⟩

/-- Lanes changed but for their active baskets. -/
theorem lanesMap (h : t.Agrees) {lanes : Vector Lane 16}
    (hl : ∀ l : Nat, (lanes[l]?).map Lane.active = (t.lanes[l]?).map Lane.active) :
    ({ t with lanes := lanes } : BasketTable).Agrees := by
  refine ⟨h.nodup, h.room, h.parkNodup, h.parkRoom, h.next, h.numbers, h.parked_iff, h.parkHas, h.parkedLane, ?_, ?_⟩
  · intro b hb hp
    obtain ⟨l, r, hbl, hr, ha⟩ := h.onLane b hb hp
    have hmap := hl l
    rw [hr] at hmap
    obtain ⟨q, hq, hqa⟩ := Option.map_eq_some_iff.1 hmap
    exact ⟨l, q, hbl, hq, hqa.trans ha⟩
  · intro l r n hr ha
    have hmap := hl l
    simp only at hr
    rw [hr] at hmap
    obtain ⟨q, hq, hqa⟩ := Option.map_eq_some_iff.1 hmap.symm
    exact h.laneHas l q n hq (hqa.trans ha)

/-- A context becomes FREE. -/
theorem free (h : t.Agrees) (n : Nat) :
    ({ t with
      baskets := t.baskets.filter fun b => decide (b.number ≠ n)
      lanes := t.lanes.map fun r => if r.active = some n then { r with active := none } else r
      parkList := t.parkList.filter fun m => decide (m ≠ n) } : BasketTable).Agrees := by
  refine ⟨map_key_filter_nodup h.nodup _, (List.length_filter_le ..).trans h.room, h.parkNodup.filter _,
    (List.length_filter_le ..).trans h.parkRoom, h.next, fun b hb => h.numbers b (List.mem_of_mem_filter hb), ?_, ?_,
    fun b hb => h.parkedLane b (List.mem_of_mem_filter hb), ?_, ?_⟩
  · intro b hb
    obtain ⟨hb, hn⟩ := List.mem_filter.1 hb
    rw [h.parked_iff b hb]
    simp only [List.mem_filter, hn, and_true]
  · intro m hm
    obtain ⟨hm, hn⟩ := List.mem_filter.1 hm
    obtain ⟨b, hb, rfl⟩ := h.parkHas m hm
    exact ⟨b, List.mem_filter.2 ⟨hb, hn⟩, rfl⟩
  · intro b hb hp
    obtain ⟨hb, hn⟩ := List.mem_filter.1 hb
    obtain ⟨l, r, hbl, hr, ha⟩ := h.onLane b hb hp
    refine ⟨l, r, hbl, ?_, ha⟩
    have hne : ¬ r.active = some n := by
      rw [ha]
      exact fun he => of_decide_eq_true hn (Option.some.inj he)
    simp [Vector.getElem?_map, hr, hne]
  · intro l r m hr ha
    rw [Vector.getElem?_map] at hr
    obtain ⟨q, hq, rfl⟩ := Option.map_eq_some_iff.1 hr
    split at ha
    · cases ha
    · rename_i hne
      obtain ⟨b, hb, rfl, hbl⟩ := h.laneHas l q m hq ha
      exact ⟨b, List.mem_filter.2 ⟨hb, decide_eq_true fun he => hne (he ▸ ha)⟩, rfl, hbl⟩

/-- No basket and no lane with one. -/
theorem empty (hb : t.baskets = []) (hp : t.parkList = []) (hn : 1 ≤ t.nextNumber ∧ t.nextNumber ≤ 65535)
    (hl : ∀ (l : Nat) r, t.lanes[l]? = some r → r.active = none) : t.Agrees := by
  refine ⟨by simp [hb], by simp [hb], by simp [hp], by simp [hp], hn, by simp [hb], by simp [hb], by simp [hp],
    by simp [hb], by simp [hb], ?_⟩
  intro l r n hr ha
  rw [hl l r hr] at ha
  cases ha

end BasketTable.Agrees

/-! ### Opening, parking and recall -/

theorem followingNumber_range (n : Nat) : 1 ≤ followingNumber n ∧ followingNumber n ≤ 65535 := by
  unfold followingNumber
  split <;> omega

theorem numberAfter_range (k : Nat) {n : Nat} (hn : 1 ≤ n ∧ n ≤ 65535) :
    1 ≤ numberAfter k n ∧ numberAfter k n ≤ 65535 := by
  induction k generalizing n with
  | zero => exact hn
  | succ k ih => exact ih (followingNumber_range n)

/-- A lane with no active basket that has a record. -/
theorem record_of_laneActive {l : Nat} {s : State} (hl : laneActive l s = none) (hlane : s.basketTable.lanes[l]? ≠ none) :
    ∃ r, s.basketTable.lanes[l]? = some r ∧ r.active = none := by
  obtain ⟨r, hr⟩ := Option.ne_none_iff_exists'.1 hlane
  exact ⟨r, hr, by simpa [laneActive, hr] using hl⟩

theorem withNewBasket_agrees {n l : Nat} {s : State} (h : s.basketTable.Agrees) (hl : laneActive l s = none)
    (hlane : s.basketTable.lanes[l]? ≠ none) (hroom : s.basketTable.baskets.length < 20)
    (hn : findBasket n s = none) (hrange : 1 ≤ n ∧ n ≤ 65535) : (withNewBasket n l s).basketTable.Agrees := by
  obtain ⟨r, hr, hra⟩ := record_of_laneActive hl hlane
  have hfresh : ∀ b ∈ s.basketTable.baskets, b.number ≠ n := fun b hb => by simpa using List.find?_eq_none.1 hn b hb
  have hbaskets : (withNewBasket n l s).basketTable.baskets = s.basketTable.baskets ++ [newBasket n l] := rfl
  have hpark : (withNewBasket n l s).basketTable.parkList = s.basketTable.parkList := rfl
  have hlanes (k : Nat) : (withNewBasket n l s).basketTable.lanes[k]?
      = if k = l then some { r with active := some n } else s.basketTable.lanes[k]? := by
    rw [withNewBasket, lanes_mapLane, State.basketTable_withBasketTable]
    simp only [hr, Option.map_some]
  have hnotpark : n ∉ s.basketTable.parkList := fun hm => by
    obtain ⟨b, hb, hbn⟩ := h.parkHas n hm
    exact hfresh b hb hbn
  refine ⟨?_, ?_, h.parkNodup, h.parkRoom, followingNumber_range n, ?_, ?_, ?_, ?_, ?_, ?_⟩
  · rw [hbaskets, List.map_append, List.nodup_append]
    refine ⟨h.nodup, by simp, fun m hm k hk he => ?_⟩
    obtain ⟨b, hb, rfl⟩ := List.mem_map.1 hm
    obtain rfl : k = n := by simpa [newBasket] using hk
    exact hfresh b hb he
  · rw [hbaskets, List.length_append]
    simpa using hroom
  · intro b hb
    rcases List.mem_append.1 (hbaskets ▸ hb) with hb | hb
    · exact h.numbers b hb
    · obtain rfl := List.mem_singleton.1 hb
      exact hrange
  · intro b hb
    rw [hpark]
    rcases List.mem_append.1 (hbaskets ▸ hb) with hb | hb
    · exact h.parked_iff b hb
    · obtain rfl := List.mem_singleton.1 hb
      exact ⟨fun hp => (by cases hp), fun hm => absurd hm hnotpark⟩
  · intro m hm
    obtain ⟨b, hb, hbm⟩ := h.parkHas m hm
    exact ⟨b, hbaskets ▸ List.mem_append_left _ hb, hbm⟩
  · intro b hb hp
    rcases List.mem_append.1 (hbaskets ▸ hb) with hb | hb
    · exact h.parkedLane b hb hp
    · obtain rfl := List.mem_singleton.1 hb
      cases hp
  · intro b hb hp
    rcases List.mem_append.1 (hbaskets ▸ hb) with hb | hb
    · obtain ⟨k, q, hbk, hq, ha⟩ := h.onLane b hb hp
      refine ⟨k, q, hbk, ?_, ha⟩
      rw [hlanes, if_neg, hq]
      rintro rfl
      cases hr.symm.trans hq
      cases hra.symm.trans ha
    · obtain rfl := List.mem_singleton.1 hb
      exact ⟨l, _, rfl, by rw [hlanes, if_pos rfl], rfl⟩
  · intro k q m hq ha
    rw [hlanes] at hq
    split at hq
    · rename_i hk
      cases hq
      cases ha
      exact ⟨newBasket n l, by simp [hbaskets], rfl, congrArg some hk.symm⟩
    · obtain ⟨b, hb, hbm⟩ := h.laneHas k q m hq ha
      exact ⟨b, hbaskets ▸ List.mem_append_left _ hb, hbm⟩

theorem withParked_agrees {n l timer : Nat} {b : Basket} {s : State} (h : s.basketTable.Agrees)
    (hb : findBasket n s = some b) (hl : b.lane = some l) (hstate : b.state ≠ .parked)
    (hroom : s.basketTable.parkList.length < 8) : (withParked n l timer s).basketTable.Agrees := by
  have hbn := findBasket_number hb
  have hbm := findBasket_mem hb
  have hone : ∀ c ∈ s.basketTable.baskets, c.number = n → c = b := fun c hc hcn =>
    eq_of_key_eq h.nodup hc hbm (hcn.trans hbn.symm)
  have hnot : n ∉ s.basketTable.parkList := fun hm => hstate ((h.parked_iff b hbm).2 (hbn ▸ hm))
  have hbaskets : (withParked n l timer s).basketTable.baskets
      = s.basketTable.baskets.map fun c => if c.number = n then parkBasket s.calendar.now timer c else c := rfl
  have hpark : (withParked n l timer s).basketTable.parkList = s.basketTable.parkList ++ [n] := rfl
  have hlanes (k : Nat) : (withParked n l timer s).basketTable.lanes[k]?
      = if k = l then (s.basketTable.lanes[l]?).map (fun r => { r with active := none }) else s.basketTable.lanes[k]? :=
    lanes_mapLane ..
  have hcase {P : Basket → Prop} (hnew : P (parkBasket s.calendar.now timer b))
      (hold : ∀ c ∈ s.basketTable.baskets, c.number ≠ n → P c) :
      ∀ c ∈ (withParked n l timer s).basketTable.baskets, P c := by
    intro c hc
    rw [hbaskets] at hc
    obtain ⟨d, hd, rfl⟩ := List.mem_map.1 hc
    by_cases hdn : d.number = n
    · rw [if_pos hdn, hone d hd hdn]
      exact hnew
    · rw [if_neg hdn]
      exact hold d hd hdn
  have hmem : ∀ c ∈ s.basketTable.baskets, c.number ≠ n → c ∈ (withParked n l timer s).basketTable.baskets := by
    intro c hc hcn
    rw [hbaskets]
    exact List.mem_map.2 ⟨c, hc, if_neg hcn⟩
  have hmemb : parkBasket s.calendar.now timer b ∈ (withParked n l timer s).basketTable.baskets := by
    rw [hbaskets]
    exact List.mem_map.2 ⟨b, hbm, if_pos hbn⟩
  refine ⟨?_, by rw [hbaskets, List.length_map]; exact h.room, ?_, ?_, h.next, ?_, ?_, ?_, ?_, ?_, ?_⟩
  · rw [hbaskets]
    exact (map_key_map_if (key := Basket.number) (f := parkBasket s.calendar.now timer) fun _ _ => rfl).symm ▸ h.nodup
  · rw [hpark]
    exact List.nodup_append.2 ⟨h.parkNodup, by simp, fun m hm k hk he => hnot (by
      rw [List.mem_singleton.1 hk] at he; exact he ▸ hm)⟩
  · rw [hpark, List.length_append]
    simpa using hroom
  · exact hcase (h.numbers b hbm) fun c hc _ => h.numbers c hc
  · refine hcase ⟨fun _ => ?_, fun _ => rfl⟩ fun c hc hcn => ?_
    · rw [hpark]
      exact List.mem_append_right _ (List.mem_singleton.2 hbn)
    · rw [hpark, h.parked_iff c hc]
      simp [hcn]
  · intro m hm
    rcases List.mem_append.1 (hpark ▸ hm) with hm | hm
    · obtain ⟨c, hc, rfl⟩ := h.parkHas m hm
      exact ⟨c, hmem c hc fun he => hnot (he ▸ hm), rfl⟩
    · exact ⟨_, hmemb, hbn.trans (List.mem_singleton.1 hm).symm⟩
  · exact hcase (fun _ => rfl) fun c hc _ => h.parkedLane c hc
  · refine hcase (fun hp => absurd rfl hp) fun c hc hcn hp => ?_
    obtain ⟨k, r, hck, hr, ha⟩ := h.onLane c hc hp
    refine ⟨k, r, hck, ?_, ha⟩
    rw [hlanes, if_neg, hr]
    rintro rfl
    obtain ⟨k', r', hbk, hr', ha'⟩ := h.onLane b hbm hstate
    cases hl.symm.trans hbk
    cases hr.symm.trans hr'
    exact hcn ((Option.some.inj (ha.symm.trans ha')).trans hbn)
  · intro k r m hr ha
    rw [hlanes] at hr
    split at hr
    · obtain ⟨q, -, rfl⟩ := Option.map_eq_some_iff.1 hr
      cases ha
    · rename_i hk
      obtain ⟨c, hc, rfl, hck⟩ := h.laneHas k r m hr ha
      refine ⟨c, hmem c hc fun he => hk ?_, rfl, hck⟩
      rw [hone c hc he, hl] at hck
      exact (Option.some.inj hck).symm

theorem withRecalled_agrees {n l : Nat} {b : Basket} {s : State} (h : s.basketTable.Agrees)
    (hb : findBasket n s = some b) (hn : n ∈ s.basketTable.parkList) (hl : laneActive l s = none)
    (hlane : s.basketTable.lanes[l]? ≠ none) : (withRecalled n l b.expired s).basketTable.Agrees := by
  obtain ⟨r, hr, hra⟩ := record_of_laneActive hl hlane
  have hbn := findBasket_number hb
  have hbm := findBasket_mem hb
  have hone : ∀ c ∈ s.basketTable.baskets, c.number = n → c = b := fun c hc hcn =>
    eq_of_key_eq h.nodup hc hbm (hcn.trans hbn.symm)
  have hbaskets : (withRecalled n l b.expired s).basketTable.baskets
      = s.basketTable.baskets.map fun c => if c.number = n then recallBasket l c else c := rfl
  have hpark : (withRecalled n l b.expired s).basketTable.parkList
      = s.basketTable.parkList.filter fun m => decide (m ≠ n) := rfl
  have hlanes (k : Nat) : (withRecalled n l b.expired s).basketTable.lanes[k]?
      = if k = l then some { r with active := some n } else s.basketTable.lanes[k]? := by
    refine (lanes_mapLane ..).trans ?_
    rw [hr, Option.map_some]
  have hcase {P : Basket → Prop} (hnew : P (recallBasket l b))
      (hold : ∀ c ∈ s.basketTable.baskets, c.number ≠ n → P c) :
      ∀ c ∈ (withRecalled n l b.expired s).basketTable.baskets, P c := by
    intro c hc
    rw [hbaskets] at hc
    obtain ⟨d, hd, rfl⟩ := List.mem_map.1 hc
    by_cases hdn : d.number = n
    · rw [if_pos hdn, hone d hd hdn]
      exact hnew
    · rw [if_neg hdn]
      exact hold d hd hdn
  have hmem : ∀ c ∈ s.basketTable.baskets, c.number ≠ n → c ∈ (withRecalled n l b.expired s).basketTable.baskets := by
    intro c hc hcn
    rw [hbaskets]
    exact List.mem_map.2 ⟨c, hc, if_neg hcn⟩
  have hmemb : recallBasket l b ∈ (withRecalled n l b.expired s).basketTable.baskets := by
    rw [hbaskets]
    exact List.mem_map.2 ⟨b, hbm, if_pos hbn⟩
  refine ⟨?_, by rw [hbaskets, List.length_map]; exact h.room, h.parkNodup.filter _,
    (List.length_filter_le ..).trans h.parkRoom, h.next, ?_, ?_, ?_, ?_, ?_, ?_⟩
  · rw [hbaskets]
    exact (map_key_map_if (key := Basket.number) (f := recallBasket l) fun _ _ => rfl).symm ▸ h.nodup
  · exact hcase (h.numbers b hbm) fun c hc _ => h.numbers c hc
  · refine hcase (P := fun c => c.state = .parked ↔ c.number ∈ (withRecalled n l b.expired s).basketTable.parkList)
      ⟨fun hp => (by cases hp), fun hm => ?_⟩ fun c hc hcn => ?_
    · obtain ⟨-, hne⟩ := List.mem_filter.1 (hpark ▸ hm)
      exact absurd hbn (of_decide_eq_true hne)
    · rw [hpark, h.parked_iff c hc]
      simp [hcn]
  · intro m hm
    obtain ⟨hm, hne⟩ := List.mem_filter.1 (hpark ▸ hm)
    obtain ⟨c, hc, rfl⟩ := h.parkHas m hm
    exact ⟨c, hmem c hc (of_decide_eq_true hne), rfl⟩
  · exact hcase (fun hp => by cases hp) fun c hc _ => h.parkedLane c hc
  · refine hcase (fun _ => ⟨l, _, rfl, by rw [hlanes, if_pos rfl], congrArg some hbn.symm⟩) fun c hc hcn hp => ?_
    obtain ⟨k, q, hck, hq, ha⟩ := h.onLane c hc hp
    refine ⟨k, q, hck, ?_, ha⟩
    rw [hlanes, if_neg, hq]
    rintro rfl
    cases hr.symm.trans hq
    cases hra.symm.trans ha
  · intro k q m hq ha
    rw [hlanes] at hq
    split at hq
    · rename_i hk
      cases hq
      cases ha
      exact ⟨_, hmemb, hbn, congrArg some hk.symm⟩
    · rename_i hk
      obtain ⟨c, hc, rfl, hck⟩ := h.laneHas k q m hq ha
      refine ⟨c, hmem c hc fun he => ?_, rfl, hck⟩
      have hparked := (h.parked_iff b hbm).2 (hbn ▸ hn)
      rw [hone c hc he, h.parkedLane b hbm hparked] at hck
      cases hck

/-! ### Each change keeps them so -/

/-- A change counted by R14 keeps a basket's number, its lane, whether it is parked and whether it totals. -/
theorem raised_keeps (b : Basket) :
    b.raised.number = b.number ∧ (b.raised.state = .parked ↔ b.state = .parked) ∧ b.raised.lane = b.lane
    ∧ (b.raised.state = .totalling ↔ b.state = .totalling) := by
  unfold Basket.raised
  split
  · rename_i hb
    simp [hb]
  · exact ⟨rfl, .rfl, rfl, .rfl⟩

/-- Baskets changed at one number but for their numbers, lanes and whether they are parked. -/
theorem mapBasket_agrees {n : Nat} {f : Basket → Basket} {s : State} (h : s.basketTable.Agrees)
    (hf : ∀ b, findBasket n s = some b →
      (f b).number = b.number ∧ ((f b).state = .parked ↔ b.state = .parked) ∧ (f b).lane = b.lane) :
    (mapBasket n f s).basketTable.Agrees := by
  refine h.map (f := fun b => if b.number = n then f b else b) fun b hb => ?_
  split
  · rename_i hn
    exact hf b (hn ▸ findBasket_of_mem h.nodup hb)
  · exact ⟨rfl, .rfl, rfl⟩

theorem mapLane_agrees {l : Nat} {f : Lane → Lane} {s : State} (h : s.basketTable.Agrees)
    (hf : ∀ r, (f r).active = r.active) : (mapLane l f s).basketTable.Agrees := by
  have hlanes := lanes_mapLane l f s
  refine h.lanesMap (lanes := (mapLane l f s).basketTable.lanes) fun k => ?_
  rw [hlanes]
  split
  · rename_i hk
    subst hk
    cases s.basketTable.lanes[k]? <;> simp [hf]
  · rfl

theorem restarted_agrees {t : BasketTable} (hn : 1 ≤ t.nextNumber ∧ t.nextNumber ≤ 65535) : t.restarted.Agrees := by
  refine .empty rfl rfl hn fun l r hr => ?_
  simp only [BasketTable.restarted, Vector.getElem?_map] at hr
  obtain ⟨q, -, rfl⟩ := Option.map_eq_some_iff.1 hr
  rfl

theorem powerOn_agrees : BasketTable.powerOn.Agrees := by
  refine .empty rfl rfl ⟨Nat.le_refl _, by decide⟩ fun l r hr => ?_
  obtain ⟨hl, rfl⟩ := Vector.getElem?_eq_some_iff.1 hr
  simp [BasketTable.powerOn, Lane.powerOn]

theorem Change.agrees {s t : State} (h : Change s t) (hs : s.basketTable.Agrees) : t.basketTable.Agrees := by
  cases h with
  | lane l f hf => exact mapLane_agrees hs hf
  | opened l hl hlane hroom =>
    obtain ⟨k, -, hnum, hfree, -⟩ := freeNumber_of_room s.basketTable.nextNumber hroom
    exact withNewBasket_agrees hs hl hlane hroom (hnum ▸ hfree) (hnum ▸ numberAfter_range k hs.next)
  | tended n f hf =>
    refine mapBasket_agrees hs fun b _ => ?_
    obtain ⟨coupons, count, hb⟩ := hf b
    rw [hb]
    exact ⟨rfl, .rfl, rfl⟩
  | raised ns =>
    refine hs.map fun b _ => ?_
    split
    · obtain ⟨hn, hp, hl, -⟩ := raised_keeps b
      exact ⟨hn, hp, hl⟩
    · exact ⟨rfl, .rfl, rfl⟩
  | totalling n h b hb hopen =>
    refine mapBasket_agrees hs fun c hc => ?_
    cases hb.symm.trans hc
    exact ⟨rfl, by simp [hopen], rfl⟩
  | parked n l timer b hb hl hstate _ _ hroom =>
    exact withParked_agrees hs hb hl (fun hp => by rcases hstate with h | h <;> cases h.symm.trans hp) hroom
  | recalled n l b hb hn hl hlane =>
    have hagrees := withRecalled_agrees hs hb hn hl hlane
    exact hagrees
  | cancelled b hb _ _ | expired b hb _ _ | admitted r rest b _ hb =>
    rw [cancelBasket_basketTable]
    exact hs.free b.number
  | settled l earned b r hb =>
    have hfree : (withSettled b earned r s).basketTable = _ := freeBasket_basketTable ..
    rw [hfree]
    simpa using hs.free b.number
  | restarted => exact restarted_agrees hs.next
  | keyed b x r =>
    refine hs.map fun b _ => ?_
    split
    · obtain ⟨hn, hp, hl, -⟩ := raised_keeps { b with keyingCount := b.keyingCount + 1 }
      exact ⟨hn, hp, hl⟩
    · exact ⟨rfl, .rfl, rfl⟩
  | attached n a => exact mapBasket_agrees (s := addReference a s) (by simpa using hs) fun _ _ => ⟨rfl, .rfl, rfl⟩
  | detached n a => exact mapBasket_agrees (s := dropReference a s) (by simpa using hs) fun _ _ => ⟨rfl, .rfl, rfl⟩
  | lineAdded n | requantified n | lineVoided n | markedExpired n =>
    exact mapBasket_agrees hs fun _ _ => ⟨rfl, .rfl, rfl⟩
  | _ => simpa [withTakenBack, Machine.refreshed, clearCounts, removeRecord, mapRecord] using hs

end Sys2Proof.Machine
end

section
/-! The baskets that are being evaluated, and the waiting count of expired baskets: each change keeps both in agreement
with the basket table (O59). -/

namespace Sys2Proof.Machine

/-! ### The baskets that are being evaluated -/

/-- The basket a unit works on for a result that it will not drop. -/
def workOf : Option RunningUnit → Option Nat
  | some r => if r.discard then none else some r.basket
  | none => none

theorem evaluating_eq (s : State) :
    evaluating s = s.evaluator.queue ++ s.evaluator.units.toList.filterMap workOf := rfl

/-- One place of a list changed: what a partial map collects changes by what that place gives. -/
theorem filterMap_set_perm {α β : Type} (g : α → Option β) (b : α) {l : List α} {i : Nat} {a : α} (h : l[i]? = some a) :
    ((g a).toList ++ (l.set i b).filterMap g).Perm ((g b).toList ++ l.filterMap g) := by
  induction l generalizing i with
  | nil => cases h
  | cons x xs ih =>
    have hcons (y : α) (ys : List α) : (y :: ys).filterMap g = (g y).toList ++ ys.filterMap g := by
      cases hy : g y <;> simp [hy]
    cases i with
    | zero =>
      obtain rfl : x = a := Option.some.inj h
      rw [List.set_cons_zero, hcons, hcons]
      exact List.perm_append_comm_assoc ..
    | succ i =>
      rw [List.set_cons_succ, hcons, hcons]
      exact (List.perm_append_comm_assoc ..).trans (((ih h).append_left _).trans (List.perm_append_comm_assoc ..))

/-- A unit set to another state: what is being evaluated changes by what that unit works on. -/
theorem filterMap_setIfInBounds_perm {units : Vector (Option RunningUnit) 4} {i : Nat} {u : Option RunningUnit}
    (hu : units[i]? = some u) (v : Option RunningUnit) :
    ((workOf u).toList ++ (units.setIfInBounds i v).toList.filterMap workOf).Perm
      ((workOf v).toList ++ units.toList.filterMap workOf) := by
  have hset : (units.setIfInBounds i v).toList = units.toList.set i v := by simp
  rw [hset]
  exact filterMap_set_perm workOf v (by simpa using hu)

/-- The idle unit takes the head of the queue: what is being evaluated stays but for its order. -/
theorem unitTakes_cases (s : State) :
    unitTakes s = s ∨ ∃ n rest i b, s.evaluator.queue = n :: rest ∧ s.evaluator.units[i]? = some none
      ∧ findBasket n s = some b ∧ unitTakes s = s.withEvaluator
        { queue := rest
          units := s.evaluator.units.setIfInBounds i (some { basket := n, snapshot := snapshotOf b s, discard := false }) } := by
  unfold unitTakes
  split
  · rename_i n rest i hq hi
    split
    · rename_i b hb
      have hidle := List.find?_some hi
      exact .inr ⟨n, rest, i, b, hq, of_decide_eq_true hidle, hb, rfl⟩
    · exact .inl rfl
  · exact .inl rfl

theorem evaluating_unitTakes (s : State) : (evaluating (unitTakes s)).Perm (evaluating s) := by
  rcases unitTakes_cases s with h | ⟨n, rest, i, b, hq, hi, -, h⟩
  · rw [h]
  · rw [h, evaluating_eq, evaluating_eq, hq]
    have hperm := filterMap_setIfInBounds_perm hi (some { basket := n, snapshot := snapshotOf b s, discard := false })
    exact (hperm.append_left rest).trans (List.perm_append_comm_assoc rest [n] _)

/-- A freed unit's basket is no longer being evaluated by it. -/
theorem evaluating_freeUnit {s : State} {i : Nat} {u : RunningUnit} (hu : s.evaluator.units[i]? = some (some u)) :
    ((workOf (some u)).toList ++ evaluating (freeUnit i s)).Perm (evaluating s) := by
  rw [evaluating_eq, evaluating_eq]
  have hperm := filterMap_setIfInBounds_perm hu none
  exact (List.perm_append_comm_assoc ..).trans (hperm.append_left _)

/-- The end of a basket's evaluation takes its number out. -/
theorem evaluating_cancelEvaluation (n : Nat) (s : State) :
    evaluating (cancelEvaluation n s) = (evaluating s).filter fun m => decide (m ≠ n) := by
  rw [evaluating_eq, evaluating_eq, List.filter_append]
  congr 1
  have hunits : (cancelEvaluation n s).evaluator.units.toList = s.evaluator.units.toList.map
      fun u => u.map fun r => if r.basket = n then { r with discard := true } else r := by
    simp only [cancelEvaluation, State.evaluator_withEvaluator, Vector.toList_map]
  rw [hunits, List.filterMap_map, List.filter_filterMap]
  refine List.filterMap_congr fun u _ => ?_
  cases u with
  | none => rfl
  | some r =>
    by_cases hr : r.basket = n
    · cases hd : r.discard <;> simp [workOf, hr, hd, Option.filter]
    · cases hd : r.discard <;> simp [workOf, hr, hd, Option.filter]

theorem evaluating_restarted (s : State) : evaluating (restartedState s) = [] := by
  rw [evaluating_eq]
  simp only [restartedState, Evaluator.restarted, List.nil_append, Vector.toList_map, List.filterMap_map]
  refine List.filterMap_eq_nil_iff.2 fun u _ => ?_
  cases u <;> rfl

/-! ### What keeps the agreement -/

/-- A basket that totals keeps its number and its state in `t`. -/
def KeepsTotalling (s t : State) : Prop :=
  ∀ b ∈ s.basketTable.baskets, b.state = .totalling → b.number ∈ evaluating t →
    ∃ c ∈ t.basketTable.baskets, c.number = b.number ∧ c.state = .totalling

theorem EvaluationsAgree.of_subset {s t : State} (hs : EvaluationsAgree s) (hnodup : (evaluating t).Nodup)
    (hmem : ∀ n ∈ evaluating t, n ∈ evaluating s) (hkeep : KeepsTotalling s t) : EvaluationsAgree t := by
  refine ⟨hnodup, fun n hn => ?_⟩
  obtain ⟨b, hb, rfl, htot⟩ := hs.2 n (hmem n hn)
  exact hkeep b hb htot hn

theorem EvaluationsAgree.of_perm {s t : State} (hs : EvaluationsAgree s) (hperm : (evaluating t).Perm (evaluating s))
    (hkeep : KeepsTotalling s t) : EvaluationsAgree t :=
  hs.of_subset (hperm.nodup_iff.2 hs.1) (fun _ => hperm.mem_iff.1) hkeep

theorem EvaluationsAgree.of_evaluator {s t : State} (hs : EvaluationsAgree s) (heq : t.evaluator = s.evaluator)
    (hkeep : KeepsTotalling s t) : EvaluationsAgree t :=
  hs.of_perm (by rw [evaluating_eq, evaluating_eq, heq]) hkeep

theorem KeepsTotalling.map {s t : State} {f : Basket → Basket}
    (ht : t.basketTable.baskets = s.basketTable.baskets.map f)
    (hf : ∀ b ∈ s.basketTable.baskets, b.state = .totalling → (f b).number = b.number ∧ (f b).state = .totalling) :
    KeepsTotalling s t := by
  intro b hb htot _
  rw [ht]
  exact ⟨f b, List.mem_map_of_mem hb, hf b hb htot⟩

theorem KeepsTotalling.of_eq {s t : State} (ht : t.basketTable.baskets = s.basketTable.baskets) : KeepsTotalling s t :=
  fun b hb htot _ => ⟨b, ht ▸ hb, rfl, htot⟩

theorem mapBasket_baskets (n : Nat) (f : Basket → Basket) (s : State) :
    (mapBasket n f s).basketTable.baskets = s.basketTable.baskets.map fun b => if b.number = n then f b else b := rfl

/-- One basket changed, of which it is known how it was found. -/
theorem KeepsTotalling.mapBasket {s t : State} (hs : s.basketTable.Agrees) {n : Nat} {f : Basket → Basket}
    (ht : t.basketTable.baskets = s.basketTable.baskets.map fun b => if b.number = n then f b else b)
    (hf : ∀ b, findBasket n s = some b → b.state = .totalling → (f b).number = b.number ∧ (f b).state = .totalling) :
    KeepsTotalling s t := by
  refine .map ht fun b hb htot => ?_
  split
  · rename_i hn
    exact hf b (hn ▸ findBasket_of_mem hs.nodup hb) htot
  · exact ⟨rfl, htot⟩

/-- A basket freed that did not total. -/
theorem KeepsTotalling.free {s t : State} (hs : s.basketTable.Agrees) {b : Basket}
    (hb : findBasket b.number s = some b) (hne : b.state ≠ .totalling)
    (ht : t.basketTable.baskets = s.basketTable.baskets.filter fun x => decide (x.number ≠ b.number)) :
    KeepsTotalling s t := by
  intro c hc htot _
  refine ⟨c, ht ▸ List.mem_filter.2 ⟨hc, decide_eq_true fun hn => ?_⟩, rfl, htot⟩
  rw [eq_of_key_eq hs.nodup hc (findBasket_mem hb) hn] at htot
  exact hne htot

/-- The basket that `firstExpired` finds. -/
theorem findBasket_firstExpired {b : Basket} {s : State} (hb : firstExpired s = some b) :
    findBasket b.number s = some b ∧ b.number ∈ s.basketTable.parkList ∧ b.expired = true := by
  have hexp : b.expired = true := by simpa using List.find?_some hb
  obtain ⟨n, hn, hf⟩ := List.mem_filterMap.1 (List.mem_of_find?_eq_some hb)
  have hnum := findBasket_number hf
  exact ⟨hnum ▸ hf, hnum ▸ hn, hexp⟩

/-! ### Each change keeps the evaluations in agreement -/

theorem Change.evaluationsAgree {s t : State} (h : Change s t) (hs : s.basketTable.Agrees) (he : EvaluationsAgree s) :
    EvaluationsAgree t := by
  cases h with
  | opened l =>
    exact he.of_evaluator (by simp [withNewBasket]) fun b hb htot _ => ⟨b, List.mem_append_left _ hb, rfl, htot⟩
  | tended n f hf =>
    refine he.of_evaluator (by simp) (.mapBasket hs rfl fun b _ htot => ?_)
    obtain ⟨coupons, count, hb⟩ := hf b
    rw [hb]
    exact ⟨rfl, htot⟩
  | raised ns =>
    refine he.of_evaluator (by simp) (.map rfl fun b _ htot => ?_)
    split
    · exact ⟨(raised_keeps b).1, (raised_keeps b).2.2.2.2 htot⟩
    · exact ⟨rfl, htot⟩
  | keyed b x r =>
    refine he.of_evaluator (by simp [keyRecord]) (.map rfl fun b _ htot => ?_)
    split
    · obtain ⟨hn, -, -, hiff⟩ := raised_keeps { b with keyingCount := b.keyingCount + 1 }
      exact ⟨hn, hiff.2 htot⟩
    · exact ⟨rfl, htot⟩
  | totalling n h b hb hopen =>
    have hfresh : n ∉ evaluating s := fun hn => by
      obtain ⟨c, hc, rfl, htot⟩ := he.2 n hn
      cases hb.symm.trans (findBasket_of_mem hs.nodup hc)
      cases hopen.symm.trans htot
    have hperm : (evaluating (withTotalling n h s)).Perm (n :: evaluating s) := by
      rw [evaluating_eq, evaluating_eq]
      exact (List.append_assoc .. ▸ List.perm_middle (a := n))
    have hbaskets : (withTotalling n h s).basketTable.baskets = s.basketTable.baskets.map fun b =>
        if b.number = n then { b with state := .totalling, outstanding := some h } else b := rfl
    refine ⟨hperm.nodup_iff.2 (List.nodup_cons.2 ⟨hfresh, he.1⟩), fun m hm => ?_⟩
    rw [hbaskets]
    rcases List.mem_cons.1 (hperm.mem_iff.1 hm) with rfl | hm
    · exact ⟨_, List.mem_map_of_mem (findBasket_mem hb), by simp [findBasket_number hb]⟩
    · obtain ⟨c, hc, rfl, htot⟩ := he.2 m hm
      refine ⟨_, List.mem_map_of_mem hc, ?_⟩
      split
      · exact ⟨rfl, rfl⟩
      · exact ⟨rfl, htot⟩
  | unitTaken => exact he.of_perm (evaluating_unitTakes s) (.of_eq (by simp))
  | parked n l timer b hb _ hstate =>
    refine he.of_evaluator (by simp [withParked]) (.mapBasket hs rfl fun c hc htot => ?_)
    cases hb.symm.trans hc
    rcases hstate with h | h <;> cases h.symm.trans htot
  | recalled n l b hb hn =>
    refine he.of_evaluator (by simp [withRecalled]) (.mapBasket hs rfl fun c hc htot => ?_)
    cases hb.symm.trans hc
    have hparked := (hs.parked_iff b (findBasket_mem hb)).2 (findBasket_number hb ▸ hn)
    cases hparked.symm.trans htot
  | cancelled b hb =>
    have heq : evaluating (cancelBasket b .host (cancelEvaluation b.number s))
        = (evaluating s).filter fun m => decide (m ≠ b.number) := by
      rw [← evaluating_cancelEvaluation, evaluating_eq, evaluating_eq, cancelBasket_evaluator]
    refine he.of_subset (heq ▸ he.1.filter _) (fun n hn => List.mem_of_mem_filter (heq ▸ hn)) fun c hc htot hn => ?_
    refine ⟨c, ?_, rfl, htot⟩
    rw [cancelBasket_basketTable]
    rw [heq] at hn
    exact List.mem_filter.2 ⟨hc, (List.mem_filter.1 hn).2⟩
  | expired b hb hparked =>
    exact he.of_evaluator (by simp) (.free hs hb (by simp [hparked]) (by rw [cancelBasket_basketTable]))
  | admitted r rest b _ hb =>
    obtain ⟨hf, hn, -⟩ := findBasket_firstExpired hb
    have hparked := (hs.parked_iff b (findBasket_mem hf)).2 hn
    exact he.of_evaluator (by simp) (.free hs hf (by simp [hparked]) (by rw [cancelBasket_basketTable]; rfl))
  | settled l earned b r hb _ hstate =>
    exact he.of_evaluator (by simp [withSettled])
      (.free hs hb (by simp [hstate]) (by simp [withSettled, freeBasket_basketTable]))
  | restarted =>
    refine he.of_subset ?_ ?_ ?_
    · rw [evaluating_restarted]
      exact .nil
    · simp [evaluating_restarted]
    · simp [KeepsTotalling, evaluating_restarted]
  | requantified n line q => exact he.of_evaluator (by simp) (.mapBasket hs rfl fun c _ htot => ⟨rfl, htot⟩)
  | attached n a =>
    refine he.of_evaluator (by simp) (.mapBasket (n := n) (f := fun b => { b with account := some a }) hs ?_ fun c _ htot => ⟨rfl, htot⟩)
    rw [mapBasket_baskets, addReference_basketTable]
  | detached n a =>
    refine he.of_evaluator (by simp) (.mapBasket (n := n) (f := fun b => { b with account := none }) hs ?_ fun c _ htot => ⟨rfl, htot⟩)
    rw [mapBasket_baskets, dropReference_basketTable]
  | lineAdded n | lineVoided n | markedExpired n =>
    exact he.of_evaluator (by simp [withExpired]) (.mapBasket hs rfl fun c _ htot => ⟨rfl, htot⟩)
  | _ =>
    refine he.of_evaluator ?_ (.of_eq ?_) <;>
      simp [withTakenBack, Machine.refreshed, clearCounts, removeRecord, mapRecord, mapLane]

/-! ### The waiting count of expired baskets (R19, R169) -/

theorem ExpiredCounted.map {s t : State} (hx : ExpiredCounted s) {f : Basket → Basket}
    (ht : t.basketTable.baskets = s.basketTable.baskets.map f) (hj : t.settlement = s.settlement)
    (hf : ∀ b ∈ s.basketTable.baskets, (f b).expired = b.expired ∧ (b.expired = true → b.state = .parked →
      b.parkTimer = none → (f b).state = .parked ∧ (f b).parkTimer = none)) : ExpiredCounted t := by
  obtain ⟨hexp, hcount, hfull⟩ := hx
  refine ⟨fun b hb he => ?_, ?_, hj ▸ hfull⟩
  · obtain ⟨c, hc, rfl⟩ := List.mem_map.1 (ht ▸ hb)
    obtain ⟨hfe, hkeep⟩ := hf c hc
    have hce := hfe ▸ he
    obtain ⟨hp, htimer⟩ := hexp c hc hce
    exact hkeep hce hp htimer
  · rw [hj, hcount, ht, List.filter_map, List.length_map]
    exact congrArg List.length (List.filter_congr fun b hb => (hf b hb).1.symm)

theorem ExpiredCounted.of_eq {s t : State} (hx : ExpiredCounted s)
    (ht : t.basketTable.baskets = s.basketTable.baskets) (hj : t.settlement = s.settlement) : ExpiredCounted t :=
  hx.map (f := id) (by simpa using ht) hj fun _ _ => ⟨rfl, fun _ => .intro⟩

/-- One basket changed, of which it is known how it was found. -/
theorem ExpiredCounted.mapBasket {s t : State} (hx : ExpiredCounted s) (hs : s.basketTable.Agrees) {n : Nat}
    {f : Basket → Basket} (ht : t.basketTable.baskets = s.basketTable.baskets.map fun b => if b.number = n then f b else b)
    (hj : t.settlement = s.settlement)
    (hf : ∀ b, findBasket n s = some b → (f b).expired = b.expired ∧ (b.expired = true → b.state = .parked →
      b.parkTimer = none → (f b).state = .parked ∧ (f b).parkTimer = none)) : ExpiredCounted t := by
  refine hx.map ht hj fun b hb => ?_
  split
  · rename_i hn
    exact hf b (hn ▸ findBasket_of_mem hs.nodup hb)
  · exact ⟨rfl, fun _ => .intro⟩

/-- While the journal has room, no basket waits. -/
theorem ExpiredCounted.of_room {s : State} (hx : ExpiredCounted s) (hj : s.settlement.journal.length < 128) :
    s.settlement.waiting = 0 ∧ ∀ b ∈ s.basketTable.baskets, b.expired = false := by
  obtain ⟨-, hcount, hfull⟩ := hx
  have hzero : s.settlement.waiting = 0 := Nat.eq_zero_of_not_pos fun hw => absurd (hfull hw) (Nat.not_le.2 hj)
  refine ⟨hzero, fun b hb => Bool.eq_false_of_not_eq_true fun he => ?_⟩
  have hpos := List.length_pos_of_mem (List.mem_filter.2 ⟨hb, he⟩)
  exact absurd (hcount ▸ hzero) (Nat.ne_of_gt hpos)

theorem ExpiredCounted.of_none {s : State} (hw : s.settlement.waiting = 0)
    (hb : ∀ b ∈ s.basketTable.baskets, b.expired = false) : ExpiredCounted s := by
  refine ⟨fun b hbm he => absurd he (by simp [hb b hbm]), ?_, fun hpos => by omega⟩
  rw [hw, List.filter_eq_nil_iff.2 fun b hbm => by simp [hb b hbm]]
  rfl

/-- A basket freed with room in the journal. -/
theorem ExpiredCounted.free {s t : State} (hx : ExpiredCounted s) (hj : s.settlement.journal.length < 128)
    (hw : t.settlement.waiting = s.settlement.waiting)
    (ht : ∀ b ∈ t.basketTable.baskets, b ∈ s.basketTable.baskets) : ExpiredCounted t := by
  obtain ⟨hzero, hnone⟩ := hx.of_room hj
  exact .of_none (hw.trans hzero) fun b hb => hnone b (ht b hb)

/-- With no expired basket on the park list none waits. -/
theorem waiting_of_firstExpired_none {s : State} (hx : ExpiredCounted s) (hs : s.basketTable.Agrees)
    (hnone : firstExpired s = none) : s.settlement.waiting = 0 := by
  obtain ⟨hexp, hcount, -⟩ := hx
  rw [hcount, List.length_eq_zero_iff]
  refine List.filter_eq_nil_iff.2 fun b hb he => ?_
  have hpark := (hs.parked_iff b hb).1 (hexp b hb he).1
  have hne := List.find?_eq_none.1 hnone b (List.mem_filterMap.2 ⟨_, hpark, findBasket_of_mem hs.nodup hb⟩)
  exact hne he

/-- The counts of baskets with the expired mark before and after one of them goes. -/
theorem expired_free_count {s : State} (hs : s.basketTable.Agrees) {b : Basket} (hb : findBasket b.number s = some b)
    (he : b.expired = true) :
    ((s.basketTable.baskets.filter fun x => decide (x.number ≠ b.number)).filter fun x => x.expired).length + 1
      = (s.basketTable.baskets.filter fun x => x.expired).length := by
  simpa [he] using length_filter_ne hs.nodup (findBasket_mem hb) fun x => x.expired

/-- The same with one of them changed. -/
theorem expired_map_count {s : State} (hs : s.basketTable.Agrees) {n : Nat} {b : Basket} (hb : findBasket n s = some b)
    (f : Basket → Basket) :
    ((s.basketTable.baskets.map fun x => if x.number = n then f x else x).filter fun x => x.expired).length
        + (if b.expired then 1 else 0)
      = (s.basketTable.baskets.filter fun x => x.expired).length + (if (f b).expired then 1 else 0) := by
  obtain rfl := findBasket_number hb
  exact length_filter_map_if hs.nodup (findBasket_mem hb) f fun x => x.expired

theorem Change.expiredCounted {s t : State} (h : Change s t) (hs : s.basketTable.Agrees) (hx : ExpiredCounted s) :
    ExpiredCounted t := by
  obtain ⟨hexp, hcount, hfull⟩ := id hx
  /- A basket at a number whose marks and timers are known. -/
  have hcase {n : Nat} {b : Basket} {f : Basket → Basket} (hb : findBasket n s = some b)
      (hnew : (f b).expired = true → (f b).state = .parked ∧ (f b).parkTimer = none) :
      ∀ c ∈ (s.basketTable.baskets.map fun x => if x.number = n then f x else x), c.expired = true →
        c.state = .parked ∧ c.parkTimer = none := by
    intro c hc he
    obtain ⟨d, hd, rfl⟩ := List.mem_map.1 hc
    by_cases hdn : d.number = n
    · rw [if_pos hdn] at he ⊢
      cases hb.symm.trans (hdn ▸ findBasket_of_mem hs.nodup hd)
      exact hnew he
    · rw [if_neg hdn] at he ⊢
      exact hexp d hd he
  cases h with
  | opened l =>
    refine ⟨fun b hb he => ?_, ?_, hfull⟩
    · rcases List.mem_append.1 hb with hb | hb
      · exact hexp b hb he
      · obtain rfl := List.mem_singleton.1 hb
        cases he
    · refine hcount.trans ?_
      show _ = ((s.basketTable.baskets ++ [newBasket _ l]).filter fun b => b.expired).length
      rw [List.filter_append, List.filter_singleton]
      simp [newBasket]
  | tended n f hf =>
    refine hx.mapBasket hs rfl rfl fun b _ => ?_
    obtain ⟨coupons, count, hb⟩ := hf b
    rw [hb]
    exact ⟨rfl, fun _ => .intro⟩
  | raised ns =>
    refine hx.map rfl rfl fun b _ => ?_
    split
    · rcases raised_cases b with ⟨hb, h⟩ | ⟨-, h⟩ <;> rw [h]
      · exact ⟨rfl, fun _ hp => (by cases hb.symm.trans hp)⟩
      · exact ⟨rfl, fun _ => .intro⟩
    · exact ⟨rfl, fun _ => .intro⟩
  | keyed b x r =>
    refine hx.map rfl rfl fun b _ => ?_
    split
    · rcases raised_cases { b with keyingCount := b.keyingCount + 1 } with ⟨hb, h⟩ | ⟨-, h⟩ <;> rw [h]
      · exact ⟨rfl, fun _ hp => (by cases hb.symm.trans hp)⟩
      · exact ⟨rfl, fun _ => .intro⟩
    · exact ⟨rfl, fun _ => .intro⟩
  | totalling n h b hb hopen =>
    refine hx.mapBasket hs rfl rfl fun c hc => ?_
    cases hb.symm.trans hc
    exact ⟨rfl, fun _ hp => (by cases hopen.symm.trans hp)⟩
  | parked n l timer b hb _ hstate =>
    have hnot : b.expired = false := Bool.eq_false_of_not_eq_true fun he => by
      have hparked := (hexp b (findBasket_mem hb) he).1
      rcases hstate with h | h <;> cases h.symm.trans hparked
    refine hx.mapBasket hs rfl rfl fun c hc => ?_
    cases hb.symm.trans hc
    exact ⟨hnot.symm, fun he => absurd he (by simp [hnot])⟩
  | recalled n l b hb hn =>
    have hbaskets : (withRecalled n l b.expired s).basketTable.baskets
        = s.basketTable.baskets.map fun c => if c.number = n then recallBasket l c else c := rfl
    have hlen := expired_map_count hs hb (recallBasket l)
    rw [← hbaskets, ← hcount] at hlen
    refine ⟨hcase (f := recallBasket l) hb fun he => (by cases he), ?_, ?_⟩
    · have hwait : (withRecalled n l b.expired s).settlement.waiting
          = s.settlement.waiting - (if b.expired then 1 else 0) := by cases b.expired <;> rfl
      rw [hwait]
      exact (Nat.eq_sub_of_add_eq hlen).symm
    · cases b.expired
      · exact hfull
      · exact fun hpos => hfull (Nat.lt_of_lt_of_le hpos (Nat.sub_le ..))
  | cancelled b hb hj | expired b hb _ hj =>
    exact hx.free hj (by simp [cancelBasket_settlement]) fun c hc => by
      rw [cancelBasket_basketTable] at hc
      exact List.mem_of_mem_filter hc
  | settled l earned b r hb _ _ _ hj =>
    exact hx.free hj (by simp [withSettled]) fun c hc => by
      simp only [withSettled, freeBasket_basketTable] at hc
      simpa using List.mem_of_mem_filter hc
  | markedExpired n b hb hp htimer hj =>
    have hnot : b.expired = false := Bool.eq_false_of_not_eq_true fun he => htimer (hexp b (findBasket_mem hb) he).2
    have hlen := expired_map_count hs hb fun b => { b with expired := true, parkTimer := none }
    rw [← hcount, hnot] at hlen
    exact ⟨hcase (f := fun b => { b with expired := true, parkTimer := none }) hb fun _ => ⟨hp, rfl⟩, hlen.symm,
      fun _ => hj⟩
  | collected r rest hj hnone =>
    have hzero : s.settlement.waiting = 0 := hnone.elim id (waiting_of_firstExpired_none hx hs)
    exact ⟨hexp, hcount, fun hpos => absurd hzero (Nat.ne_of_gt hpos)⟩
  | admitted r rest b hj hb =>
    obtain ⟨hf, -, he⟩ := findBasket_firstExpired hb
    have hlen := expired_free_count hs hf he
    rw [← hcount] at hlen
    refine ⟨fun c hc => ?_, ?_, fun hpos => ?_⟩
    · rw [cancelBasket_basketTable] at hc
      exact hexp c (List.mem_of_mem_filter hc)
    · rw [cancelBasket_basketTable, cancelBasket_settlement]
      exact (Nat.eq_sub_of_add_eq hlen).symm
    · rw [cancelBasket_settlement] at hpos ⊢
      have hroom := hfull (Nat.lt_of_lt_of_le hpos (Nat.sub_le ..))
      rw [hj] at hroom
      simpa using hroom
  | restarted => exact .of_none rfl fun b hb => by cases hb
  | attached n a =>
    refine hx.mapBasket (n := n) (f := fun b => { b with account := some a }) hs ?_ (by simp) fun c _ => ⟨rfl, fun _ => .intro⟩
    rw [mapBasket_baskets, addReference_basketTable]
  | detached n a =>
    refine hx.mapBasket (n := n) (f := fun b => { b with account := none }) hs ?_ (by simp) fun c _ => ⟨rfl, fun _ => .intro⟩
    rw [mapBasket_baskets, dropReference_basketTable]
  | lineAdded n | lineVoided n | requantified n =>
    exact hx.mapBasket hs rfl rfl fun c _ => ⟨rfl, fun _ => .intro⟩
  | _ =>
    refine hx.of_eq ?_ ?_ <;>
      simp [withTakenBack, Machine.refreshed, clearCounts, removeRecord, mapRecord, mapLane]

/-! ### The completion of an evaluation -/

/-- A running unit without a discard mark works on a basket that totals. -/
theorem totalling_of_unit {s : State} (hs : s.basketTable.Agrees) (he : EvaluationsAgree s) {i : Nat} {u : RunningUnit}
    (hu : s.evaluator.units[i]? = some (some u)) (hd : u.discard = false) {b : Basket}
    (hb : findBasket u.basket s = some b) : b.state = .totalling := by
  have hmem : u.basket ∈ evaluating s := by
    refine (evaluating_freeUnit hu).mem_iff.1 (List.mem_append_left _ ?_)
    simp [workOf, hd]
  obtain ⟨c, hc, hcn, htot⟩ := he.2 _ hmem
  rw [← hcn, findBasket_of_mem hs.nodup hc] at hb
  cases hb
  exact htot

theorem unitTakes_agrees {s : State} (hs : s.basketTable.Agrees) : (unitTakes s).basketTable.Agrees := by
  rwa [unitTakes_basketTable]

theorem evaluationCompletion_agrees (i : Nat) {s : State} (hs : s.basketTable.Agrees) (he : EvaluationsAgree s) :
    (evaluationCompletion i s).state.basketTable.Agrees := by
  rcases evaluationCompletion_cases i s with h | ⟨u, hu, h | ⟨hd, b, hb, h | h⟩⟩ <;> rw [h]
  · exact hs
  · exact unitTakes_agrees hs
  · refine unitTakes_agrees (mapBasket_agrees (s := freeUnit i s) hs fun c hc => ?_)
    cases hb.symm.trans hc
    exact ⟨rfl, by simp [installed, totalling_of_unit hs he hu hd hb], rfl⟩
  · exact unitTakes_agrees hs

theorem EvaluationsAgree.unitTakes {s : State} (he : EvaluationsAgree s) : EvaluationsAgree (unitTakes s) :=
  he.of_perm (evaluating_unitTakes s) (.of_eq (by simp))

theorem evaluationCompletion_evaluationsAgree (i : Nat) {s : State} (he : EvaluationsAgree s) : EvaluationsAgree (evaluationCompletion i s).state := by
  rcases evaluationCompletion_cases i s with h | ⟨u, hu, h | ⟨hd, b, hb, h | h⟩⟩ <;> rw [h]
  · exact he
  · have hperm := evaluating_freeUnit hu
    exact (he.of_subset (List.nodup_append.1 (hperm.nodup_iff.2 he.1)).2.1
      (fun n hn => hperm.mem_iff.1 (List.mem_append_right _ hn)) (.of_eq rfl)).unitTakes
  · /- The installed basket is the unit's own, which is not being evaluated any more. -/
    have hperm : (u.basket :: evaluating (freeUnit i s)).Perm (evaluating s) := by
      simpa [workOf, hd] using evaluating_freeUnit hu
    obtain ⟨hgone, hnodup⟩ := List.nodup_cons.1 (hperm.nodup_iff.2 he.1)
    refine EvaluationsAgree.unitTakes (he.of_subset hnodup (fun n hn => hperm.mem_iff.1 (List.mem_cons_of_mem _ hn)) ?_)
    intro c hc htot hn
    refine ⟨c, ?_, rfl, htot⟩
    rw [mapBasket_baskets]
    exact List.mem_map.2 ⟨c, hc, if_neg fun (hcn : c.number = u.basket) => hgone (hcn ▸ hn)⟩
  · have hperm : (u.basket :: evaluating (freeUnit i s)).Perm (evaluating s) := by
      simpa [workOf, hd] using evaluating_freeUnit hu
    refine EvaluationsAgree.unitTakes (he.of_perm (List.Perm.trans ?_ hperm) (.of_eq rfl))
    rw [evaluating_eq, evaluating_eq]
    exact List.append_assoc .. ▸ List.perm_middle

theorem evaluationCompletion_expiredCounted (i : Nat) {s : State} (hs : s.basketTable.Agrees)
    (he : EvaluationsAgree s) (hx : ExpiredCounted s) : ExpiredCounted (evaluationCompletion i s).state := by
  have htake {t : State} (ht : ExpiredCounted t) : ExpiredCounted (unitTakes t) := ht.of_eq (by simp) (by simp)
  rcases evaluationCompletion_cases i s with h | ⟨u, hu, h | ⟨hd, b, hb, h | h⟩⟩ <;> rw [h]
  · exact hx
  · exact htake hx
  · refine htake (hx.mapBasket (n := u.basket) hs rfl rfl fun c hc => ?_)
    cases hb.symm.trans hc
    exact ⟨rfl, fun _ hp => absurd hp (by simp [totalling_of_unit hs he hu hd hb])⟩
  · exact htake hx

/-! ### Timers and resets -/

/-- What a route has presented, but for its timer. -/
def shown (q : Route) : Option Presentation := q.presented.map fun p => { p with timer := 0 }

/-- Only timers, the calendar and the store differ: a park timer that is stopped stays stopped. -/
structure TimersRun (s t : State) : Prop where
  baskets : ∃ f : Basket → Basket, t.basketTable = { s.basketTable with baskets := s.basketTable.baskets.map f }
    ∧ ∀ b, ∃ k, f b = { b with parkTimer := k } ∧ (b.parkTimer = none → k = none)
  accounts : ∃ g : Hold → Hold, t.accounts = { s.accounts with
      entries := s.accounts.entries.map fun e => { e with holds := e.holds.map g } }
    ∧ ∀ x, ∃ k, g x = { x with timer := k }
  routes : t.router.routes.toList.map shown = s.router.routes.toList.map shown
  desks : t.router.desks = s.router.desks
  evaluator : t.evaluator = s.evaluator
  overrides : t.overrides = s.overrides
  settlement : t.settlement = s.settlement

theorem TimersRun.of_eq {s t : State} (hb : t.basketTable = s.basketTable) (ha : t.accounts = s.accounts)
    (hr : t.router = s.router) (he : t.evaluator = s.evaluator) (ho : t.overrides = s.overrides)
    (hj : t.settlement = s.settlement) : TimersRun s t :=
  ⟨⟨id, by simp [hb], fun b => ⟨b.parkTimer, rfl, id⟩⟩, ⟨id, by simp [ha], fun x => ⟨x.timer, rfl⟩⟩, by rw [hr],
    by rw [hr], he, ho, hj⟩

theorem tick_timersRun (s : State) : TimersRun s (tick s) where
  baskets := ⟨_, rfl, fun b => ⟨_, rfl, fun h => by rw [h]; rfl⟩⟩
  accounts := ⟨_, rfl, fun x => ⟨_, rfl⟩⟩
  routes := by
    simp only [tick, Vector.toList_map, List.map_map]
    refine List.map_congr_left fun q _ => ?_
    cases h : q.presented <;> simp [shown, h]
  desks := rfl
  evaluator := rfl
  overrides := rfl
  settlement := rfl

theorem runOut_timersRun (c : Instr) (s : State) : TimersRun s (runOut c s) := by
  have hsame : TimersRun s s := .of_eq rfl rfl rfl rfl rfl rfl
  have hbaskets (n : Nat) (f : Basket → Basket) (hf : ∀ b, ∃ k, f b = { b with parkTimer := k } ∧ (b.parkTimer = none → k = none)) :
      TimersRun s (mapBasket n f s) :=
    { hsame with
      baskets := ⟨_, rfl, fun b => by
        split
        · exact hf b
        · exact ⟨b.parkTimer, rfl, id⟩⟩ }
  unfold runOut
  split
  · exact hbaskets _ _ fun b => ⟨_, rfl, fun h => by rw [h]; rfl⟩
  · rename_i n
    exact { hsame with
      accounts := ⟨_, rfl, fun x => by
        split
        · exact ⟨0, rfl⟩
        · exact ⟨x.timer, rfl⟩⟩ }
  · rename_i l
    split
    · rename_i q hq
      refine { hsame with routes := ?_ }
      have hset : shown { q with presented := q.presented.map fun p => { p with timer := 0 } } = shown q := by
        cases h : q.presented <;> simp [shown, h]
      simp only [State.router_withRouter, Vector.toList_setIfInBounds, List.map_set, hset]
      obtain ⟨hl, rfl⟩ := Vector.getElem?_eq_some_iff.1 hq
      have hget : shown s.router.routes[l] = (s.router.routes.toList.map shown)[l]'(by simpa using hl) := by simp
      rw [hget, List.set_getElem_self]
    · exact hsame
  · exact { hsame with }
  · exact { hsame with }
  · exact hsame

theorem TimersRun.agrees {s t : State} (h : TimersRun s t) (hs : s.basketTable.Agrees) : t.basketTable.Agrees := by
  obtain ⟨f, heq, hf⟩ := h.baskets
  rw [heq]
  refine hs.map fun b _ => ?_
  obtain ⟨k, hk, -⟩ := hf b
  rw [hk]
  exact ⟨rfl, .rfl, rfl⟩

theorem TimersRun.evaluationsAgree {s t : State} (h : TimersRun s t) (he : EvaluationsAgree s) : EvaluationsAgree t := by
  obtain ⟨f, heq, hf⟩ := h.baskets
  refine he.of_evaluator h.evaluator (.map (by rw [heq]) fun b _ htot => ?_)
  obtain ⟨k, hk, -⟩ := hf b
  rw [hk]
  exact ⟨rfl, htot⟩

theorem TimersRun.expiredCounted {s t : State} (h : TimersRun s t) (hx : ExpiredCounted s) : ExpiredCounted t := by
  obtain ⟨f, heq, hf⟩ := h.baskets
  refine hx.map (by rw [heq]) h.settlement fun b _ => ?_
  obtain ⟨k, hk, hnone⟩ := hf b
  rw [hk]
  exact ⟨rfl, fun _ hp ht => ⟨hp, hnone ht⟩⟩

theorem evaluating_reset (cause : ResetCause) (straps : Straps) (s : State) : evaluating (resetState cause straps s) = [] := rfl

/-! ### Every step -/

/-- Baskets and evaluations in agreement, one relation for the induction over a step. -/
def BasketsInStep (s : State) : Prop := s.basketTable.Agrees ∧ EvaluationsAgree s

theorem step_basketsInStep {s t : State} (hs : BasketsInStep s) (h : step s = .next t) : BasketsInStep t := by
  refine step_keeps (fun _ _ => id) (fun _ _ hs hc => ⟨hc.agrees hs.1, hc.evaluationsAgree hs.1 hs.2⟩)
    (fun i _ hs => ⟨evaluationCompletion_agrees i hs.1 hs.2, evaluationCompletion_evaluationsAgree i hs.2⟩)
    (fun c s hs => ⟨(runOut_timersRun c s).agrees hs.1, (runOut_timersRun c s).evaluationsAgree hs.2⟩)
    (fun _ _ _ _ => ⟨powerOn_agrees, .nil, fun _ hn => (by cases hn)⟩) (fun _ _ => id)
    (fun s hs => ⟨(tick_timersRun s).agrees hs.1, (tick_timersRun s).evaluationsAgree hs.2⟩) hs h

theorem step_expiredCounted {s t : State} (hs : BasketsInStep s) (hx : ExpiredCounted s) (h : step s = .next t) :
    ExpiredCounted t := by
  refine (step_keeps (P := fun s => BasketsInStep s ∧ ExpiredCounted s) (fun _ _ => id) ?_ ?_ ?_ ?_ (fun _ _ => id) ?_
    ⟨hs, hx⟩ h).2
  · exact fun _ _ ⟨⟨ha, he⟩, hx⟩ hc => ⟨⟨hc.agrees ha, hc.evaluationsAgree ha he⟩, hc.expiredCounted ha hx⟩
  · exact fun i _ ⟨⟨ha, he⟩, hx⟩ => ⟨⟨evaluationCompletion_agrees i ha he, evaluationCompletion_evaluationsAgree i he⟩,
      evaluationCompletion_expiredCounted i ha he hx⟩
  · exact fun c s ⟨⟨ha, he⟩, hx⟩ => ⟨⟨(runOut_timersRun c s).agrees ha, (runOut_timersRun c s).evaluationsAgree he⟩,
      (runOut_timersRun c s).expiredCounted hx⟩
  · exact fun _ _ _ _ => ⟨⟨powerOn_agrees, .nil, fun _ hn => (by cases hn)⟩, .of_none rfl fun _ hb => by cases hb⟩
  · exact fun s ⟨⟨ha, he⟩, hx⟩ => ⟨⟨(tick_timersRun s).agrees ha, (tick_timersRun s).evaluationsAgree he⟩,
      (tick_timersRun s).expiredCounted hx⟩

/-- Settles O59: each change, the completion of an evaluation and the timers keep the baskets, the evaluations and the
waiting count in agreement, and with them every step does. -/
theorem stepsKeepBasketsAgreed : Obligations.StepsKeepBasketsAgreed := by
  intro s t hb he h
  obtain ⟨hb', he'⟩ := step_basketsInStep ⟨basketsAgree_iff.1 hb, he⟩ h
  exact ⟨basketsAgree_iff.2 hb', he', fun hx => step_expiredCounted ⟨basketsAgree_iff.1 hb, he⟩ hx h⟩

end Sys2Proof.Machine
end

section
/-! The account table and the idle list (R142 to R144): each change keeps them so (O58). -/

namespace Sys2Proof.Machine

/-! ### The relation, clause by clause -/

/-- One entry's balance and holds within R142 and R143. -/
structure Account.Fits (e : Account) : Prop where
  held : heldTotal e ≤ e.balance
  balance : e.balance ≤ 99999999
  holds : e.holds.length ≤ 4
  nodup : (e.holds.map Hold.basket).Nodup

/-- The clauses of `AccountsCovered`, of an account table. -/
structure AccountTable.Covered (t : AccountTable) : Prop where
  room : t.entries.length ≤ 256
  nodup : (t.entries.map Account.number).Nodup
  idleNodup : t.idle.Nodup
  idle_iff : ∀ a, a ∈ t.idle ↔ ∃ e ∈ t.entries, e.number = a ∧ e.refs = 0
  fits : ∀ e ∈ t.entries, e.Fits

theorem accountsCovered_iff {s : State} : AccountsCovered s ↔ s.accounts.Covered :=
  ⟨fun ⟨hr, hd, hi, hiff, hf⟩ => ⟨hr, hd, hi, hiff, fun e he => ⟨(hf e he).1, (hf e he).2.1, (hf e he).2.2.1, (hf e he).2.2.2⟩⟩,
    fun h => ⟨h.room, h.nodup, h.idleNodup, h.idle_iff, fun e he =>
      ⟨(h.fits e he).held, (h.fits e he).balance, (h.fits e he).holds, (h.fits e he).nodup⟩⟩⟩

theorem findAccount_mem {a : Nat} {s : State} {e : Account} (he : findAccount a s = some e) : e ∈ s.accounts.entries :=
  List.mem_of_find?_eq_some he

theorem findAccount_eq_none {a : Nat} {s : State} : findAccount a s = none ↔ ∀ e ∈ s.accounts.entries, e.number ≠ a := by
  simp [findAccount]

/-- With no number twice, an entry is what a look-up of its number finds. -/
theorem findAccount_of_mem {s : State} (hd : (s.accounts.entries.map Account.number).Nodup) {e : Account}
    (he : e ∈ s.accounts.entries) : findAccount e.number s = some e := by
  cases hf : findAccount e.number s with
  | none => exact absurd rfl (findAccount_eq_none.1 hf e he)
  | some c => rw [eq_of_key_eq hd (findAccount_mem hf) he (findAccount_number hf)]

/-! ### Entries changed, and the idle list with them -/

namespace AccountTable.Covered

variable {t : AccountTable}

/-- An idle entry has no references, and an entry with none is idle. -/
theorem mem_idle_iff (h : t.Covered) {e : Account} (he : e ∈ t.entries) : e.number ∈ t.idle ↔ e.refs = 0 := by
  rw [h.idle_iff]
  refine ⟨fun ⟨c, hc, hn, hr⟩ => ?_, fun hr => ⟨e, he, rfl, hr⟩⟩
  rwa [← eq_of_key_eq h.nodup hc he hn]

/-- The entry at a number changed but for its number, with the idle list following its references. -/
theorem map (h : t.Covered) {a : Nat} {e : Account} (he : e ∈ t.entries) (hn : e.number = a) {f : Account → Account}
    (hf : (f e).number = e.number) (hfits : (f e).Fits) {idle : List Nat} (hnodup : idle.Nodup)
    (hidle : ∀ x, x ∈ idle ↔ if x = a then (f e).refs = 0 else x ∈ t.idle) :
    ({ entries := t.entries.map fun x => if x.number = a then f x else x, idle := idle } : AccountTable).Covered := by
  have hone : ∀ c ∈ t.entries, c.number = a → c = e := fun c hc hcn => eq_of_key_eq h.nodup hc he (hcn.trans hn.symm)
  have hmap : (t.entries.map fun x => if x.number = a then f x else x)
      = t.entries.map fun x => if x.number = a then f e else x := by
    refine List.map_congr_left fun c hc => ?_
    by_cases hcn : c.number = a
    · rw [if_pos hcn, if_pos hcn, hone c hc hcn]
    · rw [if_neg hcn, if_neg hcn]
  rw [hmap]
  refine ⟨by simpa using h.room, ?_, hnodup, fun x => ?_, fun c hc => ?_⟩
  · rw [map_key_map_if (key := Account.number) (f := fun _ => f e) fun c hcn => hf.trans (hn.trans hcn.symm)]
    exact h.nodup
  · rw [hidle]
    split
    · rename_i hx
      refine ⟨fun hr => ⟨f e, List.mem_map.2 ⟨e, he, if_pos hn⟩, (hf.trans hn).trans hx.symm, hr⟩, ?_⟩
      rintro ⟨c, hc, hcn, hr⟩
      obtain ⟨d, -, rfl⟩ := List.mem_map.1 hc
      split at hr
      · exact hr
      · rename_i hd
        rw [if_neg hd] at hcn
        exact absurd (hcn.trans hx) hd
    · rename_i hx
      rw [h.idle_iff]
      refine ⟨fun ⟨c, hc, hcn, hr⟩ => ⟨c, List.mem_map.2 ⟨c, hc, if_neg (hcn ▸ hx)⟩, hcn, hr⟩, ?_⟩
      rintro ⟨c, hc, hcn, hr⟩
      obtain ⟨d, hd, rfl⟩ := List.mem_map.1 hc
      split at hcn
      · exact absurd (hcn.symm.trans (hf.trans hn)) hx
      · rename_i hdn
        rw [if_neg hdn] at hr
        exact ⟨d, hd, hcn, hr⟩
  · obtain ⟨d, hd, rfl⟩ := List.mem_map.1 hc
    split
    · exact hfits
    · exact h.fits d hd

/-- No entry at the number: nothing changes. -/
theorem map_of_not_mem {a : Nat} (ha : ∀ e ∈ t.entries, e.number ≠ a) (f : Account → Account) :
    (t.entries.map fun x => if x.number = a then f x else x) = t.entries :=
  (List.map_congr_left fun e he => if_neg (ha e he)).trans (List.map_id _)

/-- An entry gone that has no references. -/
theorem filter (h : t.Covered) (a : Nat) :
    ({ entries := t.entries.filter fun x => decide (x.number ≠ a)
       idle := t.idle.filter fun x => decide (x ≠ a) } : AccountTable).Covered := by
  refine ⟨(List.length_filter_le ..).trans h.room, map_key_filter_nodup h.nodup _, h.idleNodup.filter _, fun x => ?_,
    fun e he => h.fits e (List.mem_of_mem_filter he)⟩
  simp only [List.mem_filter, h.idle_iff, decide_eq_true_eq]
  constructor
  · rintro ⟨⟨e, he, rfl, hr⟩, hne⟩
    exact ⟨e, ⟨he, hne⟩, rfl, hr⟩
  · rintro ⟨e, ⟨he, hne⟩, rfl, hr⟩
    exact ⟨⟨e, he, rfl, hr⟩, hne⟩

/-- A new entry without references in a table with room. -/
theorem append (h : t.Covered) {e : Account} (hnew : ∀ c ∈ t.entries, c.number ≠ e.number) (hrefs : e.refs = 0)
    (hfits : e.Fits) (hroom : t.entries.length < 256) :
    ({ entries := t.entries ++ [e], idle := t.idle ++ [e.number] } : AccountTable).Covered := by
  have hfresh : e.number ∉ t.idle := fun hm => by
    obtain ⟨c, hc, hcn, -⟩ := (h.idle_iff _).1 hm
    exact hnew c hc hcn
  refine ⟨by simpa using hroom, ?_, ?_, fun x => ?_, fun c hc => ?_⟩
  · rw [List.map_append, List.nodup_append]
    refine ⟨h.nodup, by simp, fun m hm k hk he => ?_⟩
    obtain ⟨c, hc, rfl⟩ := List.mem_map.1 hm
    exact hnew c hc (he.trans (by simpa using hk))
  · exact List.nodup_append.2 ⟨h.idleNodup, by simp, fun m hm k hk he => hfresh (by
      rw [← List.mem_singleton.1 hk, ← he]; exact hm)⟩
  · simp only [List.mem_append, List.mem_singleton, h.idle_iff]
    constructor
    · rintro (⟨c, hc, hcn, hr⟩ | rfl)
      · exact ⟨c, .inl hc, hcn, hr⟩
      · exact ⟨e, .inr rfl, rfl, hrefs⟩
    · rintro ⟨c, hc | rfl, hcn, hr⟩
      · exact .inl ⟨c, hc, hcn, hr⟩
      · exact .inr hcn.symm
  · rcases List.mem_append.1 hc with hc | hc
    · exact h.fits c hc
    · exact List.mem_singleton.1 hc ▸ hfits

theorem powerOn : AccountTable.powerOn.Covered :=
  ⟨Nat.zero_le _, .nil, .nil, fun a => by simp [AccountTable.powerOn], fun e he => by cases he⟩

end AccountTable.Covered

/-! ### The account operations -/

section ops

variable {a : Nat} {s : State}

theorem mapAccount_of_none (hnone : findAccount a s = none) (f : Account → Account) :
    (mapAccount a f s).accounts = s.accounts := by
  simp only [mapAccount, State.accounts_withAccounts, AccountTable.Covered.map_of_not_mem (findAccount_eq_none.1 hnone)]

theorem dropReference_of_none (hnone : findAccount a s = none) : (dropReference a s).accounts = s.accounts := by
  simp only [dropReference, hnone, mapAccount_of_none hnone]

/-- An entry's balance and holds changed, its references kept. -/
theorem mapAccount_covered (h : s.accounts.Covered) {f : Account → Account}
    (hf : ∀ e, findAccount a s = some e → (f e).number = e.number ∧ (f e).refs = e.refs ∧ (f e).Fits) :
    (mapAccount a f s).accounts.Covered := by
  cases he : findAccount a s with
  | none => rwa [mapAccount_of_none he]
  | some e =>
    obtain ⟨hn, hr, hfits⟩ := hf e he
    have hmem := findAccount_mem he
    have hnum := findAccount_number he
    refine h.map hmem hnum hn hfits h.idleNodup fun x => ?_
    split
    · rename_i hx
      rw [hx, hr, ← hnum, h.mem_idle_iff hmem]
    · rfl

/-- An entry with one reference less, and on the idle list with none left. -/
theorem covered_of_dropped (h : s.accounts.Covered) {e : Account} (he : findAccount a s = some e)
    {f : Account → Account} (hn : (f e).number = e.number) (hr : (f e).refs = e.refs - 1) (hfits : (f e).Fits) :
    ({ entries := s.accounts.entries.map fun x => if x.number = a then f x else x
       idle := if e.refs = 1 then s.accounts.idle ++ [a] else s.accounts.idle } : AccountTable).Covered := by
  have hmem := findAccount_mem he
  have hnum := findAccount_number he
  have hidle : a ∈ s.accounts.idle ↔ e.refs = 0 := hnum ▸ h.mem_idle_iff hmem
  refine h.map hmem hnum hn hfits ?_ fun x => ?_
  · split
    · rename_i hone
      exact List.nodup_append.2 ⟨h.idleNodup, by simp, fun m hm k hk he => by
        have hzero := hidle.1 (by rwa [← List.mem_singleton.1 hk, ← he])
        omega⟩
    · exact h.idleNodup
  · rw [hr]
    by_cases hx : x = a
    · rw [if_pos hx, hx]
      split
      · simp [*]
      · rw [hidle]
        omega
    · rw [if_neg hx]
      split
      · simp [hx]
      · rfl

theorem addReference_covered (h : s.accounts.Covered) : (addReference a s).accounts.Covered := by
  cases he : findAccount a s with
  | none =>
    have hsame : (addReference a s).accounts = s.accounts := by
      simp only [addReference, he, mapAccount_of_none he]
    rwa [hsame]
  | some e =>
    have hmem := findAccount_mem he
    have hnum := findAccount_number he
    have hfits := h.fits e hmem
    rw [addReference_of_entry he]
    refine h.map (f := fun x => { x with refs := x.refs + 1 }) hmem hnum rfl
      ⟨hfits.held, hfits.balance, hfits.holds, hfits.nodup⟩ ?_ fun x => ?_
    · split
      · exact h.idleNodup.filter _
      · exact h.idleNodup
    · by_cases hx : x = a
      · have hidle := h.mem_idle_iff hmem
        rw [hnum] at hidle
        rw [if_pos hx, hx]
        split
        · simp
        · simp [*]
      · rw [if_neg hx]
        split
        · simp [hx]
        · rfl

theorem dropReference_covered (h : s.accounts.Covered) : (dropReference a s).accounts.Covered := by
  cases he : findAccount a s with
  | none => rwa [dropReference_of_none he]
  | some e =>
    have hfits := h.fits e (findAccount_mem he)
    rw [dropReference_of_entry he]
    exact covered_of_dropped (f := fun x => { x with refs := x.refs - 1 }) h he rfl rfl
      ⟨hfits.held, hfits.balance, hfits.holds, hfits.nodup⟩

/-- A list with at most one hold of a basket: the points of the others and of its own. -/
theorem pointsOf_others_add (n : Nat) {xs : List Hold} (hd : (xs.map Hold.basket).Nodup) :
    pointsOf (xs.filter fun x => decide (x.basket ≠ n))
      + ((xs.find? fun x => decide (x.basket = n)).map Hold.points).getD 0 = pointsOf xs := by
  induction xs with
  | nil => rfl
  | cons x rest ih =>
    obtain ⟨hfirst, hrest⟩ := List.nodup_cons.1 hd
    by_cases hx : x.basket = n
    · have hall : (rest.filter fun y => decide (y.basket ≠ n)) = rest :=
        List.filter_eq_self.2 fun y hy => decide_eq_true fun (hn : y.basket = n) =>
          hfirst (List.mem_map.2 ⟨y, hy, hn.trans hx.symm⟩)
      rw [List.filter_cons_of_neg (by simp [hx]), hall, List.find?_cons_of_pos (by simp [hx]), pointsOf_cons]
      exact Nat.add_comm ..
    · rw [List.filter_cons_of_pos (by simp [hx]), List.find?_cons_of_neg (by simp [hx]), pointsOf_cons, pointsOf_cons,
        Nat.add_assoc, ih hrest]

/-- What the holds of other baskets on an entry come to, and that of a basket's own. -/
theorem othersHeld_add (n : Nat) {e : Account} (hd : (e.holds.map Hold.basket).Nodup) :
    othersHeld n e + ((holdOf n e).map Hold.points).getD 0 = heldTotal e :=
  pointsOf_others_add n hd

/-- A basket's hold gone from an entry. -/
theorem Account.Fits.removeHold {e : Account} (h : e.Fits) (n : Nat) : (removeHold n e).Fits := by
  refine ⟨?_, h.balance, (List.length_filter_le ..).trans h.holds, map_key_filter_nodup h.nodup _⟩
  exact (Nat.le_of_add_right_le (othersHeld_add n h.nodup).le).trans h.held

/-- The hold list after a REDEEM that passes R151 fits the entry. -/
theorem Account.Fits.placed {e : Account} (h : e.Fits) {n l points timer : Nat}
    (hpoints : points ≤ e.balance - othersHeld n e) (hroom : holdOf n e = none → 0 < points → e.holds.length < 4) :
    ({ e with holds := holdsAfter n l points timer e.holds } : Account).Fits := by
  have hothers : othersHeld n e ≤ e.balance := (Nat.le_of_add_right_le (othersHeld_add n h.nodup).le).trans h.held
  rcases Nat.eq_zero_or_pos points with rfl | hpos
  · rw [holdsAfter_zero]
    exact h.removeHold n
  · cases hh : holdOf n e with
    | none =>
      have hnone := holdOf_eq_none_iff.1 hh
      have hlen := hroom hh hpos
      rw [holdsAfter_of_new hpos hnone]
      refine ⟨?_, h.balance, by simpa using hlen, ?_⟩
      · refine (pointsOf_placed hnone).trans_le ?_
        exact (Nat.add_le_add_left hpoints _).trans (Nat.add_sub_of_le hothers).le
      · rw [List.map_append, List.nodup_append]
        refine ⟨h.nodup, by simp, fun m hm k hk he => ?_⟩
        obtain ⟨x, hx, rfl⟩ := List.mem_map.1 hm
        exact hnone x hx (he.trans (by simpa using hk))
    | some x =>
      have hsome := holdOf_isSome_iff.1 (Option.isSome_of_eq_some hh)
      rw [holdsAfter_of_held hpos hsome]
      refine ⟨?_, h.balance, by simpa using h.holds, ?_⟩
      · refine (pointsOf_amended h.nodup hsome).trans_le ?_
        exact (Nat.add_le_add_left hpoints _).trans (Nat.add_sub_of_le hothers).le
      · rw [map_key_map_if (key := Hold.basket) (f := fun x => { x with points := points, timer := timer }) fun _ _ => rfl]
        exact h.nodup

/-- The basket's own hold taken from the balance, and points credited up to the cap (R165). -/
theorem Account.Fits.committed {e : Account} (h : e.Fits) (n earned : Nat) :
    (Machine.removeHold n
      { e with balance := balanceAfter e.balance (((holdOf n e).map Hold.points).getD 0) earned }).Fits := by
  have hsum := othersHeld_add n h.nodup
  have hheld := h.held
  refine ⟨?_, ?_, (List.length_filter_le ..).trans h.holds, map_key_filter_nodup h.nodup _⟩
  · show othersHeld n e ≤ balanceAfter e.balance (((holdOf n e).map Hold.points).getD 0) earned
    have hbalance := h.balance
    unfold balanceAfter Config.maxBalance
    omega
  · exact Nat.min_le_right ..

theorem dropAccount_covered (h : s.accounts.Covered) (b : Basket) : (dropAccount b s).accounts.Covered := by
  cases ha : b.account with
  | none => rwa [dropAccount_of_none ha]
  | some a =>
    cases he : findAccount a s with
    | none =>
      simp only [dropAccount, ha]
      exact dropReference_covered (mapAccount_of_none he _ ▸ h)
    | some e =>
      rw [dropAccount_of_entry ha he]
      have hfits := (h.fits e (findAccount_mem he)).removeHold b.number
      exact covered_of_dropped (f := fun x => { removeHold b.number x with refs := x.refs - 1 }) h he rfl rfl
        ⟨hfits.held, hfits.balance, hfits.holds, hfits.nodup⟩

theorem commitAccount_covered (h : s.accounts.Covered) (b : Basket) (earned : Nat) :
    (commitAccount b (heldPoints b s) earned s).accounts.Covered := by
  cases ha : b.account with
  | none => rwa [commitAccount_of_none ha]
  | some a =>
    cases he : findAccount a s with
    | none =>
      simp only [commitAccount, ha]
      exact dropReference_covered (mapAccount_of_none he _ ▸ h)
    | some e =>
      have hown : heldPoints b s = ((holdOf b.number e).map Hold.points).getD 0 := by
        simp [heldPoints, basketHold, ha, he]
      rw [commitAccount_of_entry ha he, hown]
      have hfits := (h.fits e (findAccount_mem he)).committed b.number earned
      refine covered_of_dropped (f := fun x => { x with
        balance := min (x.balance - ((holdOf b.number e).map Hold.points).getD 0 + earned) 99999999
        refs := x.refs - 1, holds := x.holds.filter fun y => decide (y.basket ≠ b.number) }) h he rfl rfl
        ⟨hfits.held, hfits.balance, hfits.holds, hfits.nodup⟩

end ops

/-! ### Each change keeps them so -/

theorem Change.covered {s t : State} (h : Change s t) (hs : s.accounts.Covered) : t.accounts.Covered := by
  cases h with
  | attached n a => exact addReference_covered hs
  | detached n a => exact dropReference_covered hs
  | created e hnew hholds hrefs hbalance hroom =>
    exact hs.append (findAccount_eq_none.1 hnew) hrefs ⟨by simp [heldTotal, hholds], hbalance, by simp [hholds],
      by simp [hholds]⟩ hroom
  | createdEvicting e old rest hnew hholds hrefs hbalance hidle =>
    obtain ⟨c, hc, hcn, -⟩ := (hs.idle_iff old).1 (hidle ▸ List.mem_cons_self)
    have hfilter := hs.filter old
    have hrest : (s.accounts.idle.filter fun x => decide (x ≠ old)) = rest := by
      have hd := hidle ▸ hs.idleNodup
      rw [hidle, List.filter_cons_of_neg (by simp)]
      exact List.filter_eq_self.2 fun x hx => decide_eq_true fun hxo => (List.nodup_cons.1 hd).1 (hxo ▸ hx)
    rw [hrest] at hfilter
    refine hfilter.append (fun x hx => findAccount_eq_none.1 hnew x (List.mem_of_mem_filter hx)) hrefs
      ⟨by simp [heldTotal, hholds], hbalance, by simp [hholds], by simp [hholds]⟩ ?_
    exact (List.length_filter_lt_length_iff_exists.2 ⟨c, hc, by simp [hcn]⟩).trans_le hs.room
  | refreshed e tier flags balance he hheld hbalance =>
    have hmem := findAccount_mem he
    have hfits := hs.fits e hmem
    refine hs.map (f := fun x => { x with tier := tier, flags := flags, balance := balance }) hmem rfl rfl
      ⟨hheld, hbalance, hfits.holds, hfits.nodup⟩ ?_ fun x => ?_
    · split
      · exact List.nodup_append.2 ⟨hs.idleNodup.filter _, by simp, fun m hm k hk hmk => by
          rw [hmk, List.mem_singleton.1 hk] at hm
          simp at hm⟩
      · exact hs.idleNodup
    · have hidle := hs.mem_idle_iff hmem
      by_cases hx : x = e.number
      · rw [if_pos hx, hx]
        split
        · simp [*]
        · exact hidle
      · rw [if_neg hx]
        split
        · simp [hx]
        · rfl
  | evicted e => exact hs.filter e.number
  | held n l points b e hb hparked hl ha he hpoints hroom =>
    rw [placeHold_eq]
    refine mapAccount_covered hs fun c hc => ?_
    cases he.symm.trans hc
    exact ⟨rfl, rfl, (hs.fits e (findAccount_mem he)).placed hpoints hroom⟩
  | holdRemoved n a => exact mapAccount_covered hs fun c hc => ⟨rfl, rfl, (hs.fits c (findAccount_mem hc)).removeHold n⟩
  | cancelled b | expired b | admitted r rest b =>
    rw [cancelBasket_accounts]
    exact dropAccount_covered (by simpa [removeRecords] using hs) b
  | settled l earned b r =>
    simp only [withSettled]
    simpa [removeRecords] using commitAccount_covered hs b earned
  | restarted => exact .powerOn
  | _ => simpa [withNewBasket, withParked, withRecalled, withTotalling, withExpired, withTakenBack, keyRecord, clearCounts,
      removeRecord, mapRecord] using hs

theorem TimersRun.covered {s t : State} (h : TimersRun s t) (hs : s.accounts.Covered) : t.accounts.Covered := by
  obtain ⟨g, heq, hg⟩ := h.accounts
  have hpoints (xs : List Hold) : (xs.map g).map Hold.points = xs.map Hold.points := by
    rw [List.map_map]
    exact List.map_congr_left fun x _ => by obtain ⟨k, hk⟩ := hg x; simp [hk]
  have hbaskets (xs : List Hold) : (xs.map g).map Hold.basket = xs.map Hold.basket := by
    rw [List.map_map]
    exact List.map_congr_left fun x _ => by obtain ⟨k, hk⟩ := hg x; simp [hk]
  rw [heq]
  refine ⟨by simpa using hs.room, by simpa [Function.comp_def] using hs.nodup, hs.idleNodup, fun a => ?_, fun e he => ?_⟩
  · rw [hs.idle_iff]
    simp
  · obtain ⟨c, hc, rfl⟩ := List.mem_map.1 he
    have hfits := hs.fits c hc
    exact ⟨by simpa only [heldTotal, hpoints] using hfits.held, hfits.balance, by simpa using hfits.holds,
      by simpa only [hbaskets] using hfits.nodup⟩

theorem step_covered {s t : State} (hs : s.accounts.Covered) (h : step s = .next t) : t.accounts.Covered :=
  step_keeps (P := fun s => s.accounts.Covered) (fun _ _ => id) (fun _ _ hs hc => hc.covered hs)
    (fun i s hs => by obtain ⟨-, -, -, -, -, -, hacc, -⟩ := evaluationCompletion_frame i s; rwa [hacc])
    (fun c s => (runOut_timersRun c s).covered) (fun _ _ _ _ => .powerOn) (fun _ _ => id)
    (fun s => (tick_timersRun s).covered) hs h

end Sys2Proof.Machine
end

section
/-! Each desk's open count and the notices presented to it (R123): each change keeps them equal (O58). -/

namespace Sys2Proof.Machine

/-- A route that has a notice presented to desk `d`. -/
def showsAt (d : Nat) (x : Option Presentation) : Bool :=
  match x with
  | some p => decide (p.desk = d)
  | none => false

theorem noticesAt_eq (d : Nat) (s : State) :
    noticesAt d s = (s.router.routes.toList.map Route.presented).countP (showsAt d) := by
  rw [List.countP_map, List.countP_eq_length_filter]
  rfl

/-- The count of notices reads of a route what it has presented, but for its timer. -/
theorem noticesAt_shown (d : Nat) (s : State) :
    noticesAt d s = (s.router.routes.toList.map shown).countP (showsAt d) := by
  rw [noticesAt_eq, List.countP_map, List.countP_map]
  refine List.countP_congr fun q _ => ?_
  cases h : q.presented <;> simp [shown, showsAt, h]

/-! ### One route and one desk -/

theorem mapRoute_desks (l : Nat) (f : Route → Route) (s : State) : (mapRoute l f s).router.desks = s.router.desks := by
  unfold mapRoute
  split <;> rfl

theorem mapDesk_routes (d : Nat) (f : Desk → Desk) (s : State) : (mapDesk d f s).router.routes = s.router.routes := by
  unfold mapDesk
  split <;> rfl

theorem mapDesk_desks (d : Nat) (f : Desk → Desk) (s : State) (k : Nat) :
    (mapDesk d f s).router.desks[k]? = if k = d then (s.router.desks[d]?).map f else s.router.desks[k]? := by
  unfold mapDesk
  cases hd : s.router.desks[d]? with
  | none =>
    simp only [Option.map_none]
    split
    · rename_i hk; rw [hk, hd]
    · rfl
  | some r =>
    have hlt : d < 4 := (Vector.getElem?_eq_some_iff.1 hd).1
    simp only [State.router_withRouter, Vector.getElem?_setIfInBounds, hlt, Option.map_some, if_true, eq_comm]

theorem mapRoute_routes (l : Nat) (f : Route → Route) (s : State) (k : Nat) :
    (mapRoute l f s).router.routes[k]? = if k = l then (s.router.routes[l]?).map f else s.router.routes[k]? := by
  unfold mapRoute
  cases hq : s.router.routes[l]? with
  | none =>
    simp only [Option.map_none]
    split
    · rename_i hk; rw [hk, hq]
    · rfl
  | some r =>
    have hlt : l < 16 := (Vector.getElem?_eq_some_iff.1 hq).1
    simp only [State.router_withRouter, Vector.getElem?_setIfInBounds, hlt, Option.map_some, if_true, eq_comm]

theorem noticesAt_mapDesk (d k : Nat) (f : Desk → Desk) (s : State) : noticesAt d (mapDesk k f s) = noticesAt d s := by
  rw [noticesAt_eq, noticesAt_eq, mapDesk_routes]

/-- A route changed: the notices at a desk change by what it presents there. -/
theorem noticesAt_mapRoute (d : Nat) {l : Nat} {q : Route} (f : Route → Route) {s : State}
    (hq : s.router.routes[l]? = some q) :
    noticesAt d (mapRoute l f s) + (if showsAt d q.presented then 1 else 0)
      = noticesAt d s + (if showsAt d (f q).presented then 1 else 0) := by
  obtain ⟨hl, rfl⟩ := Vector.getElem?_eq_some_iff.1 hq
  have hlist : (mapRoute l f s).router.routes.toList = s.router.routes.toList.set l (f s.router.routes[l]) := by
    simp [mapRoute, hq]
  have hlen : l < (s.router.routes.toList.map Route.presented).length := by simpa using hl
  have hget : (s.router.routes.toList.map Route.presented)[l] = s.router.routes[l].presented := by simp
  rw [noticesAt_eq, noticesAt_eq, hlist, List.map_set, List.countP_set hlen, hget]
  have hpos : showsAt d s.router.routes[l].presented = true →
      0 < (s.router.routes.toList.map Route.presented).countP (showsAt d) := fun h =>
    List.countP_pos_iff.2 ⟨_, List.getElem_mem hlen, hget ▸ h⟩
  split
  · rename_i h
    have := hpos h
    omega
  · omega

theorem noticesAt_mapRoute_same (d l : Nat) {f : Route → Route} (hf : ∀ r, (f r).presented = r.presented) (s : State) :
    noticesAt d (mapRoute l f s) = noticesAt d s := by
  cases hq : s.router.routes[l]? with
  | none => simp [mapRoute, hq]
  | some q =>
    have h := noticesAt_mapRoute d f hq
    rw [hf] at h
    exact Nat.add_right_cancel h

/-! ### Each change keeps them equal -/

theorem DesksAgree.of_eq {s t : State} (hs : DesksAgree s)
    (hroutes : t.router.routes.toList.map shown = s.router.routes.toList.map shown)
    (hdesks : ∀ d : Nat, (t.router.desks[d]?).map Desk.openCount = (s.router.desks[d]?).map Desk.openCount) : DesksAgree t := by
  intro d k hk
  have hmap := hdesks d
  rw [hk] at hmap
  obtain ⟨j, hj, hjk⟩ := Option.map_eq_some_iff.1 hmap.symm
  rw [noticesAt_shown, hroutes, ← noticesAt_shown, ← hjk]
  exact hs d j hj

theorem DesksAgree.of_router {s t : State} (hs : DesksAgree s) (h : t.router = s.router) : DesksAgree t :=
  hs.of_eq (by rw [h]) fun d => by rw [h]

/-- The least busy desk is one of the list, and available. -/
theorem leastBusy_mem {xs : List (Nat × Desk)} {x : Nat × Desk} (h : leastBusy xs = some x) :
    x ∈ xs ∧ deskAvailable x.2 = true := by
  induction xs with
  | nil => cases h
  | cons y rest ih =>
    obtain ⟨i, d⟩ := y
    unfold leastBusy at h
    split at h
    · rename_i hd
      split at h
      · cases h
        exact ⟨List.mem_cons_self, hd⟩
      · rename_i j e hrest
        split at h
        · cases h
          obtain ⟨hmem, havail⟩ := ih hrest
          exact ⟨List.mem_cons_of_mem _ hmem, havail⟩
        · cases h
          exact ⟨List.mem_cons_self, hd⟩
    · obtain ⟨hmem, havail⟩ := ih h
      exact ⟨List.mem_cons_of_mem _ hmem, havail⟩

theorem mem_numberedDesks {d : Nat} {k : Desk} {s : State} :
    (d, k) ∈ numberedDesks s ↔ s.router.desks[d]? = some k := by
  unfold numberedDesks
  rw [List.mem_filterMap]
  constructor
  · rintro ⟨i, -, hi⟩
    obtain ⟨j, hj, heq⟩ := Option.map_eq_some_iff.1 hi
    cases heq
    exact hj
  · intro hk
    exact ⟨d, List.mem_range.2 (Vector.getElem?_eq_some_iff.1 hk).1, by simp [hk]⟩

/-- A desk that a notice goes to is available. -/
theorem targetDesk_available {q : Route} {s : State} {d : Nat} (h : targetDesk q s = some d) :
    ∃ k, s.router.desks[d]? = some k ∧ deskAvailable k = true := by
  unfold targetDesk at h
  split at h
  · split at h
    · rename_i k hk
      split at h
      · cases h
        exact ⟨k, hk, by assumption⟩
      · cases h
    · cases h
  · obtain ⟨⟨e, k⟩, hk, rfl⟩ := Option.map_eq_some_iff.1 h
    obtain ⟨hmem, havail⟩ := leastBusy_mem hk
    exact ⟨k, mem_numberedDesks.1 hmem, havail⟩

/-- What a route that can present has before it (R124, R125). -/
theorem canPresent_eq_some {l d : Nat} {r : OverrideRecord} {s : State} :
    canPresent l s = some (r, d) ↔ ∃ q b, s.router.routes[l]? = some q ∧ q.masked = false ∧ q.presented = none
      ∧ activeBasket l s = some b ∧ lowestSeq ((basketRecords b.number s).filter isWaiting) = some r
      ∧ targetDesk q s = some d := by
  unfold canPresent
  constructor
  · intro h
    split at h
    · cases h
    · rename_i q hq
      split at h
      · cases h
      · rename_i hfree
        obtain ⟨hmask, hpres⟩ := not_or.1 hfree
        split at h
        · cases h
        · rename_i b hb
          split at h
          · cases h
          · rename_i r' hr
            obtain ⟨d', hd, heq⟩ := Option.map_eq_some_iff.1 h
            cases heq
            exact ⟨q, b, hq, by simpa using hmask, by simpa using hpres, hb, hr, hd⟩
  · rintro ⟨q, b, hq, hmask, hpres, hb, hr, hd⟩
    simp [hq, hmask, hpres, hb, hr, hd]

theorem presentOn_desksAgree {l d : Nat} {q : Route} {r : OverrideRecord} {s : State} (hs : DesksAgree s)
    (hq : s.router.routes[l]? = some q) (hcan : canPresent l s = some (r, d)) :
    DesksAgree (presentOn l q r d s).state := by
  obtain ⟨q', b, hq', -, hnone, -, -, htarget⟩ := canPresent_eq_some.1 hcan
  cases hq.symm.trans hq'
  obtain ⟨k, hk, havail⟩ := targetDesk_available htarget
  obtain ⟨-, hroom⟩ : k.onDuty = true ∧ k.openCount < 8 := by
    rw [← decide_eq_true_iff (p := k.openCount < 8)]
    exact Bool.and_eq_true_iff.1 havail
  intro e m hm
  simp only [presentOn] at hm ⊢
  rw [noticesAt_mapDesk]
  have hcount := noticesAt_mapRoute (s := mapRecord r.basket r.line markPresented s) e (fun q => { q with
    tag := q.tag + 1
    presented := some { basket := r.basket, line := r.line, seq := r.seq, desk := d
                        timer := 1000 * s.tables.limits.noticeLimit } }) hq
  have hsame : noticesAt e (mapRecord r.basket r.line markPresented s) = noticesAt e s := rfl
  rw [hsame] at hcount
  simp only [hnone, showsAt, Bool.false_eq_true, if_false, Nat.add_zero, decide_eq_true_eq] at hcount
  rw [hcount]
  rw [mapDesk_desks, mapRoute_desks] at hm
  by_cases hed : e = d
  · rw [if_pos hed] at hm
    obtain ⟨j, hj, rfl⟩ := Option.map_eq_some_iff.1 hm
    cases hk.symm.trans hj
    obtain ⟨hopen, -⟩ := hs d k hk
    rw [if_pos hed.symm, hed, ← hopen]
    exact ⟨rfl, hroom⟩
  · rw [if_neg hed] at hm
    rw [if_neg (Ne.symm hed)]
    exact hs e m hm

theorem endPresentation_desksAgree {l : Nat} {p : Presentation} (decided : Bool) {s : State} (hs : DesksAgree s)
    (hp : presentationOf l s = some p) : DesksAgree (endPresentation l p decided s) := by
  obtain ⟨q, hq, hqp⟩ : ∃ q, s.router.routes[l]? = some q ∧ q.presented = some p := by
    unfold presentationOf at hp
    split at hp
    · exact ⟨_, by assumption, hp⟩
    · cases hp
  intro e k hk
  simp only [endPresentation] at hk ⊢
  rw [noticesAt_mapDesk]
  have hcount := noticesAt_mapRoute e (fun q => { q with presented := none }) hq
  simp only [hqp, showsAt, Bool.false_eq_true, if_false, Nat.add_zero, decide_eq_true_eq] at hcount
  rw [mapDesk_desks, mapRoute_desks] at hk
  by_cases hed : e = p.desk
  · rw [if_pos hed] at hk
    obtain ⟨j, hj, rfl⟩ := Option.map_eq_some_iff.1 hk
    obtain ⟨hopen, hroom⟩ := hs p.desk j hj
    rw [if_pos hed.symm, hed] at hcount
    subst hed
    exact ⟨Nat.sub_eq_of_eq_add (hopen.trans hcount.symm), (Nat.sub_le ..).trans hroom⟩
  · rw [if_neg hed] at hk
    rw [if_neg (Ne.symm hed)] at hcount
    rw [Nat.add_zero] at hcount
    rw [hcount]
    exact hs e k hk

/-- No notice anywhere and every desk with none open. -/
theorem desksAgree_of_quiet {s : State} (hroutes : ∀ q ∈ s.router.routes.toList, q.presented = none)
    (hdesks : ∀ (d : Nat) k, s.router.desks[d]? = some k → k.openCount = 0) : DesksAgree s := by
  intro d k hk
  have hnone : noticesAt d s = 0 := by
    rw [noticesAt_eq, List.countP_map, List.countP_eq_zero]
    intro q hq
    simp [hroutes q hq, showsAt]
  rw [hnone, hdesks d k hk]
  exact ⟨rfl, Nat.zero_le _⟩

theorem restartedState_desksAgree (s : State) : DesksAgree (restartedState s) := by
  refine desksAgree_of_quiet (fun q hq => ?_) fun d k hk => ?_
  · simp only [restartedState, Router.restarted, Vector.toList_map, List.mem_map] at hq
    obtain ⟨r, -, rfl⟩ := hq
    rfl
  · simp only [restartedState, Router.restarted, Vector.getElem?_map] at hk
    obtain ⟨j, -, rfl⟩ := Option.map_eq_some_iff.1 hk
    rfl

theorem resetState_desksAgree (cause : ResetCause) (straps : Straps) (s : State) :
    DesksAgree (resetState cause straps s) := by
  refine desksAgree_of_quiet (fun q hq => ?_) fun d k hk => ?_
  · obtain ⟨l, -, rfl⟩ := List.mem_map.1 (show q ∈ (List.range 16).map Route.powerOn from hq)
    rfl
  · obtain ⟨hd, rfl⟩ := Vector.getElem?_eq_some_iff.1 hk
    simp [resetState, Router.powerOn, Desk.powerOn]

theorem Change.desksAgree {s t : State} (h : Change s t) (hs : DesksAgree s) : DesksAgree t := by
  cases h with
  | route l f hf =>
    intro d k hk
    rw [noticesAt_mapRoute_same d l hf]
    rw [mapRoute_desks] at hk
    exact hs d k hk
  | desk d f hf =>
    refine hs.of_eq (by rw [mapDesk_routes]) fun k => ?_
    rw [mapDesk_desks]
    split
    · rename_i hk
      subst hk
      cases s.router.desks[k]? <;> simp [hf]
    · rfl
  | presented l d q r hq hcan => exact presentOn_desksAgree hs hq hcan
  | takenBack l p decided hp =>
    exact endPresentation_desksAgree decided (s := mapRecord p.basket p.line markTakenBack s) hs hp
  | restarted => exact restartedState_desksAgree s
  | countsCleared => exact hs.of_eq rfl fun d => by simp [clearCounts]
  | _ => exact hs.of_router (by simp [withNewBasket, withParked, withRecalled, withTotalling, withExpired, withSettled,
      Machine.refreshed, keyRecord, removeRecord, mapRecord, removeRecords, State.withBaskets])

theorem TimersRun.desksAgree {s t : State} (h : TimersRun s t) (hs : DesksAgree s) : DesksAgree t :=
  hs.of_eq h.routes fun d => by rw [h.desks]

theorem step_desksAgree {s t : State} (hs : DesksAgree s) (h : step s = .next t) : DesksAgree t :=
  step_keeps (P := DesksAgree) (fun _ _ => id) (fun _ _ hs hc => hc.desksAgree hs)
    (fun i s hs => hs.of_router (by obtain ⟨-, -, -, -, -, hrouter, -⟩ := evaluationCompletion_frame i s; exact hrouter))
    (fun c s => (runOut_timersRun c s).desksAgree) (fun cause straps s _ => resetState_desksAgree cause straps s)
    (fun _ _ => id) (fun s => (tick_timersRun s).desksAgree) hs h

end Sys2Proof.Machine
end

section
/-! Accounts and the baskets attached to them (R143, R152): each change keeps the two in agreement (O58). -/

namespace Sys2Proof.Machine

/-! ### The relation, clause by clause -/

/-- A hold belongs to a basket that is not parked, is attached to account `a` and stands on the hold's lane. -/
def Stands (bs : List Basket) (a : Nat) (x : Hold) : Prop :=
  ∃ b ∈ bs, b.number = x.basket ∧ b.state ≠ .parked ∧ b.account = some a ∧ b.lane = some x.lane

/-- The clauses of `AccountsAttached`, of baskets and entries. -/
structure Attached (bs : List Basket) (es : List Account) : Prop where
  known : ∀ b ∈ bs, ∀ a, b.account = some a → ∃ e ∈ es, e.number = a
  refs : ∀ e ∈ es, e.refs = (bs.filter fun b => decide (b.account = some e.number)).length
  stands : ∀ e ∈ es, ∀ x ∈ e.holds, Stands bs e.number x

theorem accountsAttached_iff {s : State} :
    AccountsAttached s ↔ Attached s.basketTable.baskets s.accounts.entries :=
  ⟨fun ⟨hknown, h⟩ => ⟨hknown, fun e he => (h e he).1, fun e he => (h e he).2⟩,
    fun h => ⟨h.known, fun e he => ⟨h.refs e he, h.stands e he⟩⟩⟩

namespace Attached

variable {bs : List Basket} {es : List Account}

/-! ### Baskets or entries changed alone -/

/-- A basket that a hold stands on. -/
def Holds (es : List Account) (b : Basket) : Prop :=
  b.state ≠ .parked ∧ ∃ e ∈ es, b.account = some e.number ∧ ∃ x ∈ e.holds, x.basket = b.number

/-- Baskets changed but for their numbers and accounts, and those with a hold but for their lanes. -/
theorem mapBaskets (h : Attached bs es) {f : Basket → Basket}
    (hf : ∀ b ∈ bs, (f b).number = b.number ∧ (f b).account = b.account
      ∧ (Holds es b → (f b).state ≠ .parked ∧ (f b).lane = b.lane)) : Attached (bs.map f) es := by
  refine ⟨fun b hb => ?_, fun e he => ?_, fun e he x hx => ?_⟩
  · obtain ⟨c, hc, rfl⟩ := List.mem_map.1 hb
    rw [(hf c hc).2.1]
    exact h.known c hc
  · rw [h.refs e he, List.filter_map, List.length_map]
    refine congrArg List.length (List.filter_congr fun b hb => ?_)
    simp [(hf b hb).2.1]
  · obtain ⟨b, hb, hbx, hp, ha, hl⟩ := h.stands e he x hx
    obtain ⟨hn, hacc, hheld⟩ := hf b hb
    obtain ⟨hp', hl'⟩ := hheld ⟨hp, e, he, ha, x, hx, hbx.symm⟩
    exact ⟨f b, List.mem_map_of_mem hb, hn.trans hbx, hp', hacc.trans ha, hl'.trans hl⟩

/-- Entries changed but for their numbers and references, with holds that stand. -/
theorem mapEntries (h : Attached bs es) {g : Account → Account}
    (hg : ∀ e ∈ es, (g e).number = e.number ∧ (g e).refs = e.refs ∧ ∀ x ∈ (g e).holds, Stands bs e.number x) :
    Attached bs (es.map g) := by
  refine ⟨fun b hb a ha => ?_, fun e he => ?_, fun e he x hx => ?_⟩
  · obtain ⟨e, he, hn⟩ := h.known b hb a ha
    exact ⟨g e, List.mem_map_of_mem he, (hg e he).1.trans hn⟩
  · obtain ⟨c, hc, rfl⟩ := List.mem_map.1 he
    rw [(hg c hc).2.1, (hg c hc).1]
    exact h.refs c hc
  · obtain ⟨c, hc, rfl⟩ := List.mem_map.1 he
    rw [(hg c hc).1]
    exact (hg c hc).2.2 x hx

/-- A hold gone from an entry. -/
theorem removeHold (h : Attached bs es) (a n : Nat) :
    Attached bs (es.map fun e => if e.number = a then Machine.removeHold n e else e) := by
  refine h.mapEntries fun e he => ?_
  split
  · exact ⟨rfl, rfl, fun x hx => h.stands e he x (List.mem_of_mem_filter hx)⟩
  · exact ⟨rfl, rfl, h.stands e he⟩

/-! ### A basket or an entry more or less -/

/-- A basket without an account opens. -/
theorem addBasket (h : Attached bs es) {b : Basket} (hb : b.account = none) : Attached (bs ++ [b]) es := by
  refine ⟨fun c hc a ha => ?_, fun e he => ?_, fun e he x hx => ?_⟩
  · rcases List.mem_append.1 hc with hc | hc
    · exact h.known c hc a ha
    · rw [List.mem_singleton.1 hc, hb] at ha
      cases ha
  · rw [h.refs e he, List.filter_append, List.filter_singleton]
    simp [hb]
  · obtain ⟨c, hc, hrest⟩ := h.stands e he x hx
    exact ⟨c, List.mem_append_left _ hc, hrest⟩

/-- A basket without an account goes. -/
theorem dropBasket (h : Attached bs es) (hd : (bs.map Basket.number).Nodup) {b : Basket} (hb : b ∈ bs)
    (hnone : b.account = none) : Attached (bs.filter fun x => decide (x.number ≠ b.number)) es := by
  refine ⟨fun c hc => h.known c (List.mem_of_mem_filter hc), fun e he => ?_, fun e he x hx => ?_⟩
  · rw [h.refs e he, ← length_filter_ne hd hb]
    simp [hnone]
  · obtain ⟨c, hc, hcx, hp, ha, hl⟩ := h.stands e he x hx
    refine ⟨c, List.mem_filter.2 ⟨hc, decide_eq_true fun (hcn : c.number = b.number) => ?_⟩, hcx, hp, ha, hl⟩
    rw [eq_of_key_eq hd hc hb hcn, hnone] at ha
    cases ha

/-- An entry that no basket is attached to goes. -/
theorem dropEntry (h : Attached bs es) {e : Account} (he : e ∈ es)
    (hrefs : e.refs = 0) : Attached bs (es.filter fun x => decide (x.number ≠ e.number)) := by
  refine ⟨fun b hb a ha => ?_, fun c hc => h.refs c (List.mem_of_mem_filter hc),
    fun c hc => h.stands c (List.mem_of_mem_filter hc)⟩
  obtain ⟨c, hc, rfl⟩ := h.known b hb a ha
  refine ⟨c, List.mem_filter.2 ⟨hc, decide_eq_true fun (hcn : c.number = e.number) => ?_⟩, rfl⟩
  rw [hcn] at ha
  have hpos := List.length_pos_of_mem
    (List.mem_filter (p := fun b => decide (b.account = some e.number)).2 ⟨hb, decide_eq_true ha⟩)
  rw [← h.refs e he, hrefs] at hpos
  exact Nat.lt_irrefl 0 hpos

/-- A new entry without references and holds. -/
theorem addEntry (h : Attached bs es) {e : Account} (hnew : ∀ c ∈ bs, c.account ≠ some e.number) (hrefs : e.refs = 0)
    (hholds : e.holds = []) : Attached bs (es ++ [e]) := by
  refine ⟨fun b hb a ha => ?_, fun c hc => ?_, fun c hc x hx => ?_⟩
  · obtain ⟨c, hc, hcn⟩ := h.known b hb a ha
    exact ⟨c, List.mem_append_left _ hc, hcn⟩
  · rcases List.mem_append.1 hc with hc | hc
    · exact h.refs c hc
    · obtain rfl := List.mem_singleton.1 hc
      have hnil := List.filter_eq_nil_iff.2 fun b hb => fun hdec => hnew b hb (of_decide_eq_true hdec)
      rw [hnil]
      exact hrefs
  · rcases List.mem_append.1 hc with hc | hc
    · exact h.stands c hc x hx
    · rw [List.mem_singleton.1 hc, hholds] at hx
      cases hx

/-- A number not in the table is no basket's account. -/
theorem account_ne (h : Attached bs es) {a : Nat} (ha : ∀ e ∈ es, e.number ≠ a) : ∀ b ∈ bs, b.account ≠ some a :=
  fun b hb hba => by
    obtain ⟨e, he, hn⟩ := h.known b hb a hba
    exact ha e he hn

/-! ### A basket attached and detached -/

/-- The references of each entry after one basket's account changes. -/
theorem count_account (hd : (bs.map Basket.number).Nodup) {b : Basket} (hb : b ∈ bs) (a : Option Nat) (m : Nat) :
    ((bs.map fun x => if x.number = b.number then { x with account := a } else x).filter
        fun x => decide (x.account = some m)).length + (if b.account = some m then 1 else 0)
      = (bs.filter fun x => decide (x.account = some m)).length + (if a = some m then 1 else 0) := by
  simpa using length_filter_map_if hd hb (fun x => { x with account := a }) fun x => decide (x.account = some m)

/-- A basket without a hold changes its account: holds stand as before. -/
theorem stands_account {b : Basket} {x : Hold} {m : Nat} (a : Option Nat) (hx : x.basket ≠ b.number)
    (h : Stands bs m x) :
    Stands (bs.map fun y => if y.number = b.number then { y with account := a } else y) m x := by
  obtain ⟨c, hc, hcx, hp, ha, hl⟩ := h
  exact ⟨c, List.mem_map.2 ⟨c, hc, if_neg fun (hcn : c.number = b.number) => hx (hcx.symm.trans hcn)⟩, hcx, hp, ha, hl⟩

theorem attach (h : Attached bs es) (hd : (bs.map Basket.number).Nodup) {b : Basket} (hb : b ∈ bs) {a : Nat}
    (hnone : b.account = none) (ha : ∃ e ∈ es, e.number = a) :
    Attached (bs.map fun x => if x.number = b.number then { x with account := some a } else x)
      (es.map fun e => if e.number = a then { e with refs := e.refs + 1 } else e) := by
  have hkeep : ∀ m, (∃ e ∈ es, e.number = m) →
      ∃ e ∈ es.map fun e => if e.number = a then { e with refs := e.refs + 1 } else e, e.number = m := by
    rintro m ⟨e, he, rfl⟩
    refine ⟨_, List.mem_map_of_mem he, ?_⟩
    split <;> rfl
  refine ⟨fun c hc m hm => ?_, fun e he => ?_, fun e he x hx => ?_⟩
  · obtain ⟨d, hdm, rfl⟩ := List.mem_map.1 hc
    split at hm
    · cases hm
      exact hkeep a ha
    · exact hkeep m (h.known d hdm m hm)
  · obtain ⟨d, hdm, rfl⟩ := List.mem_map.1 he
    have hcount := count_account hd hb (some a) d.number
    rw [hnone, ← h.refs d hdm] at hcount
    simp only [reduceCtorEq, if_false, Nat.add_zero, Option.some.injEq] at hcount
    split
    · rename_i hda
      rw [if_pos hda.symm] at hcount
      exact hcount.symm
    · rename_i hda
      rw [if_neg (Ne.symm hda)] at hcount
      exact hcount.symm
  · obtain ⟨d, hdm, rfl⟩ := List.mem_map.1 he
    have hnum : (if d.number = a then { d with refs := d.refs + 1 } else d).number = d.number := by split <;> rfl
    have hholds : x ∈ d.holds := by split at hx <;> exact hx
    have hstands := h.stands d hdm x hholds
    rw [hnum]
    refine stands_account (some a) (fun hxb => ?_) hstands
    obtain ⟨c, hc, hcx, -, hca, -⟩ := hstands
    rw [eq_of_key_eq hd hc hb (hcx.trans hxb), hnone] at hca
    cases hca

theorem detach (h : Attached bs es) (hd : (bs.map Basket.number).Nodup) {b : Basket} (hb : b ∈ bs) {a : Nat}
    (ha : b.account = some a) (hfree : ∀ e ∈ es, e.number = a → ∀ x ∈ e.holds, x.basket ≠ b.number) :
    Attached (bs.map fun x => if x.number = b.number then { x with account := none } else x)
      (es.map fun e => if e.number = a then { e with refs := e.refs - 1 } else e) := by
  have hkeep : ∀ m, (∃ e ∈ es, e.number = m) →
      ∃ e ∈ es.map fun e => if e.number = a then { e with refs := e.refs - 1 } else e, e.number = m := by
    rintro m ⟨e, he, rfl⟩
    refine ⟨_, List.mem_map_of_mem he, ?_⟩
    split <;> rfl
  refine ⟨fun c hc m hm => ?_, fun e he => ?_, fun e he x hx => ?_⟩
  · obtain ⟨d, hdm, rfl⟩ := List.mem_map.1 hc
    split at hm
    · cases hm
    · exact hkeep m (h.known d hdm m hm)
  · obtain ⟨d, hdm, rfl⟩ := List.mem_map.1 he
    have hcount := count_account hd hb none d.number
    rw [ha, ← h.refs d hdm] at hcount
    simp only [reduceCtorEq, if_false, Nat.add_zero, Option.some.injEq] at hcount
    split
    · rename_i hda
      rw [if_pos hda.symm] at hcount
      exact Nat.sub_eq_of_eq_add hcount.symm
    · rename_i hda
      rw [if_neg (Ne.symm hda)] at hcount
      exact hcount.symm
  · obtain ⟨d, hdm, rfl⟩ := List.mem_map.1 he
    have hnum : (if d.number = a then { d with refs := d.refs - 1 } else d).number = d.number := by split <;> rfl
    have hholds : x ∈ d.holds := by split at hx <;> exact hx
    have hstands := h.stands d hdm x hholds
    rw [hnum]
    refine stands_account none (fun hxb => ?_) hstands
    obtain ⟨c, hc, hcx, -, hca, -⟩ := hstands
    rw [eq_of_key_eq hd hc hb (hcx.trans hxb), ha] at hca
    exact hfree d hdm (Option.some.inj hca).symm x hholds hxb

/-- A basket with an account goes, its hold and its reference with it (R150, R158). -/
theorem free (h : Attached bs es) (hd : (bs.map Basket.number).Nodup) {b : Basket} (hb : b ∈ bs) {a : Nat}
    (ha : b.account = some a) :
    Attached (bs.filter fun x => decide (x.number ≠ b.number))
      ((es.map fun e => if e.number = a then Machine.removeHold b.number e else e).map
        fun e => if e.number = a then { e with refs := e.refs - 1 } else e) := by
  have hnone := (h.removeHold a b.number).detach hd hb ha fun e he hn x hx hxb => by
    obtain ⟨c, -, rfl⟩ := List.mem_map.1 he
    split at hx
    · exact absurd hxb (by simpa using (List.mem_filter.1 hx).2)
    · rename_i hca
      rw [if_neg hca] at hn
      exact hca hn
  have hd' : ((bs.map fun x => if x.number = b.number then { x with account := none } else x).map
      Basket.number).Nodup := by
    rw [map_key_map_if (key := Basket.number) (f := fun x => { x with account := none }) fun _ _ => rfl]
    exact hd
  have hgone : (bs.map fun x => if x.number = b.number then { x with account := none } else x).filter
      (fun x => decide (x.number ≠ b.number)) = bs.filter fun x => decide (x.number ≠ b.number) := by
    have hkey : (fun x : Basket => decide (x.number ≠ b.number)) ∘
        (fun x => if x.number = b.number then { x with account := none } else x) = fun x => decide (x.number ≠ b.number) := by
      funext x
      by_cases hx : x.number = b.number <;> simp [hx]
    rw [List.filter_map, hkey]
    refine (List.map_congr_left fun x hx => if_neg ?_).trans (List.map_id _)
    exact of_decide_eq_true (List.mem_filter.1 hx).2
  have hdrop := hnone.dropBasket hd' (b := { b with account := none }) (List.mem_map.2 ⟨b, hb, if_pos rfl⟩) rfl
  exact hgone ▸ hdrop

end Attached

/-! ### Each change keeps the agreement -/

/-- A hold after a REDEEM is one of those before it, or that of the basket. -/
theorem mem_holdsAfter {n l points timer : Nat} {xs : List Hold} {x : Hold} (hx : x ∈ holdsAfter n l points timer xs) :
    (∃ y ∈ xs, y.basket = x.basket ∧ y.lane = x.lane) ∨ x.basket = n ∧ x.lane = l := by
  unfold holdsAfter at hx
  split at hx
  · exact .inl ⟨x, List.mem_of_mem_filter hx, rfl, rfl⟩
  · split at hx
    · obtain ⟨y, hy, rfl⟩ := List.mem_map.1 hx
      refine .inl ⟨y, hy, ?_⟩
      split <;> exact ⟨rfl, rfl⟩
    · rcases List.mem_append.1 hx with hx | hx
      · exact .inl ⟨x, hx, rfl, rfl⟩
      · rw [List.mem_singleton.1 hx]
        exact .inr ⟨rfl, rfl⟩

theorem addReference_entries (a : Nat) (s : State) : (addReference a s).accounts.entries
    = s.accounts.entries.map fun e => if e.number = a then { e with refs := e.refs + 1 } else e := by
  unfold addReference
  split
  · split <;> rfl
  · rfl

theorem dropReference_entries (a : Nat) (s : State) : (dropReference a s).accounts.entries
    = s.accounts.entries.map fun e => if e.number = a then { e with refs := e.refs - 1 } else e := by
  unfold dropReference
  split
  · split <;> rfl
  · rfl

/-- The baskets and the entries of a state in agreement, with the baskets numbered once and the table in order. -/
structure AccountsInStep (s : State) : Prop where
  baskets : s.basketTable.Agrees
  covered : s.accounts.Covered
  attached : Attached s.basketTable.baskets s.accounts.entries

/-- A basket that ends takes its hold and its reference with it. -/
theorem dropAccount_attached {s : State} (h : AccountsInStep s) {b : Basket} (hb : findBasket b.number s = some b) :
    Attached (s.basketTable.baskets.filter fun x => decide (x.number ≠ b.number)) (dropAccount b s).accounts.entries := by
  have hbm := findBasket_mem hb
  cases ha : b.account with
  | none =>
    rw [dropAccount_of_none ha]
    exact h.attached.dropBasket h.baskets.nodup hbm ha
  | some a =>
    simp only [dropAccount, ha, dropReference_entries]
    exact h.attached.free h.baskets.nodup hbm ha

theorem commitAccount_attached {s : State} (h : AccountsInStep s) {b : Basket} (hb : findBasket b.number s = some b)
    (redeemed earned : Nat) :
    Attached (s.basketTable.baskets.filter fun x => decide (x.number ≠ b.number))
      (commitAccount b redeemed earned s).accounts.entries := by
  have hbm := findBasket_mem hb
  cases ha : b.account with
  | none =>
    rw [commitAccount_of_none ha]
    exact h.attached.dropBasket h.baskets.nodup hbm ha
  | some a =>
    have hbalance : Attached s.basketTable.baskets (s.accounts.entries.map fun e =>
        if e.number = a then { e with balance := balanceAfter e.balance redeemed earned } else e) := by
      refine h.attached.mapEntries fun e he => ?_
      split <;> exact ⟨rfl, rfl, h.attached.stands e he⟩
    have hfree := hbalance.free h.baskets.nodup hbm ha
    have hentries : (commitAccount b redeemed earned s).accounts.entries = ((s.accounts.entries.map fun e =>
        if e.number = a then { e with balance := balanceAfter e.balance redeemed earned } else e).map
          fun e => if e.number = a then removeHold b.number e else e).map
          fun e => if e.number = a then { e with refs := e.refs - 1 } else e := by
      simp only [commitAccount, ha, dropReference_entries, mapAccount, State.accounts_withAccounts, List.map_map]
      refine List.map_congr_left fun e _ => ?_
      by_cases he : e.number = a <;> simp [he, removeHold]
    rw [hentries]
    exact hfree

/-- No hold of a basket on its account's entry. -/
theorem no_hold_of_basketHold {b : Basket} {s : State} {a : Nat} (hs : s.accounts.Covered) (ha : b.account = some a)
    (hhold : basketHold b s = none) : ∀ e ∈ s.accounts.entries, e.number = a → ∀ x ∈ e.holds, x.basket ≠ b.number := by
  rintro e he rfl
  simp only [basketHold, ha, Option.bind_some, findAccount_of_mem hs.nodup he] at hhold
  exact holdOf_eq_none_iff.1 hhold

theorem Change.attached_kept {s t : State} (h : Change s t) (hs : AccountsInStep s) :
    Attached t.basketTable.baskets t.accounts.entries := by
  obtain ⟨hbs, hcs, hatt⟩ := id hs
  have hmap {n : Nat} {f : Basket → Basket} (hf : ∀ b, findBasket n s = some b → (f b).number = b.number
      ∧ (f b).account = b.account ∧ (Attached.Holds s.accounts.entries b → (f b).state ≠ .parked ∧ (f b).lane = b.lane)) :
      Attached (mapBasket n f s).basketTable.baskets s.accounts.entries := by
    refine hatt.mapBaskets fun b hb => ?_
    split
    · rename_i hn
      exact hf b (hn ▸ findBasket_of_mem hbs.nodup hb)
    · exact ⟨rfl, rfl, fun hheld => ⟨hheld.1, rfl⟩⟩
  cases h with
  | opened l => exact hatt.addBasket rfl
  | tended n f hf =>
    refine hmap fun b _ => ?_
    obtain ⟨coupons, count, hb⟩ := hf b
    rw [hb]
    exact ⟨rfl, rfl, fun hheld => ⟨hheld.1, rfl⟩⟩
  | raised ns =>
    refine hatt.mapBaskets fun b _ => ?_
    split
    · rcases raised_cases b with ⟨-, h⟩ | ⟨-, h⟩ <;> rw [h]
      · exact ⟨rfl, rfl, fun _ => ⟨by simp, rfl⟩⟩
      · exact ⟨rfl, rfl, fun hheld => ⟨hheld.1, rfl⟩⟩
    · exact ⟨rfl, rfl, fun hheld => ⟨hheld.1, rfl⟩⟩
  | keyed b x r =>
    refine hatt.mapBaskets fun b _ => ?_
    split
    · rcases raised_cases { b with keyingCount := b.keyingCount + 1 } with ⟨-, h⟩ | ⟨-, h⟩ <;> rw [h]
      · exact ⟨rfl, rfl, fun _ => ⟨by simp, rfl⟩⟩
      · exact ⟨rfl, rfl, fun hheld => ⟨hheld.1, rfl⟩⟩
    · exact ⟨rfl, rfl, fun hheld => ⟨hheld.1, rfl⟩⟩
  | totalling n h b hb hopen => exact hmap fun c _ => ⟨rfl, rfl, fun _ => ⟨by simp, rfl⟩⟩
  | parked n l timer b hb hl hstate hrecords hhold hroom =>
    refine hmap (f := parkBasket s.calendar.now timer) fun c hc => ⟨rfl, rfl, ?_⟩
    rintro ⟨-, e, he, hce, x, hx, hxc⟩
    cases hb.symm.trans hc
    exact absurd hxc (no_hold_of_basketHold hcs hce hhold e he rfl x hx)
  | recalled n l b hb hn =>
    refine hmap (f := recallBasket l) fun c hc => ⟨rfl, rfl, fun hheld => ?_⟩
    cases hb.symm.trans hc
    exact absurd ((hbs.parked_iff b (findBasket_mem hb)).2 (findBasket_number hb ▸ hn)) hheld.1
  | attached n a b e hb hparked hnone he =>
    obtain rfl := findBasket_number hb
    simp only [mapBasket_baskets, mapBasket_accounts, addReference_basketTable, addReference_entries]
    exact hatt.attach hbs.nodup (findBasket_mem hb) hnone ⟨e, findAccount_mem he, findAccount_number he⟩
  | detached n a b hb ha hhold =>
    obtain rfl := findBasket_number hb
    simp only [mapBasket_baskets, mapBasket_accounts, dropReference_basketTable, dropReference_entries]
    exact hatt.detach hbs.nodup (findBasket_mem hb) ha (no_hold_of_basketHold hcs ha hhold)
  | created e hnew hholds hrefs => exact hatt.addEntry (hatt.account_ne (findAccount_eq_none.1 hnew)) hrefs hholds
  | createdEvicting e old rest hnew hholds hrefs hbalance hidle =>
    obtain ⟨c, hc, rfl, hzero⟩ := (hcs.idle_iff old).1 (hidle ▸ List.mem_cons_self)
    exact (hatt.dropEntry hc hzero).addEntry (hatt.account_ne (findAccount_eq_none.1 hnew)) hrefs hholds
  | refreshed e tier flags balance =>
    refine hatt.mapEntries fun c hc => ?_
    split <;> exact ⟨rfl, rfl, hatt.stands c hc⟩
  | evicted e he hrefs => exact hatt.dropEntry (findAccount_mem he) hrefs
  | held n l points b e hb hparked hl ha he hpoints hroom =>
    obtain rfl := findBasket_number hb
    rw [placeHold_eq]
    refine hatt.mapEntries fun c hc => ?_
    split
    · rename_i hce
      refine ⟨rfl, rfl, fun x hx => ?_⟩
      rcases mem_holdsAfter hx with ⟨y, hy, hyx, hyl⟩ | ⟨hxb, hxl⟩
      · obtain ⟨d, hd, hdy, hp, hda, hdl⟩ := hatt.stands c hc y hy
        exact ⟨d, hd, hdy.trans hyx, hp, hda, hyl ▸ hdl⟩
      · exact ⟨b, findBasket_mem hb, hxb.symm, hparked, hce ▸ ha, hxl ▸ hl⟩
    · exact ⟨rfl, rfl, hatt.stands c hc⟩
  | holdRemoved n a => exact hatt.removeHold a n
  | cancelled b hb =>
    rw [cancelBasket_accounts, cancelBasket_basketTable]
    exact dropAccount_attached (s := removeRecords b.number (cancelEvaluation b.number s)) ⟨hbs, hcs, hatt⟩ hb
  | expired b hb =>
    rw [cancelBasket_accounts, cancelBasket_basketTable]
    exact dropAccount_attached (s := removeRecords b.number s) ⟨hbs, hcs, hatt⟩ hb
  | admitted r rest b _ hb =>
    rw [cancelBasket_accounts, cancelBasket_basketTable]
    exact dropAccount_attached
      (s := removeRecords b.number (s.withSettlement { journal := rest, waiting := s.settlement.waiting - 1 }))
      ⟨hbs, hcs, hatt⟩ (findBasket_firstExpired hb).1
  | settled l earned b r hb =>
    simpa [withSettled, freeBasket_basketTable] using commitAccount_attached hs hb (heldPoints b s) earned
  | restarted => exact ⟨fun b hb => (by cases hb), fun e he => (by cases he), fun e he => (by cases he)⟩
  | requantified n | lineAdded n | lineVoided n | markedExpired n =>
    exact hmap fun _ _ => ⟨rfl, rfl, fun hheld => ⟨hheld.1, rfl⟩⟩
  | _ => simpa [withTakenBack, clearCounts, removeRecord, mapRecord, mapLane] using hatt

/-! ### Every step -/

theorem Change.accountsInStep {s t : State} (h : Change s t) (hs : AccountsInStep s) : AccountsInStep t :=
  ⟨h.agrees hs.baskets, h.covered hs.covered, h.attached_kept hs⟩

/-- The completion of an evaluation changes no account, and no number, account or lane of a basket. -/
theorem evaluationCompletion_attached (i : Nat) {s : State} (hs : Attached s.basketTable.baskets s.accounts.entries) :
    Attached (evaluationCompletion i s).state.basketTable.baskets (evaluationCompletion i s).state.accounts.entries := by
  rcases evaluationCompletion_cases i s with h | ⟨u, -, h | ⟨-, b, -, h | h⟩⟩ <;> rw [h]
  · exact hs
  · simpa using hs
  · rw [unitTakes_basketTable, unitTakes_accounts]
    refine hs.mapBaskets fun c _ => ?_
    split
    · exact ⟨rfl, rfl, fun _ => ⟨by simp [installed], rfl⟩⟩
    · exact ⟨rfl, rfl, fun hheld => ⟨hheld.1, rfl⟩⟩
  · simpa using hs

theorem TimersRun.attached {s t : State} (h : TimersRun s t) (hs : Attached s.basketTable.baskets s.accounts.entries) :
    Attached t.basketTable.baskets t.accounts.entries := by
  obtain ⟨f, hbaskets, hf⟩ := h.baskets
  obtain ⟨g, haccounts, hg⟩ := h.accounts
  rw [hbaskets, haccounts]
  refine (hs.mapBaskets (f := f) fun b _ => ?_).mapEntries fun e he => ?_
  · obtain ⟨k, hk, -⟩ := hf b
    rw [hk]
    exact ⟨rfl, rfl, fun hheld => ⟨hheld.1, rfl⟩⟩
  · refine ⟨rfl, rfl, fun x hx => ?_⟩
    obtain ⟨y, hy, rfl⟩ := List.mem_map.1 hx
    obtain ⟨b, hb, hby, hp, ha, hl⟩ := hs.stands e he y hy
    obtain ⟨k, hk, -⟩ := hf b
    obtain ⟨m, hm⟩ := hg y
    refine ⟨f b, List.mem_map_of_mem hb, ?_⟩
    rw [hk, hm]
    exact ⟨hby, hp, ha, hl⟩

/-- The effect of a command keeps accounts and baskets in agreement: it is a chain of changes, but for the completion of
an evaluation. -/
theorem runOf_attached (c : Instr) {s : State} (hs : AccountsInStep s) :
    Attached (runOf c s).state.basketTable.baskets (runOf c s).state.accounts.entries := by
  by_cases hc : ∃ i, c = .evaluationCompletion i
  · obtain ⟨i, rfl⟩ := hc
    exact evaluationCompletion_attached i hs.attached
  · exact ((runOf_changes (fun i hi => hc ⟨i, hi⟩) s).keep (fun _ _ hs h => h.accountsInStep hs) hs).attached

theorem step_attached {s t : State} (hs : AccountsInStep s) (h : step s = .next t) :
    Attached t.basketTable.baskets t.accounts.entries :=
  step_yields (P := AccountsInStep) (Q := fun s => Attached s.basketTable.baskets s.accounts.entries)
    (fun _ hs => hs.attached) (fun _ _ hs => ⟨hs.baskets, hs.covered, hs.attached⟩) (fun _ _ => id)
    (fun c _ hs => runOf_attached c hs) (fun c s hs => (runOut_timersRun c s).attached hs.attached)
    (fun _ _ _ _ => ⟨fun b hb => (by cases hb), fun e he => (by cases he), fun e he => (by cases he)⟩)
    (fun _ _ hs => ⟨hs.baskets, hs.covered, hs.attached⟩) (fun s hs => (tick_timersRun s).attached hs.attached) hs h

/-- Settles O58: each change keeps the account table and the desks' counts, and with the baskets in agreement the
references and holds; with them every step does. -/
theorem stepsKeepAccountsAndDesks : Obligations.StepsKeepAccountsAndDesks := by
  intro s t h
  refine ⟨fun hs => accountsCovered_iff.2 (step_covered (accountsCovered_iff.1 hs) h), fun hs => step_desksAgree hs h,
    fun hb hc ha => accountsAttached_iff.2 (step_attached ?_ h)⟩
  exact ⟨basketsAgree_iff.1 hb, accountsCovered_iff.1 hc, accountsAttached_iff.1 ha⟩

end Sys2Proof.Machine
end

section
/-! What one line offer does to the units of a basket (O52). -/

namespace Sys2Proof.Machine

/-! ### The units in unit order (R84) -/

theorem numberUnits_getElem? (k : Nat) (us : List WorkUnit) (i : Nat) :
    (numberUnits k us)[i]? = (us[i]?).map fun u => { u with index := k + i } := by
  induction us generalizing k i with
  | nil => rfl
  | cons u rest ih =>
    cases i with
    | zero => rfl
    | succ i => simp [numberUnits, ih, Nat.add_right_comm k 1 i, Nat.add_assoc]

theorem numberUnits_map_zero (k : Nat) (us : List WorkUnit) :
    ((numberUnits k us).map fun u => { u with index := 0 }) = us.map fun u => { u with index := 0 } := by
  induction us generalizing k with
  | nil => rfl
  | cons u rest ih => simp [numberUnits, ih]

/-- Each unit bears the number of its place. -/
def Numbered (us : List WorkUnit) : Prop := ∀ (i : Nat) (u : WorkUnit), us[i]? = some u → u.index = i

theorem unitsOf_numbered (snap : Snapshot) : Numbered (unitsOf snap) := by
  intro i u hu
  rw [unitsOf, numberUnits_getElem?] at hu
  obtain ⟨v, -, rfl⟩ := Option.map_eq_some_iff.1 hu
  exact Nat.zero_add i

theorem overrideFor_isNone (snap : Snapshot) (n : Nat) :
    (overrideFor snap n).isNone = decide (∀ o ∈ snap.overrides, o.line ≠ n) := by
  rw [overrideFor, Bool.eq_iff_iff]
  simp

/-- Numbered units are told apart by their numbers. -/
theorem Numbered.eq_of_index {us : List WorkUnit} (h : Numbered us) {u v : WorkUnit} (hu : u ∈ us) (hv : v ∈ us)
    (heq : u.index = v.index) : u = v := by
  obtain ⟨i, hi⟩ := List.mem_iff_getElem?.1 hu
  obtain ⟨j, hj⟩ := List.mem_iff_getElem?.1 hv
  have hij : i = j := (h i u hi).symm.trans (heq.trans (h j v hj))
  exact Option.some.inj (hi.symm.trans (hij ▸ hj))

theorem Numbered.pairwise {us : List WorkUnit} (h : Numbered us) : us.Pairwise fun x y => x.index < y.index := by
  rw [List.pairwise_iff_getElem]
  intro i j hi hj hij
  rwa [h i _ (List.getElem?_eq_getElem hi), h j _ (List.getElem?_eq_getElem hj)]

/-! ### Which units an offer reaches (R85) -/

theorem reaches_iff (w : Working) (r : OfferRecord) (kind : OfferKind) (u : WorkUnit) :
    reaches w r kind u = true ↔ u.eligible = true ∧ (r.group = 0 ∨ u.group = r.group)
      ∧ (w.reductions.filter fun p => decide (p.1 = u.line)).length < 4 ∧ (u.measured = true → kind = .unitCut) := by
  have hopen : (!lineClosed w u.line) = true ↔
      (w.reductions.filter fun p => decide (p.1 = u.line)).length < 4 := by
    rw [lineClosed, Bool.not_eq_true', decide_eq_false_iff_not]
    exact Nat.not_le
  have hmeasured : (!u.measured || decide (kind = .unitCut)) = true ↔ (u.measured = true → kind = .unitCut) := by
    cases u.measured <;> simp
  rw [reaches, Bool.and_eq_true, Bool.and_eq_true, Bool.and_eq_true, hopen, hmeasured, Bool.or_eq_true,
    decide_eq_true_eq, decide_eq_true_eq, and_assoc, and_assoc]

/-! ### Units cut one by one (R88, R89) -/

/-- A unit as an offer cuts it. -/
def cutUnit (claim : Bool) (r : OfferRecord) (u : WorkUnit) : WorkUnit :=
  { u with net := u.net - unitReduction r u.net, claimed := u.claimed || claim }

/-- The budget has a place left after `n` units. -/
def Within (budget : Option Nat) (n : Nat) : Prop := ∀ k, budget = some k → n < k

section cut

variable (pick : WorkUnit → Bool) (claim : Bool) (r : OfferRecord)

theorem cutUnits_spent (us : List WorkUnit) : cutUnits pick claim r (some 0) us = (us, 0) := by
  cases us <;> rfl

theorem cutUnits_pick {budget : Option Nat} (hb : budget ≠ some 0) {u : WorkUnit} (hu : pick u = true)
    (rest : List WorkUnit) :
    cutUnits pick claim r budget (u :: rest) =
      (cutUnit claim r u :: (cutUnits pick claim r (budget.map fun k => k - 1) rest).1,
        (cutUnits pick claim r (budget.map fun k => k - 1) rest).2 + 1) := by
  rw [cutUnits.eq_3 _ _ _ _ _ _ (fun h => hb h), if_pos hu]
  rfl

theorem cutUnits_pass (budget : Option Nat) {u : WorkUnit} (hu : pick u = false) (rest : List WorkUnit) :
    cutUnits pick claim r budget (u :: rest) =
      (u :: (cutUnits pick claim r budget rest).1, (cutUnits pick claim r budget rest).2) := by
  by_cases hb : budget = some 0
  · rw [hb, cutUnits_spent, cutUnits_spent]
  · rw [cutUnits.eq_3 _ _ _ _ _ _ (fun h => hb h), hu]
    rfl

theorem cutUnits_length (budget : Option Nat) (us : List WorkUnit) :
    (cutUnits pick claim r budget us).1.length = us.length := by
  induction us generalizing budget with
  | nil => cases budget <;> rfl
  | cons u rest ih =>
    by_cases hb : budget = some 0
    · rw [hb, cutUnits_spent]
    · cases hu : pick u
      · rw [cutUnits_pass _ _ _ _ hu]
        exact congrArg Nat.succ (ih budget)
      · rw [cutUnits_pick _ _ _ hb hu]
        exact congrArg Nat.succ (ih _)

/-- How many units are acted on. -/
theorem cutUnits_count (budget : Option Nat) (us : List WorkUnit) :
    (cutUnits pick claim r budget us).2 =
      match budget with
      | none => (us.filter pick).length
      | some k => min k (us.filter pick).length := by
  induction us generalizing budget with
  | nil => cases budget <;> simp [cutUnits]
  | cons u rest ih =>
    by_cases hb : budget = some 0
    · rw [hb, cutUnits_spent]
      simp
    · cases hu : pick u
      · rw [cutUnits_pass _ _ _ _ hu, List.filter_cons_of_neg (by simp [hu])]
        exact ih budget
      · rw [cutUnits_pick _ _ _ hb hu, List.filter_cons_of_pos hu]
        simp only [ih]
        cases budget with
        | none => rfl
        | some k =>
          have hk : k ≠ 0 := fun h => hb (h ▸ rfl)
          simp only [Option.map_some, List.length_cons]
          omega

/-- What becomes of the unit at a place: it is cut when picked within the budget. -/
theorem cutUnits_getElem? (budget : Option Nat) {us : List WorkUnit} {i : Nat} {u : WorkUnit} (hu : us[i]? = some u) :
    (pick u = true ∧ Within budget ((us.take i).filter pick).length →
      (cutUnits pick claim r budget us).1[i]? = some (cutUnit claim r u))
    ∧ (¬ (pick u = true ∧ Within budget ((us.take i).filter pick).length) →
      (cutUnits pick claim r budget us).1[i]? = some u) := by
  induction us generalizing budget i with
  | nil => cases hu
  | cons v rest ih =>
    by_cases hb : budget = some 0
    · have hnot (n : Nat) : ¬ Within budget n := fun h => absurd (h 0 hb) (Nat.not_lt_zero n)
      rw [hb, cutUnits_spent, ← hb]
      exact ⟨fun h => absurd h.2 (hnot _), fun _ => hu⟩
    · cases i with
      | zero =>
        obtain rfl : v = u := Option.some.inj hu
        have hroom : Within budget 0 := fun k hk => Nat.pos_of_ne_zero fun h => hb (hk.trans (congrArg some h))
        cases hp : pick v
        · rw [cutUnits_pass _ _ _ _ hp]
          exact ⟨fun h => absurd h.1 (by simp), fun _ => rfl⟩
        · rw [cutUnits_pick _ _ _ hb hp]
          exact ⟨fun _ => rfl, fun h => absurd ⟨rfl, hroom⟩ h⟩
      | succ i =>
        cases hp : pick v
        · rw [cutUnits_pass _ _ _ _ hp, List.take_succ_cons, List.filter_cons_of_neg (by simp [hp])]
          exact ih budget hu
        · rw [cutUnits_pick _ _ _ hb hp, List.take_succ_cons, List.filter_cons_of_pos hp]
          have hone : Within budget (((rest.take i).filter pick).length + 1) ↔
              Within (budget.map fun k => k - 1) ((rest.take i).filter pick).length := by
            cases budget with
            | none => exact ⟨fun _ k hk => (by cases hk), fun _ k hk => (by cases hk)⟩
            | some k => simp only [Within, Option.map_some, Option.some.injEq, forall_eq', Nat.lt_sub_iff_add_lt]
          have hnext := ih (budget.map fun k => k - 1) hu
          rw [← hone] at hnext
          exact hnext

end cut

theorem limitOf_within (r : OfferRecord) (n : Nat) : Within (limitOf r) n ↔ r.limit = 0 ∨ n < r.limit := by
  unfold Within limitOf
  by_cases h : r.limit = 0 <;> simp [h]

/-! ### UNIT_CUT and QUANTITY_BREAK (R88, R89) -/

/-- The units that a UNIT_CUT or a QUANTITY_BREAK acts on: those it reaches and that are free in the exclusive pass, not
at 0 in the stackable one. -/
def pickedUnit (w : Working) (r : OfferRecord) (kind : OfferKind) (u : WorkUnit) : Bool :=
  reaches w r kind u && (if r.stacking = 0 then !u.claimed else decide (u.net ≠ 0))

/-- The units that count towards a QUANTITY_BREAK's threshold. -/
def countedUnit (w : Working) (r : OfferRecord) (kind : OfferKind) (u : WorkUnit) : Bool :=
  reaches w r kind u && (decide (r.stacking ≠ 0) || !u.claimed)

theorem pickedUnit_iff (w : Working) (r : OfferRecord) (kind : OfferKind) (u : WorkUnit) :
    pickedUnit w r kind u = true ↔
      reaches w r kind u = true ∧ (if r.stacking = 0 then u.claimed = false else u.net ≠ 0) := by
  rw [pickedUnit, Bool.and_eq_true]
  split <;> simp

theorem applyToUnits_unitCut (w : Working) (c : Candidate) : applyToUnits w c .unitCut =
    cutUnits (pickedUnit w c.record .unitCut) (decide (c.record.stacking = 0)) c.record (limitOf c.record) w.units := by
  unfold applyToUnits pickedUnit
  by_cases h : c.record.stacking = 0 <;> simp [h]

theorem applyToUnits_quantityBreak (w : Working) (c : Candidate) : applyToUnits w c .quantityBreak =
    if (w.units.filter (countedUnit w c.record .quantityBreak)).length < c.record.threshold then (w.units, 0)
    else cutUnits (pickedUnit w c.record .quantityBreak) (decide (c.record.stacking = 0)) c.record (limitOf c.record)
      w.units := by
  unfold applyToUnits pickedUnit countedUnit
  by_cases h : c.record.stacking = 0 <;> simp [h]

/-! ### MULTI_BUY (R90) -/

theorem insertByShelf_perm (u : WorkUnit) (us : List WorkUnit) : (insertByShelf u us).Perm (u :: us) := by
  induction us with
  | nil => exact .refl _
  | cons v rest ih =>
    unfold insertByShelf
    split
    · exact .refl _
    · exact (ih.cons v).trans (.swap u v rest)

theorem byShelf_perm (us : List WorkUnit) : (byShelf us).Perm us := by
  induction us with
  | nil => exact .refl _
  | cons u rest ih => exact (insertByShelf_perm u _).trans (ih.cons u)

/-- The order of R90: the higher shelf price first, equals in unit order. -/
def BeforeByShelf (x y : WorkUnit) : Prop := y.shelf < x.shelf ∨ x.shelf = y.shelf ∧ x.index < y.index

theorem insertByShelf_pairwise {u : WorkUnit} {us : List WorkUnit} (hus : us.Pairwise BeforeByShelf)
    (hu : ∀ v ∈ us, u.index < v.index) : (insertByShelf u us).Pairwise BeforeByShelf := by
  induction us with
  | nil => exact List.pairwise_singleton ..
  | cons v rest ih =>
    obtain ⟨hv, hrest⟩ := List.pairwise_cons.1 hus
    unfold insertByShelf
    split
    · rename_i hle
      refine List.pairwise_cons.2 ⟨fun x hx => ?_, hus⟩
      have hindex := hu x hx
      have hshelf : x.shelf ≤ v.shelf := by
        rcases List.mem_cons.1 hx with rfl | hx
        · exact Nat.le_refl _
        · rcases hv x hx with h | h
          · exact h.le
          · exact h.1.ge
      rcases (hshelf.trans hle).lt_or_eq with h | h
      · exact .inl h
      · exact .inr ⟨h.symm, hindex⟩
    · rename_i hlt
      refine List.pairwise_cons.2 ⟨fun x hx => ?_, ih hrest fun x hx => hu x (List.mem_cons_of_mem _ hx)⟩
      rcases List.mem_cons.1 ((insertByShelf_perm u rest).mem_iff.1 hx) with rfl | hx
      · exact .inl (Nat.lt_of_not_le hlt)
      · exact hv x hx

theorem byShelf_pairwise {us : List WorkUnit} (hus : us.Pairwise fun x y => x.index < y.index) :
    (byShelf us).Pairwise BeforeByShelf := by
  induction us with
  | nil => exact .nil
  | cons u rest ih =>
    obtain ⟨hu, hrest⟩ := List.pairwise_cons.1 hus
    exact insertByShelf_pairwise (ih hrest) fun v hv => hu v ((byShelf_perm rest).mem_iff.1 hv)

/-- The free units that a MULTI_BUY reaches, in the order of R90. -/
def orderedUnits (w : Working) (r : OfferRecord) : List WorkUnit :=
  byShelf (w.units.filter fun u => reaches w r .multiBuy u && !u.claimed)

theorem setsCut_eq (r : OfferRecord) (n : Nat) :
    setsCut r n = if r.limit = 0 then n / r.buy else min (n / r.buy) r.limit := by
  unfold setsCut limitOf
  by_cases h : r.limit = 0 <;> simp [h]

theorem applyToUnits_multiBuy (w : Working) (c : Candidate) : applyToUnits w c .multiBuy =
    (cutSets c.record
      (((orderedUnits w c.record).take (setsCut c.record (orderedUnits w c.record).length * c.record.buy)).map
        WorkUnit.index) w.units,
      setsCut c.record (orderedUnits w c.record).length) := rfl

theorem orderedUnits_mem {w : Working} {r : OfferRecord} {u : WorkUnit} (hu : u ∈ orderedUnits w r) : u ∈ w.units :=
  List.mem_of_mem_filter ((byShelf_perm _).mem_iff.1 hu)

theorem orderedUnits_pairwise {w : Working} (hw : Numbered w.units) (r : OfferRecord) :
    (orderedUnits w r).Pairwise BeforeByShelf :=
  byShelf_pairwise (hw.pairwise.sublist List.filter_sublist)

/-- The place of a unit among those cut to the sets. -/
theorem positionOf_ordered {w : Working} (hw : Numbered w.units) (r : OfferRecord) {u : WorkUnit} (hu : u ∈ w.units)
    (k : Nat) :
    (∀ j, j < k → (orderedUnits w r)[j]? = some u →
      positionOf u.index (((orderedUnits w r).take k).map WorkUnit.index) = some j)
    ∧ ((∀ j, j < k → (orderedUnits w r)[j]? ≠ some u) →
      positionOf u.index (((orderedUnits w r).take k).map WorkUnit.index) = none) := by
  have hnodup : (orderedUnits w r).Nodup := (orderedUnits_pairwise hw r).imp fun {x y} h heq => by
    subst heq
    rcases h with h | h
    · exact Nat.lt_irrefl _ h
    · exact Nat.lt_irrefl _ h.2
  have hget (j : Nat) (hj : j < k) : (((orderedUnits w r).take k).map WorkUnit.index)[j]?
      = ((orderedUnits w r)[j]?).map WorkUnit.index := by
    rw [List.getElem?_map, List.getElem?_take_of_lt hj]
  constructor
  · intro j hj hju
    refine positionOf_eq_some (by rw [hget j hj, hju]; rfl) fun i hi hiu => ?_
    rw [hget i (hi.trans hj)] at hiu
    obtain ⟨v, hv, hvu⟩ := Option.map_eq_some_iff.1 hiu
    obtain rfl := hw.eq_of_index (orderedUnits_mem (List.mem_of_getElem? hv)) hu hvu
    have hlen : i < (orderedUnits w r).length := (List.getElem?_eq_some_iff.1 hv).1
    exact absurd ((List.getElem?_inj hlen hnodup).1 (hv.trans hju.symm)) (Nat.ne_of_lt hi)
  · intro hnone
    refine positionOf_eq_none fun hm => ?_
    obtain ⟨v, hv, hvu⟩ := List.mem_map.1 hm
    obtain rfl := hw.eq_of_index (orderedUnits_mem (List.mem_of_mem_take hv)) hu hvu
    obtain ⟨j, hj⟩ := List.mem_iff_getElem?.1 hv
    rw [List.getElem?_take] at hj
    split at hj
    · exact hnone j (by assumption) hj
    · cases hj

/-- Settles O52: the cases are the steps of a line offer, each from the lemma about the function that takes it. -/
theorem lineOfferRule : Obligations.LineOfferRule := by
  refine ⟨fun r net => ?reduction, fun snap => ⟨unitsOf_numbered snap, ?units⟩, reaches_iff, ?cut, ?sets⟩
  case reduction =>
    exact ⟨fun h => by simp [unitReduction, h], fun h => by simp [unitReduction, h]⟩
  case units =>
    rw [unitsOf, numberUnits_map_zero, List.map_flatMap]
    simp [lineUnits, lineEligible, overrideFor_isNone]
  case cut =>
    rintro w c kind r picked enough rfl hkind hpicked henough
    obtain rfl : picked = pickedUnit w c.record kind := funext fun u => by
      rw [Bool.eq_iff_iff, hpicked, pickedUnit_iff]
    have hcut : (¬ enough → applyToUnits w c kind = (w.units, 0))
        ∧ (enough → applyToUnits w c kind = cutUnits (pickedUnit w c.record kind)
          (decide (c.record.stacking = 0)) c.record (limitOf c.record) w.units) := by
      rcases hkind with rfl | rfl
      · exact ⟨fun h => absurd (henough.2 (.inl rfl)) h, fun _ => applyToUnits_unitCut w c⟩
      · rw [applyToUnits_quantityBreak]
        have hiff : enough ↔ ¬ (w.units.filter (countedUnit w c.record .quantityBreak)).length < c.record.threshold := by
          rw [henough, Nat.not_lt]
          simp only [reduceCtorEq, false_or]
          exact Iff.rfl
        exact ⟨fun h => if_pos (Classical.not_not.1 (hiff.not.1 h)), fun h => if_neg (hiff.1 h)⟩
    refine ⟨hcut.1, fun h => ?_⟩
    rw [hcut.2 h]
    refine ⟨?_, cutUnits_length .., fun i u hu => ?_⟩
    · rw [cutUnits_count]
      unfold limitOf
      by_cases hl : c.record.limit = 0 <;> simp [hl]
    · obtain ⟨hyes, hno⟩ := cutUnits_getElem? (pickedUnit w c.record kind) (decide (c.record.stacking = 0)) c.record
        (limitOf c.record) hu
      rw [limitOf_within] at hyes hno
      split
      · exact hyes (by assumption)
      · exact hno (by assumption)
  case sets =>
    rintro w c r rfl hbuy hw
    refine ⟨orderedUnits w c.record, setsCut c.record (orderedUnits w c.record).length, byShelf_perm _,
      orderedUnits_pairwise hw c.record, setsCut_eq .., rfl, by simp [applyToUnits_multiBuy, cutSets], fun i u hu => ?_⟩
    obtain ⟨hin, hout⟩ := positionOf_ordered hw c.record (List.mem_of_getElem? hu)
      (setsCut c.record (orderedUnits w c.record).length * c.record.buy)
    rw [applyToUnits_multiBuy, cutSets, List.getElem?_map, hu]
    refine ⟨fun j hj hju => ?_, fun hnone => ?_⟩
    · simp only [Option.map_some, hin j hj hju]
      split <;> rfl
    · simp only [Option.map_some, hout hnone]

end Sys2Proof.Machine
end

section
/-! The identity of the plan (O54): each line offer takes from the units what it enters as reductions, and each coupon
takes from the payable what it enters. -/

namespace Sys2Proof.Machine

theorem foldl_keeps {α β : Type} {P : β → Prop} {f : β → α → β} (hf : ∀ b a, P b → P (f b a)) {b : β} (hb : P b)
    (xs : List α) : P (xs.foldl f b) := by
  induction xs generalizing b with
  | nil => exact hb
  | cons a rest ih => exact ih (hf b a hb)

theorem getElem?_of_forall₂ {α β : Type} {R : α → β → Prop} {xs : List α} {ys : List β} (h : List.Forall₂ R xs ys)
    {i : Nat} {y : β} (hy : ys[i]? = some y) : ∃ x, xs[i]? = some x ∧ R x y := by
  induction h generalizing i with
  | nil => cases hy
  | cons hxy _ ih =>
    cases i with
    | zero => exact ⟨_, rfl, Option.some.inj hy ▸ hxy⟩
    | succ i => exact ih hy

/-! ### Units lowered -/

/-- A unit that keeps all but its net and its claim. -/
def SameUnit (u v : WorkUnit) : Prop := v = { u with net := v.net, claimed := v.claimed }

/-- A unit lowered, at most where `reach` holds. -/
def Lowers (reach : WorkUnit → Bool) (u v : WorkUnit) : Prop :=
  SameUnit u v ∧ v.net ≤ u.net ∧ (reach u = false → v.net = u.net)

theorem Lowers.refl {reach : WorkUnit → Bool} (u : WorkUnit) : Lowers reach u u := ⟨rfl, Nat.le_refl _, fun _ => rfl⟩

theorem lowers_self {reach : WorkUnit → Bool} (us : List WorkUnit) : List.Forall₂ (Lowers reach) us us :=
  List.forall₂_same.2 fun u _ => .refl u

theorem cutUnits_lowers {reach pick : WorkUnit → Bool} (hpick : ∀ u, pick u = true → reach u = true) (claim : Bool)
    (r : OfferRecord) (budget : Option Nat) (us : List WorkUnit) :
    List.Forall₂ (Lowers reach) us (cutUnits pick claim r budget us).1 := by
  induction us generalizing budget with
  | nil => cases budget <;> exact .nil
  | cons u rest ih =>
    by_cases hb : budget = some 0
    · rw [hb, cutUnits_spent]
      exact lowers_self _
    · cases hu : pick u
      · rw [cutUnits_pass _ _ _ _ hu]
        exact .cons (.refl u) (ih budget)
      · rw [cutUnits_pick _ _ _ hb hu]
        exact .cons ⟨rfl, Nat.sub_le .., fun h => absurd (hpick u hu) (by simp [h])⟩ (ih _)

theorem cutSets_lowers {reach : WorkUnit → Bool} (r : OfferRecord) {order : List Nat} {us : List WorkUnit}
    (hus : ∀ u ∈ us, u.index ∈ order → reach u = true) : List.Forall₂ (Lowers reach) us (cutSets r order us) := by
  rw [cutSets, List.forall₂_map_right_iff]
  refine List.forall₂_same.2 fun u hu => ?_
  cases hp : positionOf u.index order with
  | none => exact .refl u
  | some i =>
    have hreach : reach u = true := hus u hu (Classical.not_not.1 fun hn => by
      rw [positionOf_eq_none hn] at hp
      cases hp)
    dsimp only
    split
    · exact ⟨rfl, Nat.zero_le _, fun h => absurd hreach (by simp [h])⟩
    · exact ⟨rfl, Nat.le_refl _, fun _ => rfl⟩

/-- A line offer lowers at most the units it reaches (R85). -/
theorem applyToUnits_lowers {w : Working} (hw : Numbered w.units) (c : Candidate) (kind : OfferKind) :
    List.Forall₂ (Lowers (reaches w c.record kind)) w.units (applyToUnits w c kind).1 := by
  have hpicked : ∀ k u, pickedUnit w c.record k u = true → reaches w c.record k u = true :=
    fun k u hu => ((pickedUnit_iff w c.record k u).1 hu).1
  cases kind with
  | unitCut =>
    rw [applyToUnits_unitCut]
    exact cutUnits_lowers (hpicked _) ..
  | quantityBreak =>
    rw [applyToUnits_quantityBreak]
    split
    · exact lowers_self _
    · exact cutUnits_lowers (hpicked _) ..
  | multiBuy =>
    rw [applyToUnits_multiBuy]
    refine cutSets_lowers _ fun u hu hm => ?_
    obtain ⟨v, hv, hvu⟩ := List.mem_map.1 hm
    have hvm := List.mem_of_mem_take hv
    obtain rfl := hw.eq_of_index (orderedUnits_mem hvm) hu hvu
    have hfree := (List.mem_filter.1 ((byShelf_perm _).mem_iff.1 hvm)).2
    exact (Bool.and_eq_true_iff.1 hfree).1
  | basketCoupon => exact lowers_self _
  | pointsBoost => exact lowers_self _

/-! ### The net of a line -/

theorem unitsNet_cons (u : WorkUnit) (us : List WorkUnit) (n : Nat) :
    unitsNet (u :: us) n = (if u.line = n then u.net else 0) + unitsNet us n := by
  by_cases h : u.line = n <;> simp [unitsNet, h]

theorem SameUnit.line {u v : WorkUnit} (h : SameUnit u v) : v.line = u.line := by rw [h]

theorem unitsNet_le {reach : WorkUnit → Bool} {us vs : List WorkUnit} (h : List.Forall₂ (Lowers reach) us vs) (n : Nat) :
    unitsNet vs n ≤ unitsNet us n := by
  induction h with
  | nil => exact Nat.le_refl _
  | cons huv _ ih =>
    rw [unitsNet_cons, unitsNet_cons, huv.1.line]
    split
    · exact Nat.add_le_add huv.2.1 ih
    · exact Nat.add_le_add (Nat.le_refl _) ih

theorem unitsNet_eq {reach : WorkUnit → Bool} {us vs : List WorkUnit} (h : List.Forall₂ (Lowers reach) us vs) {n : Nat}
    (hn : ∀ u ∈ us, u.line = n → reach u = false) : unitsNet vs n = unitsNet us n := by
  induction h with
  | nil => rfl
  | cons huv _ ih =>
    rw [unitsNet_cons, unitsNet_cons, huv.1.line, ih fun u hu => hn u (List.mem_cons_of_mem _ hu)]
    split
    · rw [huv.2.2 (hn _ List.mem_cons_self (by assumption))]
    · rfl

theorem unitsNet_append (us vs : List WorkUnit) (n : Nat) : unitsNet (us ++ vs) n = unitsNet us n + unitsNet vs n := by
  simp [unitsNet]

theorem unitsNet_numberUnits (k : Nat) (us : List WorkUnit) (n : Nat) : unitsNet (numberUnits k us) n = unitsNet us n := by
  induction us generalizing k with
  | nil => rfl
  | cons u rest ih => rw [numberUnits, unitsNet_cons, unitsNet_cons, ih]

theorem unitsNet_lineUnits (snap : Snapshot) (l : Line) (n : Nat) :
    unitsNet (lineUnits snap l) n = if l.number = n then l.extended else 0 := by
  rw [lineUnits, unitsNet]
  by_cases h : l.number = n
  · rw [if_pos h, List.filter_replicate_of_pos (by simpa using h), List.map_replicate, List.sum_replicate]
    rfl
  · rw [if_neg h, List.filter_replicate_of_neg (by simpa using h)]
    rfl

/-- The units of a line come to its extended price (R84). -/
theorem unitsNet_unitsOf {snap : Snapshot} (hd : (snap.lines.map Line.number).Nodup) {l : Line} (hl : l ∈ snap.lines) :
    unitsNet (unitsOf snap) l.number = l.extended := by
  have hsum (ls : List Line) (hls : (ls.map Line.number).Nodup) (hm : l ∈ ls) :
      unitsNet (ls.flatMap (lineUnits snap)) l.number = l.extended := by
    induction ls with
    | nil => cases hm
    | cons k rest ih =>
      obtain ⟨hk, hrest⟩ := List.nodup_cons.1 hls
      rw [List.flatMap_cons, unitsNet_append, unitsNet_lineUnits]
      rcases List.mem_cons.1 hm with rfl | hm
      · have hzero : unitsNet (rest.flatMap (lineUnits snap)) l.number = 0 := by
          have hlines : ∀ u ∈ rest.flatMap (lineUnits snap), u.line ≠ l.number := fun u hu hul => by
            obtain ⟨j, hj, hu⟩ := List.mem_flatMap.1 hu
            obtain rfl := (List.eq_of_mem_replicate hu)
            exact hk (hul ▸ List.mem_map_of_mem hj)
          rw [unitsNet, List.filter_eq_nil_iff.2 fun u hu h => hlines u hu (of_decide_eq_true h)]
          rfl
        rw [if_pos rfl, hzero, Nat.add_zero]
      · rw [if_neg fun (hkn : k.number = l.number) => hk (hkn ▸ List.mem_map_of_mem hm), ih hrest hm, Nat.zero_add]
  rw [unitsOf, unitsNet_numberUnits]
  exact hsum snap.lines hd hl

/-- A unit belongs to a line of the snapshot and is eligible with it. -/
def UnitOf (snap : Snapshot) (u : WorkUnit) : Prop :=
  ∃ l ∈ snap.lines, u.line = l.number ∧ u.eligible = lineEligible snap l

theorem unitsOf_unitOf (snap : Snapshot) : ∀ u ∈ unitsOf snap, UnitOf snap u := by
  have hnumber (k : Nat) (us : List WorkUnit) (h : ∀ u ∈ us, UnitOf snap u) : ∀ u ∈ numberUnits k us, UnitOf snap u := by
    induction us generalizing k with
    | nil => exact fun u hu => by cases hu
    | cons v rest ih =>
      intro u hu
      rcases List.mem_cons.1 hu with rfl | hu
      · exact h v List.mem_cons_self
      · exact ih (k + 1) (fun u hu => h u (List.mem_cons_of_mem _ hu)) u hu
  refine hnumber 0 _ fun u hu => ?_
  obtain ⟨l, hl, hu⟩ := List.mem_flatMap.1 hu
  obtain rfl := List.eq_of_mem_replicate hu
  exact ⟨l, hl, rfl, rfl⟩

/-! ### The entries of a line offer (R86) -/

/-- What the entries take off a line. -/
def reducedOn (w : Working) (n : Nat) : Nat := ((w.reductions.filter fun p => decide (p.1 = n)).map fun p => p.2.2).sum

/-- What an application takes off a line. -/
def cutOn (before after : List WorkUnit) (l : Line) : Nat := unitsNet before l.number - unitsNet after l.number

theorem newReductions_sum (snap : Snapshot) (offer : Nat) (before after : List WorkUnit) :
    ((newReductions snap offer before after).map fun p => p.2.2).sum = (snap.lines.map (cutOn before after)).sum := by
  unfold newReductions
  induction snap.lines with
  | nil => rfl
  | cons l rest ih =>
    simp only [List.filterMap_cons, List.map_cons, List.sum_cons, ← ih, cutOn]
    split
    · rename_i h
      split at h
      · rename_i hz
        rw [hz, Nat.zero_add]
      · cases h
    · rename_i h
      split at h
      · cases h
      · cases h
        rfl

/-- The entry of one line, none when the application takes nothing off it. -/
def lineReduction (offer : Nat) (before after : List WorkUnit) (l : Line) : Option (Nat × Nat × Nat) :=
  if cutOn before after l = 0 then none else some (l.number, offer, cutOn before after l)

theorem newReductions_eq (snap : Snapshot) (offer : Nat) (before after : List WorkUnit) :
    newReductions snap offer before after = snap.lines.filterMap (lineReduction offer before after) := rfl

theorem lineReduction_fst {offer : Nat} {before after : List WorkUnit} {l : Line} {p : Nat × Nat × Nat}
    (h : lineReduction offer before after l = some p) : p.1 = l.number := by
  unfold lineReduction at h
  split at h
  · cases h
  · cases h
    rfl

/-- The entries on one line are those of the line itself. -/
theorem lineReductions_filter {offer : Nat} {before after : List WorkUnit} {ls : List Line}
    (hd : (ls.map Line.number).Nodup) {l : Line} (hl : l ∈ ls) :
    (ls.filterMap (lineReduction offer before after)).filter (fun p => decide (p.1 = l.number))
      = (lineReduction offer before after l).toList := by
  induction ls with
  | nil => cases hl
  | cons k rest ih =>
    obtain ⟨hk, hrest⟩ := List.nodup_cons.1 hd
    have hcons : (k :: rest).filterMap (lineReduction offer before after)
        = (lineReduction offer before after k).toList ++ rest.filterMap (lineReduction offer before after) := by
      cases h : lineReduction offer before after k <;> simp [h]
    rw [hcons, List.filter_append]
    rcases List.mem_cons.1 hl with rfl | hm
    · have hnone : (rest.filterMap (lineReduction offer before after)).filter (fun p => decide (p.1 = l.number)) = [] := by
        refine List.filter_eq_nil_iff.2 fun p hp hpl => ?_
        obtain ⟨j, hj, hjp⟩ := List.mem_filterMap.1 hp
        exact hk ((lineReduction_fst hjp).symm.trans (of_decide_eq_true hpl) ▸ List.mem_map_of_mem hj)
      rw [hnone, List.append_nil]
      cases h : lineReduction offer before after l with
      | none => rfl
      | some p => simp [lineReduction_fst h]
    · have hne : k.number ≠ l.number := fun hkl => hk (hkl ▸ List.mem_map_of_mem hm)
      rw [ih hrest hm]
      cases h : lineReduction offer before after k with
      | none => rfl
      | some p => simp [lineReduction_fst h, hne]

/-! ### What the line passes keep -/

/-- What the line passes have built: units of the snapshot, and entries that make up what was taken off each line. -/
structure Working.Sound (snap : Snapshot) (w : Working) : Prop where
  numbered : Numbered w.units
  units : ∀ u ∈ w.units, UnitOf snap u
  balanced : ∀ l ∈ snap.lines, unitsNet w.units l.number + reducedOn w l.number = l.extended
  total : (w.reductions.map fun p => p.2.2).sum = (snap.lines.map fun l => reducedOn w l.number).sum
  ineligible : ∀ l ∈ snap.lines, lineEligible snap l = false → reducedOn w l.number = 0
  entries : ∀ l ∈ snap.lines, (w.reductions.filter fun p => decide (p.1 = l.number)).length ≤ 4
  used : w.used.length ≤ 32

section passes

variable {snap : Snapshot} (hd : (snap.lines.map Line.number).Nodup)
include hd

theorem Working.sound_start : Working.Sound snap { units := unitsOf snap, reductions := [], used := [] } where
  numbered := unitsOf_numbered snap
  units := unitsOf_unitOf snap
  balanced l hl := by rw [unitsNet_unitsOf hd hl]; rfl
  total := by simp [reducedOn]
  ineligible _ _ _ := rfl
  entries _ _ := Nat.zero_le _
  used := Nat.zero_le _

/-- A unit of a line with the line's own eligibility. -/
theorem UnitOf.eligible_eq {u : WorkUnit} (hu : UnitOf snap u) {l : Line} (hl : l ∈ snap.lines)
    (hul : u.line = l.number) : u.eligible = lineEligible snap l := by
  obtain ⟨k, hk, huk, he⟩ := hu
  rw [he, eq_of_key_eq hd hk hl (huk.symm.trans hul)]

/-- A line offer takes nothing off a line that is not eligible or that is closed. -/
theorem cutOn_eq_zero {w : Working} (hw : w.Sound snap) (c : Candidate) (kind : OfferKind) {l : Line} (hl : l ∈ snap.lines)
    (hno : lineEligible snap l = false ∨ 4 ≤ (w.reductions.filter fun p => decide (p.1 = l.number)).length) :
    cutOn w.units (applyToUnits w c kind).1 l = 0 := by
  rw [cutOn, unitsNet_eq (applyToUnits_lowers hw.numbered c kind), Nat.sub_self]
  intro u hu hul
  refine Bool.eq_false_of_not_eq_true fun hreach => ?_
  obtain ⟨he, -, hopen, -⟩ := (reaches_iff ..).1 hreach
  rcases hno with hno | hno
  · rw [(hw.units u hu).eligible_eq hd hl hul, hno] at he
    cases he
  · rw [hul] at hopen
    exact Nat.not_lt.2 hno hopen

/-- A line offer that is taken keeps what was built sound (R86, R87). -/
theorem takeLineOffer_sound {w : Working} (hw : w.Sound snap) (c : Candidate) (kind : OfferKind) :
    (takeLineOffer snap kind w c).Sound snap := by
  have hlow := applyToUnits_lowers hw.numbered c kind
  have hzero {l : Line} := cutOn_eq_zero hd hw c kind (l := l)
  unfold takeLineOffer
  dsimp only
  split
  · exact hw
  · rename_i hroom
    obtain ⟨-, hroom⟩ := not_or.1 hroom
    have hreduced {l : Line} (hl : l ∈ snap.lines) : (((w.reductions ++ newReductions snap c.record.number w.units
        (applyToUnits w c kind).1).filter fun p => decide (p.1 = l.number)).map fun p => p.2.2).sum
        = reducedOn w l.number + cutOn w.units (applyToUnits w c kind).1 l := by
      rw [List.filter_append, newReductions_eq, lineReductions_filter hd hl, List.map_append, List.sum_append]
      refine congrArg _ ?_
      unfold lineReduction
      split
      · rename_i h
        exact h.symm
      · rfl
    constructor
    case numbered =>
      intro i v hv
      obtain ⟨u, hu, hsame, -⟩ := getElem?_of_forall₂ hlow hv
      rw [hsame]
      exact hw.numbered i u hu
    case units =>
      intro v hv
      obtain ⟨i, hi⟩ := List.mem_iff_getElem?.1 hv
      obtain ⟨u, hu, hsame, -⟩ := getElem?_of_forall₂ hlow hi
      obtain ⟨l, hl, hul, he⟩ := hw.units u (List.mem_of_getElem? hu)
      rw [hsame]
      exact ⟨l, hl, hul, he⟩
    case balanced =>
      intro l hl
      have hle := unitsNet_le hlow l.number
      have hbal := hw.balanced l hl
      rw [reducedOn, hreduced hl, cutOn]
      dsimp only
      omega
    case total =>
      rw [List.map_append, List.sum_append, hw.total, newReductions_sum, ← List.sum_map_add]
      refine congrArg List.sum (List.map_congr_left fun l hl => (hreduced hl).symm)
    case ineligible =>
      intro l hl he
      rw [reducedOn, hreduced hl, hw.ineligible l hl he, hzero hl (.inl he)]
    case entries =>
      intro l hl
      rw [List.filter_append, newReductions_eq, lineReductions_filter hd hl, List.length_append]
      have hle := hw.entries l hl
      rcases hle.lt_or_eq with h | h
      · have hone : (lineReduction c.record.number w.units (applyToUnits w c kind).1 l).toList.length ≤ 1 := by
          cases lineReduction c.record.number w.units (applyToUnits w c kind).1 l <;> simp
        omega
      · rw [lineReduction, if_pos (hzero hl (.inr h.ge))]
        exact hle
    case used =>
      rw [List.length_append]
      exact Nat.lt_of_not_le hroom

theorem linePasses_sound : (linePasses snap).Sound snap := by
  have hstep (w : Working) (c : Candidate) (hw : w.Sound snap) : (linePassStep snap w c).Sound snap := by
    unfold linePassStep
    split
    · exact takeLineOffer_sound hd hw c _
    · exact hw
  exact foldl_keeps hstep (foldl_keeps hstep (Working.sound_start hd) _) _

end passes

/-! ### Line nets (R92) -/

/-- The net of a line, its entries and its override reduction come to its extended price. -/
theorem priceLine_balanced {snap : Snapshot} (hsound : snap.sound) {w : Working} (hw : w.Sound snap) {l : Line}
    (hl : l ∈ snap.lines) :
    (priceLine snap w l).net + reducedOn w l.number + overrideReduction (priceLine snap w l) = l.extended := by
  have hbal := hw.balanced l hl
  unfold priceLine
  split
  · simpa [overrideReduction] using hbal
  · rename_i o ho
    have hnone : reducedOn w l.number = 0 := hw.ineligible l hl (by simp [lineEligible, ho])
    split
    · rename_i hg
      have hprice := hsound.2 l hl o ho hg
      have hle : o.price * l.quantity ≤ l.extended := by
        rw [Line.extended, Nat.mul_comm]
        exact Nat.mul_le_mul_left _ hprice
      simp only [overrideReduction, hnone, if_true]
      omega
    · simp [overrideReduction, hnone]

/-! ### The basket pass and the points (R93, R95, R96) -/

/-- What the basket pass and the points have built from lines that net to `net`. -/
structure BasketWork.Sound (net : Nat) (w : BasketWork) : Prop where
  balanced : w.payable + couponTotal w.entries = net
  entries : w.entries.length ≤ 8
  used : w.used.length ≤ 32
  points : w.points ≤ 999999

/-- What a coupon takes off before the payable caps it (R93). -/
def couponFull (lines : List PricedLine) (c : Candidate) : Nat :=
  if c.record.form = 1 then groupNet lines (fun l => l.line.concession) c.record.group * c.record.value / 10000
  else c.record.value

theorem takeCoupon_eq (lines : List PricedLine) (w : BasketWork) (c : Candidate) : takeCoupon lines w c =
    if groupNet lines (fun l => l.line.concession) c.record.group < c.record.threshold
      ∨ min (couponFull lines c) w.payable = 0 ∨ basketWorkFull w = true then w
    else addBasketEntry c .basketCoupon (min (couponFull lines c) w.payable)
      { w with payable := w.payable - min (couponFull lines c) w.payable } := rfl

theorem basketWorkFull_iff (w : BasketWork) : basketWorkFull w = true ↔ 8 ≤ w.entries.length ∨ 32 ≤ w.used.length := by
  rw [basketWorkFull, Bool.or_eq_true, decide_eq_true_eq, decide_eq_true_eq]
  exact Iff.rfl

section basket

variable {net : Nat} {w : BasketWork} (hw : w.Sound net) (lines : List PricedLine) (c : Candidate)
include hw

theorem takeCoupon_sound : (takeCoupon lines w c).Sound net := by
  rw [takeCoupon_eq]
  split
  · exact hw
  · rename_i h
    simp only [not_or, basketWorkFull_iff, Nat.not_le] at h
    obtain ⟨-, -, hentries, hused⟩ := h
    have hle : min (couponFull lines c) w.payable ≤ w.payable := Nat.min_le_right ..
    have hbal := hw.balanced
    refine ⟨?_, by simpa [addBasketEntry] using hentries, by simpa [addBasketEntry] using hused, hw.points⟩
    have hcoupons : couponTotal (w.entries ++
        [{ offer := c.record.number, kind := .basketCoupon, amount := min (couponFull lines c) w.payable }])
        = couponTotal w.entries + min (couponFull lines c) w.payable := by
      simp [couponTotal]
    simp only [addBasketEntry, hcoupons]
    omega

theorem takeBoost_sound : (takeBoost lines w c).Sound net := by
  unfold takeBoost
  dsimp only
  split
  · exact hw
  · rename_i h
    simp only [not_or, basketWorkFull_iff, Nat.not_le] at h
    obtain ⟨-, hentries, hused⟩ := h
    refine ⟨?_, by simpa [addBasketEntry] using hentries, by simpa [addBasketEntry] using hused, ?_⟩
    · simpa [addBasketEntry, couponTotal, List.filter_append] using hw.balanced
    · have hpoints := hw.points
      simp only [addBasketEntry, Config.maxEarned]
      omega

theorem pointsPass_sound (snap : Snapshot) : (pointsPass snap lines w).Sound net := by
  unfold pointsPass
  split
  · exact hw
  · rename_i a _
    have hstart : BasketWork.Sound net
        { w with points := min (groupNet lines earning 0 / 100 * a.rate) Config.maxEarned } :=
      ⟨hw.balanced, hw.entries, hw.used, Nat.min_le_right ..⟩
    exact foldl_keeps (P := BasketWork.Sound net) (fun _ c h => takeBoost_sound h lines c) hstart _

end basket

theorem sum_map_add_add {α : Type} (f g h : α → Nat) (e : α → Nat) {xs : List α} (hxs : ∀ x ∈ xs, f x + g x + h x = e x) :
    (xs.map f).sum + (xs.map g).sum + (xs.map h).sum = (xs.map e).sum := by
  rw [← List.sum_map_add, ← List.sum_map_add]
  exact congrArg List.sum (List.map_congr_left hxs)

/-- The basket pass and the points end sound. -/
theorem basketPasses_sound {snap : Snapshot} (hd : (snap.lines.map Line.number).Nodup) (lines : List PricedLine) :
    (pointsPass snap lines ((passCandidates snap .basket).foldl (takeCoupon lines)
      { payable := (lines.map PricedLine.net).sum, points := 0, entries := [], used := (linePasses snap).used })).Sound
      (lines.map PricedLine.net).sum :=
  pointsPass_sound (foldl_keeps (P := BasketWork.Sound (lines.map PricedLine.net).sum)
    (fun _ c h => takeCoupon_sound h lines c)
    ⟨rfl, Nat.zero_le _, (linePasses_sound hd).used, Nat.zero_le _⟩ _) lines snap

/-- The identity of R94 for a sound snapshot. -/
theorem planOf_balanced {snap : Snapshot} (hsound : snap.sound) : (planOf snap).balanced := by
  have hw := linePasses_sound hsound.1
  have hlines := sum_map_add_add (fun l => (priceLine snap (linePasses snap) l).net) (fun l => reducedOn (linePasses snap) l.number)
    (fun l => overrideReduction (priceLine snap (linePasses snap) l)) Line.extended fun l hl => priceLine_balanced hsound hw hl
  have hbasket := (basketPasses_sound hsound.1 (snap.lines.map (priceLine snap (linePasses snap)))).balanced
  have htotal := hw.total
  rw [← htotal] at hlines
  simp only [List.map_map, Function.comp_def] at hbasket
  simp only [Plan.balanced, planOf, linesTotal, List.map_map, Function.comp_def]
  omega

/-- Settles O54: the line passes take from the units what they enter, so each line's net, entries and override reduction
come to its extended price; the coupons take from the payable what they enter. -/
theorem planIdentity : Obligations.PlanIdentity := by
  intro snap hsound
  have hbal := planOf_balanced hsound
  have hsum := hbal
  have hw := linePasses_sound hsound.1
  have hbasket := basketPasses_sound hsound.1 (snap.lines.map (priceLine snap (linePasses snap)))
  have hgross : (planOf snap).payable ≤ (planOf snap).gross := by
    unfold Plan.balanced at hsum
    omega
  refine ⟨hbal, hbasket.points, hgross, fun hle => hgross.trans hle, rfl, hbasket.used, hbasket.entries, fun e he => ?_⟩
  simp only [planOf, List.map_map, List.mem_map] at he
  obtain ⟨l, hl, rfl⟩ := he
  have hnum : (priceLine snap (linePasses snap) l).line = l := by
    unfold priceLine
    split
    · rfl
    · split <;> rfl
  simpa [lineEntry, hnum] using hw.entries l hl

end Sys2Proof.Machine
end

section
/-! Override records and the lines they reduce (R9, R105, R108), with the snapshots taken of both: each change keeps them
in agreement (O60). -/

namespace Sys2Proof.Machine

/-! ### The relation, clause by clause -/

/-- A record reduces a live line of a basket that exists: less than its unit price, the reduction of its present
quantity, and within what was authorised when GRANTED. -/
def Reduces (bs : List Basket) (r : OverrideRecord) : Prop :=
  ∃ b ∈ bs, b.number = r.basket ∧ ∃ x ∈ b.lines, x.number = r.line ∧ r.price < x.price
    ∧ r.reduction = (x.price - r.price) * x.quantity ∧ ∀ who most, r.state = .granted who most → r.reduction ≤ most

/-- No line number twice in a basket, and all below the next one. -/
def LinesInOrder (b : Basket) : Prop := (b.lines.map Line.number).Nodup ∧ ∀ x ∈ b.lines, x.number < b.nextLine

/-- The clauses of `OverridesAgree` but for the snapshots, of baskets and records. -/
structure RecordsAgree (bs : List Basket) (os : List OverrideRecord) : Prop where
  lines : ∀ b ∈ bs, LinesInOrder b
  keys : (os.map fun r => (r.basket, r.line)).Nodup
  reduces : ∀ r ∈ os, Reduces bs r

/-- Every running unit's snapshot. -/
def AllSnapshots (P : Snapshot → Prop) (s : State) : Prop :=
  ∀ (u : Nat) (r : RunningUnit), s.evaluator.units[u]? = some (some r) → P r.snapshot

theorem overridesAgree_iff {s : State} :
    OverridesAgree s ↔ RecordsAgree s.basketTable.baskets s.overrides ∧ AllSnapshots Snapshot.sound s :=
  ⟨fun ⟨hl, hk, hr, hs⟩ => ⟨⟨hl, hk, hr⟩, hs⟩, fun ⟨h, hs⟩ => ⟨h.lines, h.keys, h.reduces, hs⟩⟩

theorem recordOf_mem {n line : Nat} {s : State} {r : OverrideRecord} (hr : recordOf n line s = some r) :
    r ∈ s.overrides := List.mem_of_find?_eq_some hr

/-- With one record for a line, it is what a look-up of the line finds. -/
theorem RecordsAgree.eq_of_key {bs : List Basket} {os : List OverrideRecord} (h : RecordsAgree bs os) {q r : OverrideRecord}
    (hq : q ∈ os) (hr : r ∈ os) (hb : q.basket = r.basket) (hl : q.line = r.line) : q = r :=
  List.inj_on_of_nodup_map h.keys hq hr (Prod.ext hb hl)

theorem recordOf_eq_none {n line : Nat} {s : State} :
    recordOf n line s = none ↔ ∀ r ∈ s.overrides, ¬ (r.basket = n ∧ r.line = line) := by
  simp [recordOf]

theorem recordOf_of_mem {s : State} (h : RecordsAgree s.basketTable.baskets s.overrides) {r : OverrideRecord}
    (hr : r ∈ s.overrides) : recordOf r.basket r.line s = some r := by
  cases hf : recordOf r.basket r.line s with
  | none => exact absurd ⟨rfl, rfl⟩ (recordOf_eq_none.1 hf r hr)
  | some q =>
    obtain ⟨hb, hl⟩ := recordOf_key hf
    rw [h.eq_of_key (recordOf_mem hf) hr hb hl]

theorem findLine_mem {line : Nat} {b : Basket} {x : Line} (h : findLine line b = some x) : x ∈ b.lines :=
  List.mem_of_find?_eq_some h

theorem findLine_number {line : Nat} {b : Basket} {x : Line} (h : findLine line b = some x) : x.number = line := by
  simpa using List.find?_some h

/-! ### Baskets or records changed alone -/

namespace RecordsAgree

variable {bs : List Basket} {os : List OverrideRecord}

/-- Baskets changed but for their numbers and lines. -/
theorem mapBaskets (h : RecordsAgree bs os) {f : Basket → Basket}
    (hf : ∀ b ∈ bs, (f b).number = b.number ∧ (f b).lines = b.lines ∧ (f b).nextLine = b.nextLine) :
    RecordsAgree (bs.map f) os := by
  refine ⟨fun b hb => ?_, h.keys, fun r hr => ?_⟩
  · obtain ⟨c, hc, rfl⟩ := List.mem_map.1 hb
    obtain ⟨-, hl, hn⟩ := hf c hc
    rw [LinesInOrder, hl, hn]
    exact h.lines c hc
  · obtain ⟨b, hb, hbr, x, hx, hrest⟩ := h.reduces r hr
    obtain ⟨hn, hl, -⟩ := hf b hb
    exact ⟨f b, List.mem_map_of_mem hb, hn.trans hbr, x, hl ▸ hx, hrest⟩

/-- Records gone. -/
theorem sublist (h : RecordsAgree bs os) {qs : List OverrideRecord} (hqs : qs.Sublist os) : RecordsAgree bs qs :=
  ⟨h.lines, h.keys.sublist (hqs.map _), fun r hr => h.reduces r (hqs.subset hr)⟩

/-- Records changed but for their keys, prices and reductions, and granted no less than they ask. -/
theorem mapRecords (h : RecordsAgree bs os) {g : OverrideRecord → OverrideRecord}
    (hg : ∀ r ∈ os, (g r).basket = r.basket ∧ (g r).line = r.line ∧ (g r).price = r.price ∧ (g r).reduction = r.reduction
      ∧ ∀ who most, (g r).state = .granted who most → r.reduction ≤ most ∨ r.state = .granted who most) :
    RecordsAgree bs (os.map g) := by
  refine ⟨h.lines, ?_, fun r hr => ?_⟩
  · rw [List.map_map, List.map_congr_left (g := fun r => (r.basket, r.line))]
    · exact h.keys
    · exact fun r hr => Prod.ext (hg r hr).1 (hg r hr).2.1
  · obtain ⟨q, hq, rfl⟩ := List.mem_map.1 hr
    obtain ⟨hb, hl, hp, hred, hgrant⟩ := hg q hq
    obtain ⟨b, hbm, hbq, x, hx, hxl, hprice, hreduction, hmost⟩ := h.reduces q hq
    refine ⟨b, hbm, hbq.trans hb.symm, x, hx, hxl.trans hl.symm, hp ▸ hprice, ?_, fun who most hstate => ?_⟩
    · rw [hred, hp, hreduction]
    · rw [hred]
      rcases hgrant who most hstate with hle | hsame
      · exact hle
      · exact hmost who most hsame

/-- A basket without lines opens. -/
theorem addBasket (h : RecordsAgree bs os) {b : Basket} (hb : b.lines = []) : RecordsAgree (bs ++ [b]) os := by
  refine ⟨fun c hc => ?_, h.keys, fun r hr => ?_⟩
  · rcases List.mem_append.1 hc with hc | hc
    · exact h.lines c hc
    · rw [List.mem_singleton.1 hc]
      simp [LinesInOrder, hb]
  · obtain ⟨c, hc, hrest⟩ := h.reduces r hr
    exact ⟨c, List.mem_append_left _ hc, hrest⟩

/-- A basket goes with its records. -/
theorem free (h : RecordsAgree bs os) (n : Nat) :
    RecordsAgree (bs.filter fun b => decide (b.number ≠ n)) (os.filter fun r => decide (r.basket ≠ n)) := by
  refine ⟨fun b hb => h.lines b (List.mem_of_mem_filter hb), h.keys.sublist (List.filter_sublist.map _), fun r hr => ?_⟩
  obtain ⟨hr, hn⟩ := List.mem_filter.1 hr
  obtain ⟨b, hb, hbr, hrest⟩ := h.reduces r hr
  exact ⟨b, List.mem_filter.2 ⟨hb, by rw [hbr]; exact hn⟩, hbr, hrest⟩

/-- A line joins at the next number (R9). -/
theorem addLine (h : RecordsAgree bs os) {n : Nat} {b : Basket} {x : Line} (hone : ∀ c ∈ bs, c.number = n → c = b)
    (hx : x.number = b.nextLine) :
    RecordsAgree (bs.map fun c => if c.number = n then { c with lines := c.lines ++ [x], nextLine := c.nextLine + 1 } else c)
      os := by
  refine ⟨fun c hc => ?_, h.keys, fun r hr => ?_⟩
  · obtain ⟨d, hd, rfl⟩ := List.mem_map.1 hc
    split
    · rename_i hdn
      obtain ⟨hnodup, hlt⟩ := h.lines d hd
      obtain rfl := hone d hd hdn
      refine ⟨?_, fun y hy => ?_⟩
      · rw [List.map_append, List.nodup_append]
        refine ⟨hnodup, by simp, fun m hm k hk he => ?_⟩
        obtain ⟨y, hy, rfl⟩ := List.mem_map.1 hm
        have hkn : k = d.nextLine := by simpa [hx] using hk
        exact absurd (hlt y hy) (by omega)
      · rcases List.mem_append.1 hy with hy | hy
        · exact (hlt y hy).trans (Nat.lt_succ_self _)
        · rw [List.mem_singleton.1 hy, hx]
          exact Nat.lt_succ_self _
    · exact h.lines d hd
  · obtain ⟨c, hc, hcr, y, hy, hrest⟩ := h.reduces r hr
    refine ⟨_, List.mem_map_of_mem hc, ?_, y, ?_, hrest⟩
    · split <;> exact hcr
    · split
      · exact List.mem_append_left _ hy
      · exact hy

/-- A line without a record goes (R11). -/
theorem dropLine (h : RecordsAgree bs os) {n line : Nat} (hnone : ∀ r ∈ os, ¬ (r.basket = n ∧ r.line = line)) :
    RecordsAgree (bs.map fun c =>
      if c.number = n then { c with lines := c.lines.filter fun x => decide (x.number ≠ line) } else c) os := by
  refine ⟨fun c hc => ?_, h.keys, fun r hr => ?_⟩
  · obtain ⟨d, hd, rfl⟩ := List.mem_map.1 hc
    obtain ⟨hnodup, hlt⟩ := h.lines d hd
    split
    · exact ⟨map_key_filter_nodup hnodup _, fun y hy => hlt y (List.mem_of_mem_filter hy)⟩
    · exact ⟨hnodup, hlt⟩
  · obtain ⟨c, hc, hcr, y, hy, hyr, hrest⟩ := h.reduces r hr
    refine ⟨_, List.mem_map_of_mem hc, ?_, y, ?_, hyr, hrest⟩
    · split <;> exact hcr
    · split
      · rename_i hcn
        exact List.mem_filter.2 ⟨hy, decide_eq_true fun hyl => hnone r hr ⟨hcr.symm.trans hcn, hyr.symm.trans hyl⟩⟩
      · exact hy

/-- A line's quantity and its record's reduction with it (R10, R114). -/
theorem setQuantity (h : RecordsAgree bs os) {n line q : Nat} {b : Basket} {x : Line} {g : OverrideRecord → OverrideRecord}
    (hone : ∀ c ∈ bs, c.number = n → c = b) (hx : x ∈ b.lines) (hxl : x.number = line) (hkey : KeepsKey g)
    (hg : ∀ r ∈ os, r.basket = n → r.line = line → (g r).price = r.price ∧ (g r).reduction = (x.price - r.price) * q
      ∧ ∀ who most, (g r).state = .granted who most → (g r).reduction ≤ most) :
    RecordsAgree (bs.map fun c => if c.number = n then Machine.setQuantity line q c else c)
      (os.map fun r => if r.basket = n ∧ r.line = line then g r else r) := by
  have hnumbers (c : Basket) : ((Machine.setQuantity line q c).lines).map Line.number = c.lines.map Line.number :=
    map_key_map_if (key := Line.number) (f := fun x => { x with quantity := q }) fun _ _ => rfl
  refine ⟨fun c hc => ?_, ?_, fun r hr => ?_⟩
  · obtain ⟨d, hd, rfl⟩ := List.mem_map.1 hc
    obtain ⟨hnodup, hlt⟩ := h.lines d hd
    split
    · refine ⟨(hnumbers d).symm ▸ hnodup, fun y hy => ?_⟩
      obtain ⟨z, hz, rfl⟩ := List.mem_map.1 hy
      have hnum : (if z.number = line then { z with quantity := q } else z).number = z.number := by split <;> rfl
      rw [hnum]
      exact hlt z hz
    · exact ⟨hnodup, hlt⟩
  · rw [List.map_map, List.map_congr_left (g := fun r => (r.basket, r.line))]
    · exact h.keys
    · intro r _
      simp only [Function.comp_apply]
      split
      · exact Prod.ext (hkey r).1 (hkey r).2
      · rfl
  · obtain ⟨o, ho, rfl⟩ := List.mem_map.1 hr
    obtain ⟨c, hc, hco, y, hy, hyo, hprice, hreduction, hmost⟩ := h.reduces o ho
    have hmem := List.mem_map_of_mem (f := fun c => if c.number = n then Machine.setQuantity line q c else c) hc
    by_cases hkeyed : o.basket = n ∧ o.line = line
    · rw [if_pos hkeyed]
      obtain ⟨hgp, hgr, hgm⟩ := hg o ho hkeyed.1 hkeyed.2
      obtain ⟨hgb, hgl⟩ := hkey o
      have hcn : c.number = n := hco.trans hkeyed.1
      obtain rfl := hone c hc hcn
      obtain rfl : y = x := eq_of_key_eq (h.lines c hc).1 hy hx (hyo.trans (hkeyed.2.trans hxl.symm))
      refine ⟨_, hmem, ?_, { y with quantity := q }, ?_, hyo.trans hgl.symm, hgp ▸ hprice, by rw [hgr, hgp], hgm⟩
      · rw [if_pos hcn]
        exact hco.trans hgb.symm
      · rw [if_pos hcn]
        exact List.mem_map.2 ⟨y, hy, if_pos hxl⟩
    · rw [if_neg hkeyed]
      refine ⟨_, hmem, ?_, y, ?_, hyo, hprice, hreduction, hmost⟩
      · split <;> exact hco
      · split
        · rename_i hcn
          exact List.mem_map.2 ⟨y, hy, if_neg fun hyl => hkeyed ⟨hco.symm.trans hcn, hyo.symm.trans hyl⟩⟩
        · exact hy

/-- A record joins in the place of the line's old one (R108). -/
theorem addRecord (h : RecordsAgree bs os) {r : OverrideRecord} (hr : Reduces bs r) :
    RecordsAgree bs ((os.filter fun o => decide (¬ (o.basket = r.basket ∧ o.line = r.line))) ++ [r]) := by
  refine ⟨h.lines, ?_, fun o ho => ?_⟩
  · rw [List.map_append, List.nodup_append]
    refine ⟨h.keys.sublist (List.filter_sublist.map _), by simp, fun k hk m hm he => ?_⟩
    obtain ⟨o, ho, rfl⟩ := List.mem_map.1 hk
    obtain rfl := List.mem_singleton.1 hm
    obtain ⟨hb, hl⟩ := Prod.ext_iff.1 he
    exact of_decide_eq_true (List.mem_filter.1 ho).2 ⟨hb, hl⟩
  · rcases List.mem_append.1 ho with ho | ho
    · exact h.reduces o (List.mem_of_mem_filter ho)
    · exact List.mem_singleton.1 ho ▸ hr

end RecordsAgree

/-! ### Each change keeps them so -/

/-- A change counted by R14 keeps a basket's number and lines. -/
theorem raised_keepsLines (b : Basket) :
    b.raised.number = b.number ∧ b.raised.lines = b.lines ∧ b.raised.nextLine = b.nextLine := by
  rcases raised_cases b with ⟨-, h⟩ | ⟨-, h⟩ <;> rw [h] <;> exact ⟨rfl, rfl, rfl⟩

theorem Change.recordsAgree {s t : State} (h : Change s t) (hs : s.basketTable.Agrees)
    (ho : RecordsAgree s.basketTable.baskets s.overrides) : RecordsAgree t.basketTable.baskets t.overrides := by
  have hone {n : Nat} {b : Basket} (hb : findBasket n s = some b) : ∀ c ∈ s.basketTable.baskets, c.number = n → c = b :=
    fun c hc hcn => eq_of_key_eq hs.nodup hc (findBasket_mem hb) (hcn.trans (findBasket_number hb).symm)
  have hmap {n : Nat} {f : Basket → Basket}
      (hf : ∀ b, (f b).number = b.number ∧ (f b).lines = b.lines ∧ (f b).nextLine = b.nextLine) :
      RecordsAgree (mapBasket n f s).basketTable.baskets s.overrides := by
    refine ho.mapBaskets fun b _ => ?_
    split
    · exact hf b
    · exact ⟨rfl, rfl, rfl⟩
  have hrecord {n line : Nat} {g : OverrideRecord → OverrideRecord} (hg : ∀ r, (g r).basket = r.basket ∧ (g r).line = r.line
      ∧ (g r).price = r.price ∧ (g r).reduction = r.reduction
      ∧ ∀ who most, (g r).state = .granted who most → r.reduction ≤ most ∨ r.state = .granted who most) :
      RecordsAgree s.basketTable.baskets (mapRecord n line g s).overrides := by
    refine ho.mapRecords fun r _ => ?_
    split
    · exact hg r
    · exact ⟨rfl, rfl, rfl, rfl, fun _ _ => .inr⟩
  cases h with
  | opened l => exact ho.addBasket rfl
  | tended n f hf =>
    refine hmap fun b => ?_
    obtain ⟨coupons, count, hb⟩ := hf b
    rw [hb]
    exact ⟨rfl, rfl, rfl⟩
  | raised ns =>
    refine ho.mapBaskets fun b _ => ?_
    split
    · exact raised_keepsLines b
    · exact ⟨rfl, rfl, rfl⟩
  | lineAdded n b x hb hx => exact ho.addLine (hone hb) hx
  | requantified n line q b x g hb hx hsum hkey hshown hg =>
    refine ho.setQuantity (hone hb) (findLine_mem hx) (findLine_number hx) hkey fun r hr hrb hrl => ?_
    obtain ⟨hp, hred, -, hmost⟩ := hg r (hrb ▸ hrl ▸ recordOf_of_mem ho hr)
    exact ⟨hp, hred, hmost⟩
  | lineVoided n line hr => exact ho.dropLine (recordOf_eq_none.1 hr)
  | parked n l timer => exact hmap (f := parkBasket s.calendar.now timer) fun _ => ⟨rfl, rfl, rfl⟩
  | recalled n l => exact hmap (f := recallBasket l) fun _ => ⟨rfl, rfl, rfl⟩
  | attached n a =>
    rw [mapBasket_baskets, addReference_basketTable, mapBasket_overrides, addReference_overrides]
    exact hmap (f := fun b => { b with account := some a }) fun _ => ⟨rfl, rfl, rfl⟩
  | detached n a =>
    rw [mapBasket_baskets, dropReference_basketTable, mapBasket_overrides, dropReference_overrides]
    exact hmap (f := fun b => { b with account := none }) fun _ => ⟨rfl, rfl, rfl⟩
  | keyed b x r hb hx hprice hreduction hnew hgranted =>
    have hreduces : Reduces s.basketTable.baskets r :=
      ⟨b, findBasket_mem hb, findBasket_number hb, x, findLine_mem hx, findLine_number hx, hprice, hreduction, hgranted⟩
    refine (ho.addRecord hreduces).mapBaskets fun c _ => ?_
    split
    · exact raised_keepsLines { c with keyingCount := c.keyingCount + 1 }
    · exact ⟨rfl, rfl, rfl⟩
  | recordRemoved n line => exact ho.sublist List.filter_sublist
  | recordGranted n line who =>
    refine hrecord fun r => ⟨rfl, rfl, rfl, rfl, fun _ _ hstate => .inl ?_⟩
    cases hstate
    exact Nat.le_refl _
  | displaced l => exact ho.sublist List.filter_sublist
  | presented l d q r =>
    rw [presentOn_overrides, presentOn_basketTable]
    exact hrecord fun r => ⟨rfl, rfl, rfl, rfl, fun _ _ hstate => (by cases hstate)⟩
  | takenBack l p =>
    rw [withTakenBack, endPresentation_overrides, endPresentation_basketTable]
    exact hrecord fun r => ⟨rfl, rfl, rfl, rfl, fun _ _ hstate => (by cases hstate)⟩
  | cancelled b | expired b | admitted r rest b =>
    rw [cancelBasket_basketTable, cancelBasket_overrides]
    exact ho.free b.number
  | settled l earned b r =>
    simpa [withSettled, freeBasket_basketTable, removeRecords] using ho.free b.number
  | restarted => exact ⟨fun b hb => (by cases hb), .nil, fun r hr => (by cases hr)⟩
  | totalling n | markedExpired n => exact hmap fun _ => ⟨rfl, rfl, rfl⟩
  | _ => simpa [Machine.refreshed, clearCounts, mapLane] using ho

/-! ### Snapshots -/

/-- The snapshots of running units after a change are those before it, or a basket's of the state. -/
theorem Change.snapshots {P : Snapshot → Prop} {s t : State} (h : Change s t) (hs : AllSnapshots P s)
    (hnew : ∀ b ∈ s.basketTable.baskets, P (snapshotOf b s)) : AllSnapshots P t := by
  have hdiscard (f : RunningUnit → RunningUnit) (hf : ∀ r, (f r).snapshot = r.snapshot)
      (hunits : t.evaluator.units = s.evaluator.units.map fun u => u.map f) : AllSnapshots P t := by
    intro u r hu
    rw [hunits, Vector.getElem?_map] at hu
    obtain ⟨q, hq, hqr⟩ := Option.map_eq_some_iff.1 hu
    obtain ⟨o, rfl, rfl⟩ := Option.map_eq_some_iff.1 hqr
    rw [hf]
    exact hs u o hq
  have hsame (hunits : t.evaluator.units = s.evaluator.units) : AllSnapshots P t := by
    intro u r hu
    rw [hunits] at hu
    exact hs u r hu
  cases h with
  | unitTaken =>
    rcases unitTakes_cases s with h | ⟨n, rest, i, b, -, -, hb, h⟩
    · rwa [h]
    · rw [h]
      intro u r hu
      simp only [State.evaluator_withEvaluator, Vector.getElem?_setIfInBounds] at hu
      split at hu
      · split at hu
        · cases hu
          exact hnew b (findBasket_mem hb)
        · cases hu
      · exact hs u r hu
  | cancelled b =>
    refine hdiscard (fun r => if r.basket = b.number then { r with discard := true } else r) (fun r => ?_) ?_
    · split <;> rfl
    · rw [cancelBasket_evaluator]
      rfl
  | restarted => exact hdiscard (fun r => { r with discard := true }) (fun _ => rfl) rfl
  | _ => exact hsame (by simp [withNewBasket, withParked, withRecalled, withTotalling, withExpired, withTakenBack, withSettled,
      Machine.refreshed, keyRecord, clearCounts, removeRecord, mapRecord, removeRecords, State.withBaskets, mapLane])

/-- A snapshot of a basket whose records reduce its lines is sound (R105). -/
theorem snapshotOf_sound {s : State} (hd : (s.basketTable.baskets.map Basket.number).Nodup)
    (ho : RecordsAgree s.basketTable.baskets s.overrides) {b : Basket} (hb : b ∈ s.basketTable.baskets) : (snapshotOf b s).sound := by
  refine ⟨(ho.lines b hb).1, fun l hl o hov _ => ?_⟩
  have hmem : o ∈ (basketRecords b.number s).map fun r =>
      { line := r.line, granted := !isPending r, price := r.price : SnapOverride } := List.mem_of_find?_eq_some hov
  have hline : o.line = l.number := by simpa using List.find?_some hov
  obtain ⟨r, hr, rfl⟩ := List.mem_map.1 hmem
  obtain ⟨hr, hrb⟩ := List.mem_filter.1 hr
  obtain ⟨c, hc, hcr, x, hx, hxr, hprice, -⟩ := ho.reduces r hr
  obtain rfl := eq_of_key_eq hd hc hb (hcr.trans (of_decide_eq_true hrb))
  rw [eq_of_key_eq (ho.lines c hc).1 hl hx (hline.symm.trans hxr.symm)]
  exact hprice.le

end Sys2Proof.Machine
end

section
/-! Presented records and what the routes have presented (R105, R123): each change keeps them in agreement (O60). -/

namespace Sys2Proof.Machine

theorem presentationOf_eq_some {l : Nat} {s : State} {p : Presentation} :
    presentationOf l s = some p ↔ ∃ q, s.router.routes[l]? = some q ∧ q.presented = some p := by
  unfold presentationOf
  cases s.router.routes[l]? <;> simp

/-! ### The relation, clause by clause -/

/-- The clauses of `PresentationsAgree`, of baskets, records and what each lane's route has presented. -/
structure PresentsAgree (bs : List Basket) (os : List OverrideRecord) (pres : Nat → Option Presentation) : Prop where
  basket : ∀ l p, pres l = some p → ∃ b ∈ bs, b.number = p.basket ∧ b.lane = some l
  record : ∀ l p, pres l = some p → ∃ r ∈ os, r.basket = p.basket ∧ r.line = p.line ∧ r.seq = p.seq ∧ isPresented r = true
  marked : ∀ r ∈ os, isPresented r = true → ∃ b ∈ bs, b.number = r.basket
    ∧ ∃ l p, b.lane = some l ∧ pres l = some p ∧ p.basket = r.basket ∧ p.line = r.line
  few : ∀ n, (os.filter fun r => decide (r.basket = n)).length ≤ 8

/-- The same of a state. -/
def PresentsInStep (s : State) : Prop := PresentsAgree s.basketTable.baskets s.overrides fun l => presentationOf l s

theorem presentationsAgree_iff {s : State} : PresentationsAgree s ↔ PresentsInStep s := by
  constructor
  · rintro ⟨hshown, hmarked, hfew⟩
    refine ⟨fun l p hp => ?_, fun l p hp => ?_, fun r hr hm => ?_, hfew⟩
    · obtain ⟨q, hq, hqp⟩ := presentationOf_eq_some.1 hp
      exact (hshown l q p hq hqp).1
    · obtain ⟨q, hq, hqp⟩ := presentationOf_eq_some.1 hp
      exact (hshown l q p hq hqp).2
    · obtain ⟨b, hb, hbr, l, q, p, hl, hq, hqp, hpb, hpl⟩ := hmarked r hr hm
      exact ⟨b, hb, hbr, l, p, hl, presentationOf_eq_some.2 ⟨q, hq, hqp⟩, hpb, hpl⟩
  · rintro ⟨hbasket, hrecord, hmarked, hfew⟩
    refine ⟨fun l q p hq hqp => ?_, fun r hr hm => ?_, hfew⟩
    · have hp := presentationOf_eq_some.2 ⟨q, hq, hqp⟩
      exact ⟨hbasket l p hp, hrecord l p hp⟩
    · obtain ⟨b, hb, hbr, l, p, hl, hp, hpb, hpl⟩ := hmarked r hr hm
      obtain ⟨q, hq, hqp⟩ := presentationOf_eq_some.1 hp
      exact ⟨b, hb, hbr, l, q, p, hl, hq, hqp, hpb, hpl⟩

/-! ### Baskets, records or presentations changed alone -/

namespace PresentsAgree

variable {bs : List Basket} {os : List OverrideRecord} {pres : Nat → Option Presentation}

/-- Baskets changed but for their numbers, and those with a notice but for their lanes. -/
theorem mapBaskets (h : PresentsAgree bs os pres) {f : Basket → Basket}
    (hf : ∀ b ∈ bs, (f b).number = b.number
      ∧ ∀ l p, b.lane = some l → pres l = some p → p.basket = b.number → (f b).lane = some l) :
    PresentsAgree (bs.map f) os pres := by
  refine ⟨fun l p hp => ?_, h.record, fun r hr hm => ?_, h.few⟩
  · obtain ⟨b, hb, hbp, hl⟩ := h.basket l p hp
    obtain ⟨hn, hlane⟩ := hf b hb
    exact ⟨f b, List.mem_map_of_mem hb, hn.trans hbp, hlane l p hl hp hbp.symm⟩
  · obtain ⟨b, hb, hbr, l, p, hl, hp, hpb, hpl⟩ := h.marked r hr hm
    obtain ⟨hn, hlane⟩ := hf b hb
    exact ⟨f b, List.mem_map_of_mem hb, hn.trans hbr, l, p, hlane l p hl hp (hpb.trans hbr.symm), hp, hpb, hpl⟩

theorem addBasket (h : PresentsAgree bs os pres) (b : Basket) : PresentsAgree (bs ++ [b]) os pres := by
  refine ⟨fun l p hp => ?_, h.record, fun r hr hm => ?_, h.few⟩
  · obtain ⟨c, hc, hrest⟩ := h.basket l p hp
    exact ⟨c, List.mem_append_left _ hc, hrest⟩
  · obtain ⟨c, hc, hrest⟩ := h.marked r hr hm
    exact ⟨c, List.mem_append_left _ hc, hrest⟩

/-- A basket goes with its records, with no notice of it anywhere. -/
theorem free (h : PresentsAgree bs os pres) {n : Nat} (hn : ∀ l p, pres l = some p → p.basket ≠ n) :
    PresentsAgree (bs.filter fun b => decide (b.number ≠ n)) (os.filter fun r => decide (r.basket ≠ n)) pres := by
  refine ⟨fun l p hp => ?_, fun l p hp => ?_, fun r hr hm => ?_, fun m => ?_⟩
  · obtain ⟨b, hb, hbp, hl⟩ := h.basket l p hp
    exact ⟨b, List.mem_filter.2 ⟨hb, decide_eq_true (hbp ▸ hn l p hp)⟩, hbp, hl⟩
  · obtain ⟨r, hr, hrb, hrest⟩ := h.record l p hp
    exact ⟨r, List.mem_filter.2 ⟨hr, decide_eq_true (hrb ▸ hn l p hp)⟩, hrb, hrest⟩
  · obtain ⟨hr, hrn⟩ := List.mem_filter.1 hr
    obtain ⟨b, hb, hbr, hrest⟩ := h.marked r hr hm
    exact ⟨b, List.mem_filter.2 ⟨hb, by rw [hbr]; exact hrn⟩, hbr, hrest⟩
  · exact ((List.filter_sublist.filter _).length_le).trans (h.few m)

/-- Records without the mark go. -/
theorem dropRecords (h : PresentsAgree bs os pres) {keep : OverrideRecord → Bool}
    (hk : ∀ r ∈ os, isPresented r = true → keep r = true) : PresentsAgree bs (os.filter keep) pres := by
  refine ⟨h.basket, fun l p hp => ?_, fun r hr hm => h.marked r (List.mem_of_mem_filter hr) hm, fun m => ?_⟩
  · obtain ⟨r, hr, hrb, hrl, hrs, hm⟩ := h.record l p hp
    exact ⟨r, List.mem_filter.2 ⟨hr, hk r hr hm⟩, hrb, hrl, hrs, hm⟩
  · exact ((List.filter_sublist.filter _).length_le).trans (h.few m)

theorem few_map {g : OverrideRecord → OverrideRecord} (hg : ∀ r ∈ os, (g r).basket = r.basket) (n : Nat) :
    ((os.map g).filter fun r => decide (r.basket = n)).length = (os.filter fun r => decide (r.basket = n)).length := by
  rw [List.filter_map, List.length_map]
  refine congrArg List.length (List.filter_congr fun r hr => ?_)
  simp [hg r hr]

/-- Records without the mark changed but for their keys, and left without it. -/
theorem mapUnmarked (h : PresentsAgree bs os pres) {g : OverrideRecord → OverrideRecord}
    (hg : ∀ r ∈ os, (isPresented r = true → g r = r) ∧ (isPresented r = false → isPresented (g r) = false)
      ∧ (g r).basket = r.basket) : PresentsAgree bs (os.map g) pres := by
  refine ⟨h.basket, fun l p hp => ?_, fun r hr hm => ?_, fun n => ?_⟩
  · obtain ⟨r, hr, hrest⟩ := h.record l p hp
    refine ⟨r, List.mem_map.2 ⟨r, hr, (hg r hr).1 hrest.2.2.2⟩, hrest⟩
  · obtain ⟨q, hq, rfl⟩ := List.mem_map.1 hr
    obtain ⟨hsame, hnot, -⟩ := hg q hq
    cases hq' : isPresented q
    · rw [hnot hq'] at hm
      cases hm
    · rw [hsame hq']
      exact h.marked q hq hq'
  · rw [few_map fun r hr => (hg r hr).2.2]
    exact h.few n

/-- A record without the mark joins a basket with room. -/
theorem addRecord (h : PresentsAgree bs os pres) {r : OverrideRecord} (hr : isPresented r = false)
    (hroom : (os.filter fun o => decide (o.basket = r.basket)).length < 8) : PresentsAgree bs (os ++ [r]) pres := by
  refine ⟨h.basket, fun l p hp => ?_, fun o ho hm => ?_, fun n => ?_⟩
  · obtain ⟨o, ho, hrest⟩ := h.record l p hp
    exact ⟨o, List.mem_append_left _ ho, hrest⟩
  · rcases List.mem_append.1 ho with ho | ho
    · exact h.marked o ho hm
    · rw [List.mem_singleton.1 ho, hr] at hm
      cases hm
  · rw [List.filter_append, List.filter_singleton, List.length_append]
    by_cases hn : r.basket = n
    · subst hn
      simpa using hroom
    · simpa [hn] using h.few n

/-! ### A presentation begins and ends -/

/-- The route of lane `l`, which presents nothing, presents record `r` of a basket on that lane. -/
theorem present (h : PresentsAgree bs os pres) {l : Nat} {r : OverrideRecord} {b : Basket} {p : Presentation}
    {g : OverrideRecord → OverrideRecord} (hone : ∀ o ∈ os, o.basket = r.basket → o.line = r.line → o = r)
    (hl : pres l = none) (hr : r ∈ os) (hnew : isPresented r = false) (hb : b ∈ bs) (hbr : b.number = r.basket)
    (hbl : b.lane = some l) (hp : p.basket = r.basket ∧ p.line = r.line ∧ p.seq = r.seq)
    (hg : ∀ o, (g o).basket = o.basket ∧ (g o).line = o.line ∧ (g o).seq = o.seq ∧ isPresented (g o) = true) :
    PresentsAgree bs (os.map fun o => if o.basket = r.basket ∧ o.line = r.line then g o else o)
      fun k => if k = l then some p else pres k := by
  obtain ⟨hpb, hpl, hps⟩ := hp
  have hother {o : OverrideRecord} (ho : o ∈ os) (hm : isPresented o = true) :
      ¬ (o.basket = r.basket ∧ o.line = r.line) := fun ⟨hob, hol⟩ => by
    rw [hone o ho hob hol, hnew] at hm
    cases hm
  refine ⟨fun k q hq => ?_, fun k q hq => ?_, fun x hx hm => ?_, fun n => ?_⟩
  · split at hq
    · rename_i hk
      cases hq
      exact ⟨b, hb, hbr.trans hpb.symm, hk ▸ hbl⟩
    · exact h.basket k q hq
  · split at hq
    · cases hq
      obtain ⟨hgb, hgl, hgs, hgm⟩ := hg r
      exact ⟨g r, List.mem_map.2 ⟨r, hr, if_pos ⟨rfl, rfl⟩⟩, hgb.trans hpb.symm, hgl.trans hpl.symm, hgs.trans hps.symm, hgm⟩
    · obtain ⟨o, ho, hob, hol, hos, hm⟩ := h.record k q hq
      exact ⟨o, List.mem_map.2 ⟨o, ho, if_neg (hother ho hm)⟩, hob, hol, hos, hm⟩
  · obtain ⟨o, ho, rfl⟩ := List.mem_map.1 hx
    by_cases hkey : o.basket = r.basket ∧ o.line = r.line
    · rw [if_pos hkey]
      obtain rfl := hone o ho hkey.1 hkey.2
      obtain ⟨hgb, hgl, -, -⟩ := hg o
      exact ⟨b, hb, hbr.trans hgb.symm, l, p, hbl, if_pos rfl, hpb.trans hgb.symm, hpl.trans hgl.symm⟩
    · rw [if_neg hkey] at hm ⊢
      obtain ⟨c, hc, hco, k, q, hck, hq, hqb, hql⟩ := h.marked o ho hm
      refine ⟨c, hc, hco, k, q, hck, ?_, hqb, hql⟩
      rw [if_neg fun hk => by rw [hk, hl] at hq; cases hq]
      exact hq
  · rw [few_map fun o _ => by split; exacts [(hg o).1, rfl]]
    exact h.few n

/-- The presentation of lane `l` ends, and the mark of its record with it. -/
theorem unpresent (h : PresentsAgree bs os pres) (hd : (bs.map Basket.number).Nodup) {l : Nat} {p : Presentation}
    {g : OverrideRecord → OverrideRecord} (hp : pres l = some p)
    (hg : ∀ o, (g o).basket = o.basket ∧ isPresented (g o) = false) :
    PresentsAgree bs (os.map fun o => if o.basket = p.basket ∧ o.line = p.line then g o else o)
      fun k => if k = l then none else pres k := by
  obtain ⟨b, hb, hbp, hbl⟩ := h.basket l p hp
  /- Two notices of one basket stand on one lane. -/
  have hlane {k : Nat} {q : Presentation} (hq : pres k = some q) (hqp : q.basket = p.basket) : k = l := by
    obtain ⟨c, hc, hcq, hck⟩ := h.basket k q hq
    rw [eq_of_key_eq hd hc hb (hcq.trans (hqp.trans hbp.symm)), hbl] at hck
    exact (Option.some.inj hck).symm
  refine ⟨fun k q hq => ?_, fun k q hq => ?_, fun x hx hm => ?_, fun n => ?_⟩
  · split at hq
    · cases hq
    · exact h.basket k q hq
  · split at hq
    · cases hq
    · rename_i hk
      obtain ⟨o, ho, hob, hrest⟩ := h.record k q hq
      exact ⟨o, List.mem_map.2 ⟨o, ho, if_neg fun hkey => hk (hlane hq (hob.symm.trans hkey.1))⟩, hob, hrest⟩
  · obtain ⟨o, ho, rfl⟩ := List.mem_map.1 hx
    by_cases hkey : o.basket = p.basket ∧ o.line = p.line
    · rw [if_pos hkey, (hg o).2] at hm
      cases hm
    · rw [if_neg hkey] at hm ⊢
      obtain ⟨c, hc, hco, k, q, hck, hq, hqb, hql⟩ := h.marked o ho hm
      refine ⟨c, hc, hco, k, q, hck, ?_, hqb, hql⟩
      rw [if_neg fun hk => hkey ?_]
      · exact hq
      · rw [hk, hp] at hq
        cases hq
        exact ⟨hqb.symm, hql.symm⟩
  · rw [few_map fun o _ => by split; exacts [(hg o).1, rfl]]
    exact h.few n

end PresentsAgree

/-! ### What the agreement says of one record -/

/-- A record that is not shown has no mark. -/
theorem isPresented_of_unshown {s : State} (hs : s.basketTable.Agrees)
    (ho : RecordsAgree s.basketTable.baskets s.overrides) (h : PresentsInStep s) {n line : Nat} (hun : Unshown n line s)
    {r : OverrideRecord} (hr : r ∈ s.overrides) (hrb : r.basket = n) (hrl : r.line = line) : isPresented r = false := by
  subst hrb hrl
  rcases hun with hmark | ⟨b, l, hb, hl, hno⟩
  · exact hmark r (recordOf_of_mem ho hr)
  · refine Bool.eq_false_of_not_eq_true fun hm => ?_
    obtain ⟨c, hc, hcr, k, p, hck, hp, hpb, hpl⟩ := h.marked r hr hm
    obtain rfl := eq_of_key_eq hs.nodup hc (findBasket_mem hb) (hcr.trans (findBasket_number hb).symm)
    cases hl.symm.trans hck
    exact hno p hp ⟨hpb, hpl⟩

theorem isPending_of_isPresented {r : OverrideRecord} (h : isPresented r = true) : isPending r = true := by
  unfold isPresented at h
  unfold isPending
  cases hr : r.state with
  | pending count presented => rfl
  | granted who most => rw [hr] at h; cases h

/-- A basket without a PENDING record has no notice anywhere. -/
theorem no_notice_of_no_pending {s : State} (h : PresentsInStep s) {n : Nat}
    (hrecords : (basketRecords n s).any isPending = false) : ∀ l p, presentationOf l s = some p → p.basket ≠ n := by
  rintro l p hp rfl
  obtain ⟨r, hr, hrb, -, -, hm⟩ := h.record l p hp
  have hmem : r ∈ basketRecords p.basket s := List.mem_filter.2 ⟨hr, decide_eq_true hrb⟩
  exact absurd (isPending_of_isPresented hm) (List.any_eq_false.1 hrecords r hmem)

/-- A parked basket has no notice anywhere. -/
theorem no_notice_of_no_lane {s : State} (hs : s.basketTable.Agrees) (h : PresentsInStep s) {b : Basket}
    (hb : findBasket b.number s = some b) (hl : b.lane = none) : ∀ l p, presentationOf l s = some p → p.basket ≠ b.number := by
  rintro l p hp hpb
  obtain ⟨c, hc, hcp, hcl⟩ := h.basket l p hp
  rw [eq_of_key_eq hs.nodup hc (findBasket_mem hb) (hcp.trans hpb), hl] at hcl
  cases hcl

/-- The basket that a lane names is on that lane. -/
theorem lane_of_activeBasket {s : State} (hs : s.basketTable.Agrees) {l : Nat} {b : Basket}
    (h : activeBasket l s = some b) : findBasket b.number s = some b ∧ b.lane = some l := by
  unfold activeBasket at h
  split at h
  · rename_i r hr
    obtain ⟨n, hn, hb⟩ := Option.bind_eq_some_iff.1 h
    have hbn := findBasket_number hb
    obtain ⟨c, hc, hcn, hcl⟩ := hs.laneHas l r n hr hn
    rw [eq_of_key_eq hs.nodup hc (findBasket_mem hb) (hcn.trans hbn.symm)] at hcl
    exact ⟨hbn.symm ▸ hb, hcl⟩
  · cases h

/-! ### Each change keeps them so -/

theorem presentationOf_congr {s t : State} (h : t.router = s.router) (l : Nat) : presentationOf l t = presentationOf l s := by
  unfold presentationOf
  rw [h]

theorem PresentsInStep.of_pres {t : State} {pres : Nat → Option Presentation}
    (ht : PresentsAgree t.basketTable.baskets t.overrides pres) (h : ∀ l, presentationOf l t = pres l) : PresentsInStep t := by
  obtain rfl : (fun l => presentationOf l t) = pres := funext h
  exact ht

theorem PresentsInStep.of_router {s t : State} (h : t.router = s.router)
    (ht : PresentsAgree t.basketTable.baskets t.overrides fun l => presentationOf l s) : PresentsInStep t :=
  .of_pres ht (presentationOf_congr h)

theorem mem_bySeq {r : OverrideRecord} {rs : List OverrideRecord} : r ∈ bySeq rs ↔ r ∈ rs := by
  have hinsert (q : OverrideRecord) (xs : List OverrideRecord) : r ∈ insertBySeq q xs ↔ r = q ∨ r ∈ xs := by
    induction xs with
    | nil => simp [insertBySeq]
    | cons x rest ih =>
      unfold insertBySeq
      split
      · simp
      · simp [ih, or_left_comm]
  induction rs with
  | nil => simp [bySeq]
  | cons q rest ih => simp only [bySeq, hinsert, ih, List.mem_cons]

theorem lowestSeq_mem {rs : List OverrideRecord} {r : OverrideRecord} (h : lowestSeq rs = some r) : r ∈ rs := by
  induction rs generalizing r with
  | nil => cases h
  | cons x rest ih =>
    unfold lowestSeq at h
    split at h
    · cases h
      exact List.mem_cons_self
    · rename_i q hq
      split at h
      · cases h
        exact List.mem_cons_of_mem _ (ih hq)
      · cases h
        exact List.mem_cons_self

theorem isPresented_of_isWaiting {r : OverrideRecord} (h : isWaiting r = true) : isPresented r = false := by
  unfold isWaiting at h
  unfold isPresented
  cases hr : r.state with
  | pending count presented => simpa [hr] using h
  | granted who most => rfl

theorem presentationOf_eq_bind (l : Nat) (s : State) :
    presentationOf l s = (s.router.routes[l]?).bind Route.presented := by
  unfold presentationOf
  cases s.router.routes[l]? <;> rfl

theorem presentationOf_mapDesk (l d : Nat) (f : Desk → Desk) (s : State) :
    presentationOf l (mapDesk d f s) = presentationOf l s := by
  rw [presentationOf_eq_bind, presentationOf_eq_bind, mapDesk_routes]

/-- No record and no notice anywhere. -/
theorem presentsInStep_of_quiet {s : State} (ho : s.overrides = []) (hp : ∀ l, presentationOf l s = none) :
    PresentsInStep s := by
  refine ⟨fun l p hlp => ?_, fun l p hlp => ?_, fun r hr => ?_, fun n => by rw [ho]; exact Nat.zero_le _⟩
  · cases (hp l).symm.trans hlp
  · cases (hp l).symm.trans hlp
  · rw [ho] at hr
    cases hr

/-- A basket's records beside one of a line, which the table holds already or the basket has room for (R108). -/
theorem length_basketRecords_lt {n line : Nat} {s : State}
    (h : hasRecord n line s = true ∨ (basketRecords n s).length < 8)
    (hfew : (s.overrides.filter fun r => decide (r.basket = n)).length ≤ 8) :
    ((s.overrides.filter fun o => decide (¬ (o.basket = n ∧ o.line = line))).filter
      fun o => decide (o.basket = n)).length < 8 := by
  rw [List.filter_comm]
  rcases h with h | h
  · rw [hasRecord_eq_any, List.any_eq_true] at h
    obtain ⟨r, hr, hkey⟩ := h
    obtain ⟨hrb, hrl⟩ := Bool.and_eq_true_iff.1 hkey
    refine (List.length_filter_lt_length_iff_exists.2 ⟨r, List.mem_filter.2 ⟨hr, hrb⟩, ?_⟩).trans_le hfew
    simpa using ⟨of_decide_eq_true hrb, of_decide_eq_true hrl⟩
  · exact (List.length_filter_le ..).trans_lt h

theorem Change.presentsInStep {s t : State} (h : Change s t) (hs : s.basketTable.Agrees)
    (ho : RecordsAgree s.basketTable.baskets s.overrides) (hp : PresentsInStep s) : PresentsInStep t := by
  have hmap {n : Nat} {f : Basket → Basket} (hf : ∀ b, findBasket n s = some b → (f b).number = b.number
      ∧ ∀ l p, b.lane = some l → presentationOf l s = some p → p.basket = b.number → (f b).lane = some l) :
      PresentsAgree (mapBasket n f s).basketTable.baskets s.overrides fun l => presentationOf l s := by
    refine hp.mapBaskets fun b hb => ?_
    split
    · rename_i hn
      exact hf b (hn ▸ findBasket_of_mem hs.nodup hb)
    · exact ⟨rfl, fun l p hl _ _ => hl⟩
  have hunmarked {n line : Nat} (hun : Unshown n line s) {r : OverrideRecord} (hr : r ∈ s.overrides)
      (hm : isPresented r = true) : ¬ (r.basket = n ∧ r.line = line) := fun ⟨hrb, hrl⟩ => by
    rw [isPresented_of_unshown hs ho hp hun hr hrb hrl] at hm
    cases hm
  cases h with
  | opened l => exact .of_router (by simp [withNewBasket]) (hp.addBasket _)
  | tended n f hf =>
    refine .of_router (by simp) (hmap fun b _ => ?_)
    obtain ⟨coupons, count, hb⟩ := hf b
    rw [hb]
    exact ⟨rfl, fun l p hl _ _ => hl⟩
  | raised ns =>
    refine .of_router (by simp) (hp.mapBaskets fun b _ => ?_)
    split
    · exact ⟨raised_number b, fun l p hl _ _ => (raised_lane b).trans hl⟩
    · exact ⟨rfl, fun l p hl _ _ => hl⟩
  | requantified n line q b x g hb hx hsum hkey hshown hg =>
    refine .of_router (by simp [mapRecord]) (PresentsAgree.mapUnmarked (hmap (f := setQuantity line q) fun b _ =>
      ⟨rfl, fun l p hl _ _ => hl⟩) fun r hr => ?_)
    refine ⟨fun hm => if_neg (hunmarked hshown hr hm), fun hm => ?_, ?_⟩
    · split
      · rename_i hrk
        exact (hg r (hrk.1 ▸ hrk.2 ▸ recordOf_of_mem ho hr)).2.2.1
      · exact hm
    · split
      · exact (hkey r).1
      · rfl
  | parked n l timer b hb _ _ hrecords =>
    refine .of_router (by simp [withParked]) (hmap (f := parkBasket s.calendar.now timer) fun c hc => ⟨rfl, ?_⟩)
    exact fun k p _ hk hpc => absurd (hpc.trans (findBasket_number hc)) (no_notice_of_no_pending hp hrecords k p hk)
  | recalled n l b hb hn =>
    refine .of_router (by simp [withRecalled]) (hmap (f := recallBasket l) fun c hc => ⟨rfl, fun k p hck => ?_⟩)
    have hparked := (hs.parked_iff c (findBasket_mem hc)).2 (findBasket_number hc ▸ hn)
    rw [hs.parkedLane c (findBasket_mem hc) hparked] at hck
    cases hck
  | attached n a =>
    refine .of_router (s := s) (by simp) ?_
    rw [mapBasket_baskets, addReference_basketTable, mapBasket_overrides, addReference_overrides]
    exact hmap (f := fun b => { b with account := some a }) fun _ _ => ⟨rfl, fun l p hl _ _ => hl⟩
  | detached n a =>
    refine .of_router (s := s) (by simp) ?_
    rw [mapBasket_baskets, dropReference_basketTable, mapBasket_overrides, dropReference_overrides]
    exact hmap (f := fun b => { b with account := none }) fun _ _ => ⟨rfl, fun l p hl _ _ => hl⟩
  | keyed b x r hb hx hprice hreduction hnew hgranted hold hbasket =>
    have hkeep : ∀ o ∈ s.overrides, isPresented o = true →
        decide (¬ (o.basket = r.basket ∧ o.line = r.line)) = true :=
      fun o hom hm => decide_eq_true (hunmarked hold hom hm)
    refine .of_router (by simp [keyRecord]) (((hp.dropRecords hkeep).addRecord hnew ?_).mapBaskets fun c _ => ?_)
    · exact length_basketRecords_lt hbasket (hp.few r.basket)
    · split
      · exact ⟨raised_number _, fun l p hl _ _ => (raised_lane _).trans hl⟩
      · exact ⟨rfl, fun l p hl _ _ => hl⟩
  | recordRemoved n line hun =>
    refine .of_router (by simp) (hp.dropRecords fun r hr hm => ?_)
    have hne := hunmarked hun hr hm
    rw [not_and_or] at hne
    simpa using hne
  | recordGranted n line who hun =>
    refine .of_router (by simp) (hp.mapUnmarked fun r hr => ?_)
    refine ⟨fun hm => if_neg (hunmarked hun hr hm), fun hm => ?_, ?_⟩
    · split
      · rfl
      · exact hm
    · split <;> rfl
  | displaced l hnone =>
    refine .of_router (by simp) (hp.dropRecords fun r hr hm => ?_)
    have hnot : r ∉ Machine.displaced l s := fun hd => by
      unfold Machine.displaced at hd
      split at hd
      · rename_i b hb
        obtain ⟨hrb, -⟩ := List.mem_filter.1 (mem_bySeq.1 hd)
        have hrn : r.basket = b.number := of_decide_eq_true (List.mem_filter.1 hrb).2
        obtain ⟨hf, hbl⟩ := lane_of_activeBasket hs hb
        obtain ⟨c, hc, hcr, k, p, hck, hk, -⟩ := hp.marked r hr hm
        rw [eq_of_key_eq hs.nodup hc (findBasket_mem hf) (hcr.trans hrn), hbl] at hck
        cases hck
        cases hnone.symm.trans hk
      · cases hd
    simpa using hnot
  | route l f hf =>
    have hsame (k : Nat) : presentationOf k (mapRoute l f s) = presentationOf k s := by
      rw [presentationOf_eq_bind, presentationOf_eq_bind, mapRoute_routes]
      split
      · rename_i hk
        subst hk
        cases s.router.routes[k]? <;> simp [hf]
      · rfl
    simpa [PresentsInStep, hsame] using hp
  | desk d f hf =>
    have hsame (k : Nat) : presentationOf k (mapDesk d f s) = presentationOf k s := by
      unfold presentationOf
      rw [mapDesk_routes]
    simpa [PresentsInStep, hsame] using hp
  | presented l d q r hq hcan =>
    obtain ⟨q', b, hq', -, hnone, hb, hlow, -⟩ := canPresent_eq_some.1 hcan
    cases hq.symm.trans hq'
    obtain ⟨hrb, hwait⟩ := List.mem_filter.1 (lowestSeq_mem hlow)
    obtain ⟨hr, hrn⟩ := List.mem_filter.1 hrb
    obtain ⟨hf, hbl⟩ := lane_of_activeBasket hs hb
    have hstate := hp.present (l := l) (b := b) (g := markPresented) (p :=
        { basket := r.basket, line := r.line, seq := r.seq, desk := d, timer := 1000 * s.tables.limits.noticeLimit })
      (fun o hom hob hol => ho.eq_of_key hom hr hob hol) ((presentationOf_of_route hq).trans hnone) hr
      (isPresented_of_isWaiting hwait) (findBasket_mem hf) (of_decide_eq_true hrn).symm hbl ⟨rfl, rfl, rfl⟩
      fun o => ⟨rfl, rfl, rfl, rfl⟩
    refine .of_pres (by rw [presentOn_basketTable, presentOn_overrides]; exact hstate) fun k => ?_
    rw [presentOn, presentationOf_mapDesk, presentationOf_eq_bind, mapRoute_routes]
    split
    · simp [mapRecord, hq]
    · rw [presentationOf_eq_bind]
      rfl
  | takenBack l p decided hlp =>
    have hstate := hp.unpresent hs.nodup (g := markTakenBack) hlp fun o => ⟨rfl, rfl⟩
    refine .of_pres (by
      rw [withTakenBack, endPresentation_basketTable, endPresentation_overrides]; exact hstate) fun k => ?_
    rw [withTakenBack, endPresentation, presentationOf_mapDesk, presentationOf_eq_bind, mapRoute_routes]
    split
    · cases (mapRecord p.basket p.line markTakenBack s).router.routes[l]? <;> rfl
    · rw [presentationOf_eq_bind]
      rfl
  | cancelled b hb _ hnotice =>
    refine .of_router (s := s) (by simp) ?_
    rw [cancelBasket_basketTable, cancelBasket_overrides]
    refine hp.free fun l p hlp hpb => ?_
    obtain ⟨c, hc, hcp, hcl⟩ := hp.basket l p hlp
    rw [eq_of_key_eq hs.nodup hc (findBasket_mem hb) (hcp.trans hpb)] at hcl
    exact hnotice l p hcl hlp hpb
  | expired b hb hparked =>
    refine .of_router (s := s) (by simp) ?_
    rw [cancelBasket_basketTable, cancelBasket_overrides]
    exact hp.free (no_notice_of_no_lane hs hp hb (hs.parkedLane b (findBasket_mem hb) hparked))
  | settled l earned b r hb hl hstate hrecords =>
    refine .of_router (s := s) (by simp [withSettled, removeRecords]) ?_
    have hfree := hp.free (no_notice_of_no_pending hp hrecords)
    simpa [withSettled, freeBasket_basketTable, removeRecords] using hfree
  | admitted r rest b _ hb =>
    refine .of_router (s := s) (by simp) ?_
    obtain ⟨hf, hn, -⟩ := findBasket_firstExpired hb
    have hbm := findBasket_mem hf
    rw [cancelBasket_basketTable, cancelBasket_overrides]
    exact hp.free (no_notice_of_no_lane hs hp hf (hs.parkedLane b hbm ((hs.parked_iff b hbm).2 hn)))
  | restarted =>
    refine presentsInStep_of_quiet rfl fun l => ?_
    rw [presentationOf_eq_bind]
    simp [restartedState, Router.restarted]
  | lineAdded n | lineVoided n | totalling n | markedExpired n =>
    exact .of_router (by simp [withTotalling, withExpired]) (hmap fun _ _ => ⟨rfl, fun l p hl _ _ => hl⟩)
  | _ =>
    have hpres : PresentsAgree s.basketTable.baskets s.overrides fun l => presentationOf l s := hp
    exact .of_router (s := s) (by simp [Machine.refreshed, clearCounts, mapLane])
      (by simpa [Machine.refreshed, clearCounts, mapLane] using hpres)

end Sys2Proof.Machine
end

section
/-! Override records, notices and plans: every step keeps them in agreement (O60). -/

namespace Sys2Proof.Machine

/-! ### Totals and plans (R9, R94) -/

/-- A basket's line total within R9, and its plan in balance within the same range. -/
def Priced (b : Basket) : Prop :=
  linesTotal b.lines ≤ 99999999 ∧ ∀ p, b.plan = some p → p.balanced ∧ p.gross ≤ 99999999

/-- A snapshot's line total within R9. -/
def PricedSnapshot (snap : Snapshot) : Prop := linesTotal snap.lines ≤ 99999999

theorem plansBalanced_iff {s : State} :
    PlansBalanced s ↔ (∀ b ∈ s.basketTable.baskets, Priced b) ∧ AllSnapshots PricedSnapshot s := Iff.rfl

theorem priced_of_same {b c : Basket} (h : Priced b) (hl : c.lines = b.lines) (hp : c.plan = b.plan) : Priced c := by
  rw [Priced, hl, hp]
  exact h

theorem linesTotal_filter_le (p : Line → Bool) (ls : List Line) : linesTotal (ls.filter p) ≤ linesTotal ls :=
  (List.filter_sublist.map Line.extended).sum_le_sum fun _ _ => Nat.zero_le _

theorem raised_priced {b : Basket} (h : Priced b) : Priced b.raised := by
  rcases raised_cases b with ⟨-, hb⟩ | ⟨-, hb⟩ <;> rw [hb] <;> exact h

theorem Change.priced {s t : State} (h : Change s t) (hs : s.basketTable.Agrees)
    (hp : ∀ b ∈ s.basketTable.baskets, Priced b) : ∀ b ∈ t.basketTable.baskets, Priced b := by
  have hmap {n : Nat} {f : Basket → Basket} (hf : ∀ b, findBasket n s = some b → Priced b → Priced (f b)) :
      ∀ b ∈ (mapBasket n f s).basketTable.baskets, Priced b := by
    intro b hb
    obtain ⟨c, hc, rfl⟩ := List.mem_map.1 hb
    split
    · rename_i hn
      exact hf c (hn ▸ findBasket_of_mem hs.nodup hc) (hp c hc)
    · exact hp c hc
  have hfree {n : Nat} {bs : List Basket} (hbs : bs = s.basketTable.baskets.filter fun b => decide (b.number ≠ n)) :
      ∀ b ∈ bs, Priced b := fun b hb => hp b (List.mem_of_mem_filter (hbs ▸ hb))
  cases h with
  | opened l =>
    intro b hb
    rcases List.mem_append.1 hb with hb | hb
    · exact hp b hb
    · rw [List.mem_singleton.1 hb]
      exact ⟨Nat.zero_le _, fun p h => by cases h⟩
  | tended n f hf =>
    refine hmap fun b _ h => ?_
    obtain ⟨coupons, count, hb⟩ := hf b
    rw [hb]
    exact h
  | raised ns =>
    intro b hb
    obtain ⟨c, hc, rfl⟩ := List.mem_map.1 hb
    split
    · exact raised_priced (hp c hc)
    · exact hp c hc
  | keyed b x r =>
    intro b hb
    obtain ⟨c, hc, rfl⟩ := List.mem_map.1 hb
    split
    · exact raised_priced (b := { c with keyingCount := c.keyingCount + 1 }) (hp c hc)
    · exact hp c hc
  | lineAdded n b x hb hx hsum =>
    refine hmap fun c hc h => ⟨?_, h.2⟩
    cases hb.symm.trans hc
    simpa [linesTotal] using hsum
  | requantified n line q b x g hb hx hsum =>
    refine hmap (f := setQuantity line q) fun c hc h => ⟨?_, h.2⟩
    cases hb.symm.trans hc
    exact hsum
  | lineVoided n line => exact hmap fun c _ h => ⟨(linesTotal_filter_le ..).trans h.1, h.2⟩
  | parked n l timer => exact hmap (f := parkBasket s.calendar.now timer) fun _ _ h => h
  | recalled n l => exact hmap (f := recallBasket l) fun _ _ h => h
  | attached n a =>
    rw [mapBasket_baskets, addReference_basketTable]
    exact hmap (f := fun b => { b with account := some a }) fun _ _ h => h
  | detached n a =>
    rw [mapBasket_baskets, dropReference_basketTable]
    exact hmap (f := fun b => { b with account := none }) fun _ _ h => h
  | cancelled b | expired b | admitted r rest b =>
    exact hfree (n := b.number) (congrArg BasketTable.baskets (cancelBasket_basketTable ..))
  | settled l earned b r => exact hfree (n := b.number) (by simp [withSettled, freeBasket_basketTable])
  | restarted => exact fun b hb => by cases hb
  | totalling n | markedExpired n => exact hmap fun _ _ h => h
  | _ => simpa [withTakenBack, Machine.refreshed, clearCounts, removeRecord, mapRecord, mapLane] using hp

/-- The plan a completed evaluation installs is in balance when its snapshot is sound and in range. -/
theorem installed_priced {snap : Snapshot} (hsound : snap.sound) (hrange : PricedSnapshot snap) {b : Basket}
    (hb : Priced b) : Priced (installed (planOf snap) b) := by
  refine ⟨hb.1, fun p hp => ?_⟩
  obtain rfl := Option.some.inj hp
  exact ⟨planOf_balanced hsound, hrange⟩

/-! ### The completion of an evaluation -/

/-- A basket as it was, or with the plan of a running unit's snapshot installed. -/
def MaybeInstalled (s : State) (b c : Basket) : Prop :=
  c = b ∨ ∃ (k : Nat) (r : RunningUnit), s.evaluator.units[k]? = some (some r) ∧ c = installed (planOf r.snapshot) b

theorem MaybeInstalled.same {s : State} {b c : Basket} (h : MaybeInstalled s b c) :
    c.number = b.number ∧ c.lines = b.lines ∧ c.nextLine = b.nextLine ∧ c.lane = b.lane := by
  rcases h with rfl | ⟨_, _, -, rfl⟩ <;> exact ⟨rfl, rfl, rfl, rfl⟩

/-- What the completion of an evaluation passes on to the idle unit: no unit that did not run before, and the plan of one
installed in its basket, if any. -/
theorem evaluationCompletion_via (i : Nat) (s : State) :
    (evaluationCompletion i s).state = s ∨ ∃ (u : State) (f : Basket → Basket), (evaluationCompletion i s).state = unitTakes u
      ∧ u.overrides = s.overrides ∧ u.router = s.router ∧ (∀ P, AllSnapshots P s → AllSnapshots P u)
      ∧ u.basketTable.baskets = s.basketTable.baskets.map f ∧ ∀ b, MaybeInstalled s b (f b) := by
  have hfree (P : Snapshot → Prop) (hs : AllSnapshots P s) : AllSnapshots P (freeUnit i s) := by
    intro k r hk
    simp only [freeUnit, State.evaluator_withEvaluator, Vector.getElem?_setIfInBounds] at hk
    split at hk
    · split at hk <;> cases hk
    · exact hs k r hk
  rcases evaluationCompletion_cases i s with h | ⟨u, hu, h | ⟨-, b, -, h | h⟩⟩
  · exact .inl h
  · exact .inr ⟨_, id, h, rfl, rfl, hfree, by simp, fun _ => .inl rfl⟩
  · refine .inr ⟨_, _, h, rfl, rfl, hfree, rfl, fun b => ?_⟩
    split
    · exact .inr ⟨i, u, hu, rfl⟩
    · exact .inl rfl
  · exact .inr ⟨_, id, h, rfl, rfl, hfree, by simp, fun _ => .inl rfl⟩

/-- Baskets in order, the records in agreement with them, and the snapshots sound. -/
structure RecordsInStep (s : State) : Prop where
  baskets : BasketsInStep s
  records : RecordsAgree s.basketTable.baskets s.overrides
  snapshots : AllSnapshots Snapshot.sound s

theorem Change.recordsInStep {s t : State} (h : Change s t) (hs : RecordsInStep s) : RecordsInStep t where
  baskets := ⟨h.agrees hs.baskets.1, h.evaluationsAgree hs.baskets.1 hs.baskets.2⟩
  records := h.recordsAgree hs.baskets.1 hs.records
  snapshots := h.snapshots hs.snapshots fun _ hb => snapshotOf_sound hs.baskets.1.nodup hs.records hb

theorem unitTakes_snapshots {P : Snapshot → Prop} {s : State} (hs : AllSnapshots P s)
    (hnew : ∀ b ∈ s.basketTable.baskets, P (snapshotOf b s)) : AllSnapshots P (unitTakes s) :=
  (Change.unitTaken s).snapshots hs hnew

theorem evaluationCompletion_recordsInStep (i : Nat) {s : State} (hs : RecordsInStep s) :
    RecordsInStep (evaluationCompletion i s).state := by
  have hbaskets : BasketsInStep (evaluationCompletion i s).state :=
    ⟨evaluationCompletion_agrees i hs.baskets.1 hs.baskets.2, evaluationCompletion_evaluationsAgree i hs.baskets.2⟩
  rcases evaluationCompletion_via i s with h | ⟨u, f, h, hover, -, hsnap, hf, hinst⟩
  · rwa [h]
  · have hrecords : RecordsAgree u.basketTable.baskets u.overrides := by
      rw [hf, hover]
      refine hs.records.mapBaskets fun b _ => ?_
      obtain ⟨hn, hl, hnl, -⟩ := (hinst b).same
      exact ⟨hn, hl, hnl⟩
    have hd : (u.basketTable.baskets.map Basket.number).Nodup := by
      rw [h, BasketsInStep, unitTakes_basketTable] at hbaskets
      exact hbaskets.1.nodup
    refine ⟨hbaskets, ?_, ?_⟩
    · rwa [h, unitTakes_basketTable, unitTakes_overrides]
    · rw [h]
      exact unitTakes_snapshots (hsnap _ hs.snapshots) fun _ hb => snapshotOf_sound hd hrecords hb

theorem evaluationCompletion_presents (i : Nat) {s : State} (hs : PresentsInStep s) :
    PresentsInStep (evaluationCompletion i s).state := by
  rcases evaluationCompletion_via i s with h | ⟨u, f, h, hover, hrouter, -, hf, hinst⟩
  · rwa [h]
  · refine .of_router (s := s) (by rw [h, unitTakes_router, hrouter]) ?_
    rw [h, unitTakes_basketTable, unitTakes_overrides, hf, hover]
    refine hs.mapBaskets fun b _ => ?_
    obtain ⟨hn, -, -, hlane⟩ := (hinst b).same
    exact ⟨hn, fun l p hl _ _ => hlane.trans hl⟩

/-- Totals, plans and snapshots within range. -/
def PlansInStep (s : State) : Prop := (∀ b ∈ s.basketTable.baskets, Priced b) ∧ AllSnapshots PricedSnapshot s

theorem evaluationCompletion_plans (i : Nat) {s : State} (hsound : AllSnapshots Snapshot.sound s) (hs : PlansInStep s) :
    PlansInStep (evaluationCompletion i s).state := by
  obtain ⟨hpriced, hrange⟩ := id hs
  rcases evaluationCompletion_via i s with h | ⟨u, f, h, -, -, hsnap, hf, hinst⟩
  · rwa [h]
  · have hbaskets : ∀ b ∈ u.basketTable.baskets, Priced b := by
      rw [hf]
      intro b hb
      obtain ⟨c, hc, rfl⟩ := List.mem_map.1 hb
      rcases hinst c with hsame | ⟨k, r, hk, hplan⟩
      · rw [hsame]
        exact hpriced c hc
      · rw [hplan]
        exact installed_priced (hsound k r hk) (hrange k r hk) (hpriced c hc)
    rw [h]
    refine ⟨?_, unitTakes_snapshots (hsnap _ hrange) fun b hb => (hbaskets b hb).1⟩
    rwa [unitTakes_basketTable]

theorem Change.plansInStep {s t : State} (h : Change s t) (hs : s.basketTable.Agrees) (hp : PlansInStep s) :
    PlansInStep t :=
  ⟨h.priced hs hp.1, h.snapshots hp.2 fun b hb => (hp.1 b hb).1⟩

/-! ### Timers and resets -/

/-- A basket that a timer has run on keeps all but the timer. -/
theorem TimersRun.baskets_same {s t : State} (h : TimersRun s t) : ∃ f : Basket → Basket,
    t.basketTable.baskets = s.basketTable.baskets.map f ∧ ∀ b, (f b).number = b.number ∧ (f b).lines = b.lines
      ∧ (f b).nextLine = b.nextLine ∧ (f b).lane = b.lane ∧ (f b).plan = b.plan := by
  obtain ⟨f, heq, hf⟩ := h.baskets
  refine ⟨f, by rw [heq], fun b => ?_⟩
  obtain ⟨k, hk, -⟩ := hf b
  rw [hk]
  exact ⟨rfl, rfl, rfl, rfl, rfl⟩

theorem TimersRun.snapshots {P : Snapshot → Prop} {s t : State} (h : TimersRun s t) (hs : AllSnapshots P s) :
    AllSnapshots P t := by
  unfold AllSnapshots
  rw [h.evaluator]
  exact hs

theorem TimersRun.recordsInStep {s t : State} (h : TimersRun s t) (hs : RecordsInStep s) : RecordsInStep t := by
  obtain ⟨f, heq, hf⟩ := h.baskets_same
  refine ⟨⟨h.agrees hs.baskets.1, h.evaluationsAgree hs.baskets.2⟩, ?_, h.snapshots hs.snapshots⟩
  rw [heq, h.overrides]
  refine hs.records.mapBaskets fun b _ => ?_
  obtain ⟨hn, hl, hnl, -, -⟩ := hf b
  exact ⟨hn, hl, hnl⟩

/-- What a lane's route has presented, but for its timer. -/
theorem shown_presentationOf {s t : State} (h : t.router.routes.toList.map shown = s.router.routes.toList.map shown)
    (l : Nat) : (presentationOf l t).map (fun p => { p with timer := 0 })
      = (presentationOf l s).map fun p => { p with timer := 0 } := by
  have hget (u : State) : (presentationOf l u).map (fun p => { p with timer := 0 })
      = ((u.router.routes.toList.map shown)[l]?).bind id := by
    rw [presentationOf_eq_bind, List.getElem?_map]
    cases hq : u.router.routes[l]? <;> simp [hq, shown]
  rw [hget, hget, h]

theorem PresentsAgree.of_shown {bs : List Basket} {os : List OverrideRecord} {pres pres' : Nat → Option Presentation}
    (h : PresentsAgree bs os pres) (heq : ∀ l, (pres' l).map (fun p => { p with timer := 0 })
      = (pres l).map fun p => { p with timer := 0 }) : PresentsAgree bs os pres' := by
  have hone {l : Nat} {p : Presentation} {f g : Nat → Option Presentation}
      (hfg : (f l).map (fun p => { p with timer := 0 }) = (g l).map fun p => { p with timer := 0 }) (hp : f l = some p) :
      ∃ q, g l = some q ∧ q.basket = p.basket ∧ q.line = p.line ∧ q.seq = p.seq := by
    rw [hp] at hfg
    obtain ⟨q, hq, hqp⟩ := Option.map_eq_some_iff.1 hfg.symm
    simp only [Presentation.mk.injEq] at hqp
    obtain ⟨hb, hl, hseq, -, -⟩ := hqp
    exact ⟨q, hq, hb, hl, hseq⟩
  refine ⟨fun l p hp => ?_, fun l p hp => ?_, fun r hr hm => ?_, h.few⟩
  · obtain ⟨q, hq, hqb, -, -⟩ := hone (heq l) hp
    exact hqb ▸ h.basket l q hq
  · obtain ⟨q, hq, hqb, hql, hqs⟩ := hone (heq l) hp
    exact hqb ▸ hql ▸ hqs ▸ h.record l q hq
  · obtain ⟨b, hb, hbr, l, p, hl, hp, hpb, hpl⟩ := h.marked r hr hm
    obtain ⟨q, hq, hqb, hql, -⟩ := hone (heq l).symm hp
    exact ⟨b, hb, hbr, l, q, hl, hq, hqb.trans hpb, hql.trans hpl⟩

theorem TimersRun.presents {s t : State} (h : TimersRun s t) (hs : PresentsInStep s) : PresentsInStep t := by
  obtain ⟨f, heq, hf⟩ := h.baskets_same
  have hmap : PresentsAgree t.basketTable.baskets t.overrides fun l => presentationOf l s := by
    rw [heq, h.overrides]
    refine hs.mapBaskets fun b _ => ?_
    obtain ⟨hn, -, -, hlane, -⟩ := hf b
    exact ⟨hn, fun l p hl _ _ => hlane.trans hl⟩
  exact hmap.of_shown (shown_presentationOf h.routes)

theorem TimersRun.plans {s t : State} (h : TimersRun s t) (hs : PlansInStep s) : PlansInStep t := by
  obtain ⟨f, heq, hf⟩ := h.baskets_same
  refine ⟨fun b hb => ?_, h.snapshots hs.2⟩
  obtain ⟨c, hc, rfl⟩ := List.mem_map.1 (heq ▸ hb)
  obtain ⟨-, hl, -, -, hp⟩ := hf c
  exact priced_of_same (hs.1 c hc) hl hp

section reset

variable (cause : ResetCause) (straps : Straps) (s : State)

theorem resetState_snapshots (P : Snapshot → Prop) : AllSnapshots P (resetState cause straps s) := by
  intro u r hu
  obtain ⟨hlt, hget⟩ := Vector.getElem?_eq_some_iff.1 hu
  simp [resetState, Evaluator.powerOn] at hget

theorem resetState_recordsInStep : RecordsInStep (resetState cause straps s) :=
  ⟨⟨powerOn_agrees, .nil, fun _ hn => (by cases hn)⟩,
    ⟨fun _ hb => (by cases hb), .nil, fun _ hr => (by cases hr)⟩, resetState_snapshots cause straps s _⟩

theorem resetState_presents : PresentsInStep (resetState cause straps s) := by
  refine presentsInStep_of_quiet rfl fun l => ?_
  rw [presentationOf_eq_bind, Option.bind_eq_none_iff]
  intro q hq
  have hmem : q ∈ (List.range 16).map Route.powerOn := by
    have := Vector.mem_of_getElem? hq
    simpa [resetState, Router.powerOn] using this
  obtain ⟨k, -, rfl⟩ := List.mem_map.1 hmem
  rfl

theorem resetState_plans : PlansInStep (resetState cause straps s) :=
  ⟨fun _ hb => (by cases hb), resetState_snapshots cause straps s _⟩

end reset

/-! ### Every step -/

theorem step_recordsInStep {s t : State} (hs : RecordsInStep s) (h : step s = .next t) : RecordsInStep t :=
  step_keeps (P := RecordsInStep) (fun _ _ hs => ⟨hs.baskets, hs.records, hs.snapshots⟩)
    (fun _ _ hs hc => hc.recordsInStep hs) (fun i _ => evaluationCompletion_recordsInStep i)
    (fun c s => (runOut_timersRun c s).recordsInStep) (fun cause straps s _ => resetState_recordsInStep cause straps s)
    (fun _ _ hs => ⟨hs.baskets, hs.records, hs.snapshots⟩) (fun s => (tick_timersRun s).recordsInStep) hs h

/-- What every change keeps beside the records, every step keeps. -/
theorem step_keeps_beside {Q : State → Prop} (hlink : ∀ s x, Q s → Q (s.withLink x))
    (hchange : ∀ s t, RecordsInStep s → Q s → Change s t → Q t)
    (hdone : ∀ i s, RecordsInStep s → Q s → Q (evaluationCompletion i s).state)
    (htimers : ∀ s t, TimersRun s t → Q s → Q t) (hreset : ∀ cause straps s, Q (resetState cause straps s))
    (hpending : ∀ (s : State) cs, Q s → Q { s with pending := cs }) {s t : State} (hs : RecordsInStep s) (hq : Q s)
    (h : step s = .next t) : Q t := by
  refine (step_keeps (P := fun s => RecordsInStep s ∧ Q s) ?_ ?_ ?_ ?_ ?_ ?_ ?_ ⟨hs, hq⟩ h).2
  · exact fun s x ⟨hr, hq⟩ => ⟨⟨hr.baskets, hr.records, hr.snapshots⟩, hlink s x hq⟩
  · exact fun s t ⟨hr, hq⟩ hc => ⟨hc.recordsInStep hr, hchange s t hr hq hc⟩
  · exact fun i s ⟨hr, hq⟩ => ⟨evaluationCompletion_recordsInStep i hr, hdone i s hr hq⟩
  · exact fun c s ⟨hr, hq⟩ => ⟨(runOut_timersRun c s).recordsInStep hr, htimers _ _ (runOut_timersRun c s) hq⟩
  · exact fun cause straps s _ => ⟨resetState_recordsInStep cause straps s, hreset cause straps s⟩
  · exact fun s cs ⟨hr, hq⟩ => ⟨⟨hr.baskets, hr.records, hr.snapshots⟩, hpending s cs hq⟩
  · exact fun s ⟨hr, hq⟩ => ⟨(tick_timersRun s).recordsInStep hr, htimers _ _ (tick_timersRun s) hq⟩

theorem step_presents {s t : State} (hs : RecordsInStep s) (hp : PresentsInStep s) (h : step s = .next t) :
    PresentsInStep t :=
  step_keeps_beside (Q := PresentsInStep) (fun _ _ => id) (fun _ _ hr hp hc => hc.presentsInStep hr.baskets.1 hr.records hp)
    (fun i _ _ => evaluationCompletion_presents i) (fun _ _ ht => ht.presents) resetState_presents (fun _ _ => id) hs hp h

theorem step_plans {s t : State} (hs : RecordsInStep s) (hp : PlansInStep s) (h : step s = .next t) : PlansInStep t :=
  step_keeps_beside (Q := PlansInStep) (fun _ _ => id) (fun _ _ hr hp hc => hc.plansInStep hr.baskets.1 hp)
    (fun i _ hr => evaluationCompletion_plans i hr.snapshots) (fun _ _ ht => ht.plans) resetState_plans (fun _ _ => id)
    hs hp h

/-- Settles O60: each change, the completion of an evaluation and the timers keep the records, the notices and the plans
in agreement, and with them every step does. -/
theorem stepsKeepOverridesAgreed : Obligations.StepsKeepOverridesAgreed := by
  intro s t hb he ho h
  obtain ⟨hrecords, hsnapshots⟩ := overridesAgree_iff.1 ho
  have hs : RecordsInStep s := ⟨⟨basketsAgree_iff.1 hb, he⟩, hrecords, hsnapshots⟩
  obtain ⟨-, hrecords', hsnapshots'⟩ := step_recordsInStep hs h
  exact ⟨overridesAgree_iff.2 ⟨hrecords', hsnapshots'⟩,
    fun hp => presentationsAgree_iff.2 (step_presents hs (presentationsAgree_iff.1 hp) h),
    fun hp => plansBalanced_iff.2 (step_plans hs (plansBalanced_iff.1 hp) h)⟩

end Sys2Proof.Machine
end

section
/-! A step, the part's own next step, the values after reset and the resets themselves (O1 to O4). -/

namespace Sys2Proof.Machine

/-- Settles O1: it is the definition of a step, by the commands that wait. -/
theorem stepRunsFrontCommand : Obligations.StepRunsFrontCommand := by
  intro s
  exact ⟨fun c rest h => by simp only [step, h], fun h => by simp only [step, h]⟩

/-! ### The link and the effects -/

/-- The effect of a command leaves the link's queues to the link. -/
theorem runOf_link_kept (c : Instr) (s : State) :
    (runOf c s).state.link.requests = s.link.requests ∧ (runOf c s).state.link.transmit = s.link.transmit
    ∧ (runOf c s).state.link.held = s.link.held ∧ (runOf c s).state.link.due = s.link.due := by
  refine runOf_keeps (P := fun u => u.link.requests = s.link.requests ∧ u.link.transmit = s.link.transmit
    ∧ u.link.held = s.link.held ∧ u.link.due = s.link.due) (fun u t ⟨hr, ht, hh, hd⟩ hc => ?_) (fun i u hu => ?_) c s
    ⟨rfl, rfl, rfl, rfl⟩
  · obtain ⟨hr', ht', hh', hd', -⟩ := hc.link_kept
    exact ⟨hr'.trans hr, ht'.trans ht, hh'.trans hh, hd'.trans hd⟩
  · obtain ⟨hlink, -⟩ := evaluationCompletion_frame i u
    rw [hlink]
    exact hu

/-! ### Due events and requests -/

theorem stillDue_holdTimerExpiry (n : Nat) (t : State) : stillDue (.holdTimerExpiry n) t = true ↔
    ∃ x, ((t.accounts.entries.flatMap Account.holds).find? fun x => decide (x.basket = n)) = some x ∧ x.timer = 0 := by
  simp only [stillDue, timerLeft, decide_eq_true_eq, Option.map_eq_some_iff]

theorem stillDue_noticeTimerExpiry (n : Nat) (t : State) : stillDue (.noticeTimerExpiry n) t = true ↔
    ∃ p, presentationOf n t = some p ∧ p.timer = 0 := by
  simp only [stillDue, timerLeft, decide_eq_true_eq, Option.map_eq_some_iff, presentationOf_eq_bind]

theorem stillDue_parkTimerExpiry (n : Nat) (t : State) : stillDue (.parkTimerExpiry n) t = true ↔
    ∃ b, findBasket n t = some b ∧ b.parkTimer = some 0 := by
  simp only [stillDue, timerLeft, decide_eq_true_eq, Option.bind_eq_some_iff]

theorem stillDue_secondEvent (t : State) : stillDue .secondEvent t = true ↔
    t.calendar.state = .running ∧ 1000 ≤ t.calendar.phase := by
  simp [stillDue]

/-- With no command waiting, a due event that can be taken first is. -/
theorem step_of_due {s t : State} {c : Instr} {rest : List Instr} (hp : s.pending = []) (hd : s.link.due = c :: rest)
    (hx : exec c (withDue [] s) = .next t) (ht : t.link.due = []) :
    step s = .next (dropStopped (withDue rest t)) := by
  have htake : takeDueEvent [] c rest s = some (dropStopped (withDue rest t)) := by
    simp only [takeDueEvent, hx, ht, List.length_nil, Nat.le_refl, if_true, List.nil_append]
  simp only [step, hp, idle, hd, takeDue, htake]

/-- The request at the head of the queue overtakes none. -/
theorem overtakes_head {c : Instr} {rest : List Instr} {s : State} (hr : s.link.requests = c :: rest) :
    overtakes c s = false := by
  unfold overtakes
  split
  · rfl
  · rename_i h hc
    rw [hr, List.find?_cons_of_pos (by simp [sameStream, hc])]
    simp

theorem owner_of_request {c : Instr} (h : headerOf c ≠ none) : ∃ b, ownerOf c = some b := by
  cases c <;> first | exact ⟨_, rfl⟩ | exact absurd rfl h

/-- A request can come about at any time. -/
theorem inCourse_request {c : Instr} (h : headerOf c ≠ none) (s : State) : inCourse c s = true := by
  cases c <;> first | rfl | exact absurd rfl h

/-- The delivery of the request at the head of the queue changes the state: its block takes it, or it stays due. -/
theorem takeEvent_head_ne {c : Instr} {rest : List Instr} {s : State} (hr : s.link.requests = c :: rest)
    (hd : s.link.due = []) (hh : headerOf c ≠ none) : takeEvent c s ≠ s := by
  intro heq
  unfold takeEvent at heq
  rw [overtakes_head hr, if_neg (by simp)] at heq
  split at heq
  · have hf : fallsDue c s = true := by simp [fallsDue, inCourse_request hh s, hd]
    have hwait : waitOnQueue c s = s := by
      rcases waitOnQueue_cases c s with h | ⟨hnot, -, -⟩ | ⟨hnot, -, -⟩
      · exact h
      · exact absurd (hr ▸ List.mem_cons_self) hnot
      · exact absurd (hr ▸ List.mem_cons_self) hnot
    rw [if_pos hf] at heq
    rcases stayDue_cases c s with ⟨hnone, -⟩ | ⟨-, -, h⟩ | ⟨-, hnot, -⟩
    · exact hh hnone
    · have hdue := congrArg (fun u : State => u.link.due) (h.symm.trans heq)
      simp [hd] at hdue
    · rw [hwait, hr] at hnot
      exact hnot List.mem_cons_self
  · have hreq := congrArg (fun u : State => u.link.requests) heq
    simp only [place_requests, (runOf_link_kept c _).1, leaveQueue_link, hr, List.erase_cons_head] at hreq
    exact absurd hreq (List.cons_ne_self c rest).symm

/-- With nothing due, the request at the head of the queue is delivered. -/
theorem step_of_request {s t : State} {c : Instr} {rest : List Instr} (hp : s.pending = []) (hd : s.link.due = [])
    (hr : s.link.requests = c :: rest) (hh : headerOf c ≠ none) (hx : exec c s = .next t) : step s = .next t := by
  obtain ⟨b, hb⟩ := owner_of_request hh
  have hne : t ≠ s := by
    rw [exec_eq_takeEvent s hb] at hx
    cases hx
    exact takeEvent_head_ne hr hd hh
  simp only [step, hp, idle, hd, takeDue, hr, deliverFirst, deliver, hx, if_neg hne]

/-- With nothing at all waiting a millisecond passes. -/
theorem step_of_nothing {s : State} (hp : s.pending = []) (hd : s.link.due = []) (hr : s.link.requests = []) :
    step s = .next (tick s) := by
  simp only [step, hp, idle, hd, takeDue, hr, deliverFirst]

theorem tickPhase_state (c : Calendar) : (tickPhase c).state = c.state := by
  unfold tickPhase
  split <;> rfl

theorem tickPhase_now (c : Calendar) : (tickPhase c).now = c.now := by
  unfold tickPhase
  split <;> rfl

theorem tickPhase_phase (c : Calendar) :
    (tickPhase c).phase = if c.state = .running ∧ c.phase % 1000 ≠ 999 then c.phase + 1 else c.phase := by
  unfold tickPhase
  cases hs : c.state with
  | unset => simp
  | running => by_cases h : c.phase % 1000 = 999 <;> simp [h]

/-- A command that sets the calendar, taken: the calendar runs at the start of a second. -/
theorem runOf_calendar_started {c : Instr} {h : Header} {s : State}
    (hc : (∃ y mo d ho mi se, c = .calendarSet h y mo d ho mi se ∧ calendarFieldsOk y mo d ho mi se = true)
      ∨ c = .minuteMark h ∧ s.calendar.state = .running) :
    (runOf c s).state.calendar.state = .running ∧ (runOf c s).state.calendar.phase = 0 := by
  rcases hc with ⟨y, mo, d, ho, mi, se, rfl, hok⟩ | ⟨rfl, hrun⟩
  · have hset : runOf (.calendarSet h y mo d ho mi se) s = _ := if_pos hok
    rw [hset]
    exact ⟨rfl, rfl⟩
  · have hmark : runOf (.minuteMark h) s = minuteMark h s := rfl
    simp only [hmark, minuteMark, hrun]
    exact ⟨rfl, rfl⟩

/-- A due event that sets the calendar leaves no second event due. -/
theorem step_of_due_calendar {s : State} {h : Header} {c : Instr} {rest : List Instr} (hp : s.pending = [])
    (hd : s.link.due = c :: rest) (hu : Unhindered c (withDue [] s))
    (hc : (∃ y mo d ho mi se, c = .calendarSet h y mo d ho mi se ∧ calendarFieldsOk y mo d ho mi se = true)
      ∨ c = .minuteMark h ∧ s.calendar.state = .running) :
    ∃ u, step s = .next u ∧ u.calendar.state = .running ∧ u.calendar.phase = 0 ∧ .secondEvent ∉ u.link.due := by
  have howner : ownerOf c = some .calendar := by rcases hc with ⟨_, _, _, _, _, _, rfl, -⟩ | ⟨rfl, -⟩ <;> rfl
  have hx := exec_eq_takeEvent (withDue [] s) howner
  rw [takeEvent_of_unhindered hu howner] at hx
  obtain ⟨hrun, hphase⟩ := runOf_calendar_started (s := leaveQueue c (withDue [] s)) hc
  have hnone := (runOf_link_kept c (leaveQueue c (withDue [] s))).2.2.2
  refine ⟨_, step_of_due hp hd hx (by simpa using hnone), by simpa [dropStopped] using hrun,
    by simpa [dropStopped] using hphase, fun hm => ?_⟩
  simp only [dropStopped, withDue_link] at hm
  have hstill := (stillDue_secondEvent _).1 (List.mem_filter.1 hm).2
  simp only [withDue_calendar, place_calendar, hphase] at hstill
  omega

/-- Settles O2: the part's own step takes the first due event that can be taken, else delivers the head of the request
queue, else lets a millisecond pass. -/
theorem idleStep : Obligations.IdleStep := by
  refine ⟨fun s t c rest hp hd hx ht => step_of_due hp hd hx ht,
    fun n t => ⟨stillDue_noticeTimerExpiry n t, stillDue_holdTimerExpiry n t, stillDue_parkTimerExpiry n t,
      decide_eq_true_iff, stillDue_secondEvent t⟩,
    fun s h c rest hp hd hu hc => step_of_due_calendar hp hd hu hc,
    fun s t c rest hp hd hr hh hx => step_of_request hp hd hr hh hx, fun s hp hd hr => ?_⟩
  exact ⟨tick s, step_of_nothing hp hd hr, rfl, rfl, rfl, rfl, tickPhase_state _, tickPhase_now _, tickPhase_phase _, rfl,
    rfl, rfl, rfl, rfl, rfl⟩

/-! ### The values after reset -/

/-- The state right after power-on is the state a reset by power leaves, with both straps low and an empty store. -/
theorem reset_eq : State.reset = { resetState .power { baud1 := false, baud0 := false } State.reset with pending := [] } :=
  rfl

theorem reset_presentationOf (l : Nat) : presentationOf l State.reset = none := by
  rw [presentationOf_eq_bind, Option.bind_eq_none_iff]
  intro q hq
  have hmem : q ∈ (List.range 16).map Route.powerOn := Vector.mem_of_getElem? hq |> fun h => by
    simpa [State.reset, Router.powerOn] using h
  obtain ⟨k, -, rfl⟩ := List.mem_map.1 hmem
  rfl

theorem powerOn_routes (l : Nat) (hl : l < 16) : Router.powerOn.routes[l]? = some (Route.powerOn l) := by
  rw [Vector.getElem?_eq_getElem hl]
  simp [Router.powerOn]

theorem reset_link : State.reset.link.mode = .maintenance ∧ LinkWithin State.reset :=
  ⟨rfl, Nat.zero_le _, by decide, Nat.zero_le _, Nat.zero_le _⟩

theorem reset_desksAgree : DesksAgree State.reset := resetState_desksAgree .power { baud1 := false, baud0 := false } State.reset

theorem reset_recordsInStep : RecordsInStep State.reset := by
  obtain ⟨hb, hr, hs⟩ := resetState_recordsInStep .power { baud1 := false, baud0 := false } State.reset
  exact ⟨hb, hr, hs⟩

/-- Settles O3: each value is the one the power-on state is built from, and each relation holds of empty tables. -/
theorem resetValues : Obligations.ResetValues := by
  obtain ⟨hbaskets, hrecords, hsnapshots⟩ := reset_recordsInStep
  refine ⟨rfl, rfl, rfl, rfl, rfl, rfl, rfl, rfl, rfl, ?lanes, rfl, rfl, rfl, rfl, ?units, rfl, rfl, rfl, rfl, rfl, rfl, rfl,
    ?condemned, ?waiting, rfl, rfl, rfl, ?masks, rfl, rfl, rfl, rfl, powerOn_routes, ?desks, rfl, rfl, rfl, rfl, rfl, rfl,
    rfl, rfl, ⟨Nat.zero_le _, by decide, Nat.zero_le _, Nat.zero_le _, Nat.zero_le _, Nat.zero_le _, Nat.zero_le _,
      Nat.zero_le _⟩, ⟨rfl, fun p hp => (by cases hp), fun k hk => (by cases hk)⟩,
    ⟨Nat.zero_le _, .nil, fun r hr => (by cases hr)⟩, ⟨by decide, by decide, by decide, by decide, by decide⟩,
    accountsCovered_iff.2 .powerOn, basketsAgree_iff.2 powerOn_agrees, hbaskets.2,
    overridesAgree_iff.2 ⟨hrecords, hsnapshots⟩, reset_desksAgree, ?attached, .of_none rfl fun b hb => (by cases hb),
    presentationsAgree_iff.2 (presentsInStep_of_quiet rfl reset_presentationOf),
    plansBalanced_iff.2 ⟨fun b hb => (by cases hb), ?snapshots⟩⟩
  case lanes =>
    intro l hl
    rw [Vector.getElem?_eq_getElem hl]
    simp [State.reset, BasketTable.powerOn, Lane.powerOn]
  case units =>
    intro u hu
    rw [Vector.getElem?_eq_getElem hu]
    simp [State.reset, Evaluator.powerOn]
  case condemned =>
    intro k hk
    rw [Vector.getElem?_eq_getElem hk]
    simp [State.reset, OfferStore.powerOn]
  case waiting =>
    intro k hk
    rw [Vector.getElem?_eq_getElem hk]
    simp [State.reset, OfferStore.powerOn]
  case masks =>
    intro e he
    rw [Vector.getElem?_eq_getElem he]
    simp [State.reset, Tables.powerOn]
  case desks =>
    intro d hd
    rw [Vector.getElem?_eq_getElem hd]
    simp [State.reset, Router.powerOn, Desk.powerOn]
  case attached =>
    exact accountsAttached_iff.2 ⟨fun b hb => (by cases hb), fun e he => (by cases he), fun e he => (by cases he)⟩
  case snapshots => exact resetState_snapshots .power { baud1 := false, baud0 := false } State.reset _

/-! ### The resets (R1, R23) -/

/-- A slot of a program in flight, or of the sector whose erase is in progress. -/
def InFlight (st : OfferStore) (k : Nat) : Prop := (∃ p, st.program = some p ∧ p.slot = k) ∨ st.inProgress = some (k / 64)

/-- What R23 makes of each slot. -/
theorem read_classify (st : OfferStore) (k : Nat) :
    (InFlight st k → OfferArray.read (classify st) k = some .damaged)
    ∧ (¬ InFlight st k → OfferArray.read (classify st) k = (OfferArray.read st.slots k).map (remark Calendar.powerOn)) := by
  unfold classify InFlight
  rw [OfferArray.read_mapSlots]
  have hprogram (p : Program) (h : p.slot ≠ k) : (OfferArray.put p.slot .damaged st.slots).read k
      = OfferArray.read st.slots k := by
    rw [OfferArray.read_put, if_neg h.symm]
  cases hp : st.program with
  | none =>
    cases hi : st.inProgress with
    | none => simp
    | some j =>
      by_cases hj : j = k / 64
      · simp [OfferArray.read_damageSector, remark, hj]
      · simp [OfferArray.read_damageSector, hj, Ne.symm hj]
  | some p =>
    cases hi : st.inProgress with
    | none =>
      by_cases hk : p.slot = k
      · simp [OfferArray.read_put, remark, hk]
      · simp [hprogram p hk, hk]
    | some j =>
      by_cases hj : j = k / 64
      · simp [OfferArray.read_damageSector, remark, hj]
      · by_cases hk : p.slot = k
        · simp [OfferArray.read_damageSector, OfferArray.read_put, remark, Ne.symm hj, hk]
        · simp [OfferArray.read_damageSector, hprogram p hk, hj, Ne.symm hj, hk]

/-- Settles O4: a reset keeps of the state the offer slots, as R23 classifies them, and the commands that wait. -/
theorem resetsClassifyTheStore : Obligations.ResetsClassifyTheStore := by
  intro straps s
  refine ⟨classify s.store, fun k hk => (read_classify s.store k).1 hk,
    fun k hp hi => ((read_classify s.store k).2 (not_or.2 ⟨hp, hi⟩)).trans ?_, fun cause => ?_⟩
  · refine congrArg (Option.map · _) (funext fun c => ?_)
    cases c <;> simp [remark, windowMatches, Calendar.powerOn]
  · cases cause <;> rfl

/-! ### Events that cannot occur (log 2) -/

theorem holdEntry_eq_none {n : Nat} {s : State} (h : ∀ e ∈ s.accounts.entries, ∀ x ∈ e.holds, x.basket ≠ n) :
    holdEntry n s = none := by
  refine List.find?_eq_none.2 fun e he => ?_
  simp [holdOf_eq_none_iff.2 (h e he)]

/-- Settles O46: each event looks for the timer or the work it belongs to, and finds none. -/
theorem eventsThatCannotOccur : Obligations.EventsThatCannotOccur := by
  intro c blk s hu hc
  have hnothing (howner : ownerOf c = some blk) (hrun : runOf c (leaveQueue c s) = nothing (leaveQueue c s)) :
      Takes c blk s (leaveQueue c s) [] := takes_of_runOf hu howner hrun
  rcases hc with ⟨n, rfl, rfl, h⟩ | ⟨n, rfl, rfl, h⟩ | ⟨l, rfl, rfl, h⟩ | ⟨rfl, rfl, h⟩ | ⟨u, rfl, rfl, h⟩
    | ⟨o, rfl, rfl, h⟩ | ⟨o, rfl, rfl, h⟩ | ⟨o, rfl, rfl, h⟩ | ⟨rfl, rfl, h⟩ <;> refine hnothing rfl ?_
  · simp only [runOf, parkTimerExpiry]
    split
    · rfl
    · rename_i b hb
      exact if_pos (h b hb)
  · simp only [runOf, holdTimerExpiry, holdEntry_eq_none (s := leaveQueue (.holdTimerExpiry n) s) h]
  · have hnone : presentationOf l (leaveQueue (.noticeTimerExpiry l) s) = none := (presentationOf_congr rfl l).trans h
    simp only [runOf, noticeTimerExpiry, hnone]
  · exact if_neg fun ⟨hg, ht⟩ => h.elim (· hg) (ht ·)
  · simp only [runOf, evaluationCompletion, leaveQueue_evaluator, h]
  · simp only [runOf, offerProgramCompletion, leaveQueue_store]
    split
    · rename_i hp
      cases h _ hp
    · rfl
    · rfl
  · simp only [runOf, retireProgramCompletion, leaveQueue_store]
    split
    · rename_i hp
      exact absurd rfl (h _ hp)
    · rfl
    · rfl
  · simp only [runOf, eraseCompletion, leaveQueue_store]
    split
    · rfl
    · rename_i k hk
      exact if_pos (h.resolve_left (by simp [hk]))
  · simp only [runOf, suspendCompletion, leaveQueue_store]
    split
    · rename_i g hc hg
      rcases h with h | h
      · exact absurd hc h
      · rw [h] at hg
        cases hg
    · rfl

end Sys2Proof.Machine
end

section
/-! Requests as bytes, the receiver, the link's refusals and the order of messages (O5 to O9). -/

namespace Sys2Proof.Machine

/-! ### Reading fields back (section 11.8) -/

/-- A field behind a written field that ends before it. -/
theorem field_behind {k n o j : Nat} (rest : List Byte) (h : k ≤ o) : field (le k n ++ rest) o j = field rest (o - k) j := by
  obtain ⟨d, rfl⟩ := Nat.exists_eq_add_of_le h
  rw [field_skip, Nat.add_sub_cancel_left]

/-- The last field of a payload. -/
theorem field_last {k n : Nat} (h : n < 256 ^ k) : field (le k n) 0 k = n := by
  simpa using field_le_append k n [] h

theorem byteAt_eq (p : List Byte) (o : Nat) : byteAt p o = BitVec.ofNat 8 (field p o 1) := rfl

theorem flagAt_eq (p : List Byte) (o k : Nat) : flagAt p o k = (BitVec.ofNat 8 (field p o 1)).getLsbD k := rfl

/-- A flag byte with its first three bits written, read back. -/
theorem flags_read (a b c : Bool) :
    bitValue a 0 + bitValue b 1 + bitValue c 2 < 256
    ∧ (BitVec.ofNat 8 (bitValue a 0 + bitValue b 1 + bitValue c 2)).getLsbD 0 = a
    ∧ (BitVec.ofNat 8 (bitValue a 0 + bitValue b 1 + bitValue c 2)).getLsbD 1 = b
    ∧ (BitVec.ofNat 8 (bitValue a 0 + bitValue b 1 + bitValue c 2)).getLsbD 2 = c := by
  revert a b c
  decide

/-- A flag byte with its first two bits written, read back. -/
theorem twoFlags_read (a b : Bool) :
    bitValue a 0 + bitValue b 1 < 256 ∧ (BitVec.ofNat 8 (bitValue a 0 + bitValue b 1)).getLsbD 0 = a
    ∧ (BitVec.ofNat 8 (bitValue a 0 + bitValue b 1)).getLsbD 1 = b := by
  simpa [bitValue] using And.intro (flags_read a b false).1 (And.intro (flags_read a b false).2.1 (flags_read a b false).2.2.1)

theorem dateBytes_length (d : Date) : (dateBytes d).length = 4 := by simp [dateBytes]

theorem recordBytes_length (r : OfferRecord) : (recordBytes r).length = 64 := by simp [recordBytes, dateBytes_length]

theorem word_fits {w : Nat} (x : BitVec (8 * w)) : x.toNat < 256 ^ w := by
  have h := x.isLt
  rwa [Nat.pow_mul] at h

/-- A record is read back from its bytes (section 11.4). -/
theorem recordAt_recordBytes {r : OfferRecord} (k : Nat) (h : r.wellFormed = true) : recordAt (le 2 k ++ recordBytes r) 2 = r := by
  have hlabel := word_fits (w := 24) r.label
  have hweek := word_fits (w := 1) r.weekdays
  have henables := word_fits (w := 1) r.enables
  have hrequired := word_fits (w := 2) r.required
  simp only [OfferRecord.wellFormed, Date.wellFormed, Bool.and_eq_true, decide_eq_true_eq, Nat.reducePow, Nat.pow_one]
    at h hlabel hweek henables hrequired
  simp [recordAt, recordBytes, dateBytes, dateAt, byteAt_eq, field_behind, field_le_append, field_last, h, hlabel, hweek,
    henables, hrequired]

/-- A byte read back at the front of a payload. -/
theorem byte_read (x : Byte) (rest : List Byte) : BitVec.ofNat 8 (field (le 1 x.toNat ++ rest) 0 1) = x := by
  rw [field_le_append 1 _ _ (word_fits (w := 1) x), BitVec.ofNat_toNat, BitVec.setWidth_eq]

/-- A flag word read back at the front of a payload. -/
theorem word_read (x : Flags) (rest : List Byte) : BitVec.ofNat 16 (field (le 2 x.toNat ++ rest) 0 2) = x := by
  rw [field_le_append 2 _ _ (word_fits (w := 2) x), BitVec.ofNat_toNat, BitVec.setWidth_eq]

/-- Every well-formed request is read back from its kind, header and payload. -/
theorem decodeRequest_encodeRequest {i : Instr} {k : RequestKind} {h : Header} {p : List Byte} (hw : i.wellFormed = true)
    (he : encodeRequest i = some (k, h, p)) : decodeRequest k h p = i := by
  cases i <;> cases he <;>
    simp only [Instr.wellFormed, Bool.and_eq_true, decide_eq_true_eq, Nat.reducePow, Nat.pow_one] at hw <;>
    simp [decodeRequest, byteAt_eq, flagAt_eq, field_behind, field_le_append, field_last, byte_read, word_read, hw]
  case lineAdd _ _ _ _ measured concession earn =>
    obtain ⟨hfits, hread⟩ := flags_read measured concession earn
    rwa [field_last (by simpa using hfits)]
  case offerWrite k r => exact recordAt_recordBytes k hw.2
  case groupRangeAdd _ _ _ concession earn =>
    obtain ⟨hfits, hread⟩ := twoFlags_read concession earn
    rwa [field_last (by simpa using hfits)]

/-- The payload of a request has the length of its kind. -/
theorem encodeRequest_length {i : Instr} {k : RequestKind} {h : Header} {p : List Byte}
    (he : encodeRequest i = some (k, h, p)) : p.length = k.payloadLength := by
  cases i <;> cases he <;> simp [RequestKind.payloadLength, recordBytes_length]

theorem ofCode_code (k : RequestKind) : RequestKind.ofCode k.code = some k := by cases k <;> decide

theorem ofCode_eq_none {c : Byte} (h : ∀ k : RequestKind, k.code ≠ c) : RequestKind.ofCode c = none :=
  List.find?_eq_none.2 fun k _ => by simp [h k]

/-- Settles O6, a request at a time. -/
theorem requestsReadBack : Obligations.RequestsReadBack :=
  fun _ k _ _ hw he => ⟨decodeRequest_encodeRequest hw he, encodeRequest_length he, ofCode_code k⟩

/-! ### The receiver (R174 to R176) -/

/-- A field that ends in the first part of the bytes. -/
theorem field_of_prefix {p : List Byte} {o k : Nat} (rest : List Byte) (h : o + k ≤ p.length) :
    field (p ++ rest) o k = field p o k := by
  simp only [field]
  rw [List.drop_append_of_le_length (by omega), List.take_append_of_le_length (by simp; omega)]

theorem setReceiver_self {s : State} {bytes : List Byte} (h : s.link.receiver = bytes) : setReceiver bytes s = s := by
  subst h
  rfl

theorem refuseFrame_setReceiver (c : Byte) (h : Header) (st : Status) (r : List Byte) (s : State) :
    refuseFrame c h st (setReceiver r s) = setReceiver r (refuseFrame c h st s) := by
  unfold refuseFrame
  split <;> rename_i hroom
  · rw [if_pos (show s.link.transmit.length < _ from hroom)]
    rfl
  · rw [if_neg (show ¬ s.link.transmit.length < _ from hroom)]
    rfl

/-- Judging a frame does not look at the receiver's bytes. -/
theorem judgeFrame_setReceiver (body r : List Byte) (s : State) :
    judgeFrame body (setReceiver r s) = setReceiver r (judgeFrame body s) := by
  unfold judgeFrame
  split
  · exact refuseFrame_setReceiver _ _ _ r s
  · dsimp only
    rw [show (setReceiver r s).link.requests = s.link.requests from rfl]
    split_ifs
    · exact refuseFrame_setReceiver _ _ _ r s
    · exact refuseFrame_setReceiver _ _ _ r s
    · rfl

/-- A receiver with nothing yet has nothing after a frame is judged. -/
theorem judgeFrame_receiver {body : List Byte} {s : State} (h : s.link.receiver = []) :
    setReceiver [] (judgeFrame body s) = judgeFrame body s := by
  rw [← judgeFrame_setReceiver, setReceiver_self h]

/-- The receiver does not look at the bytes recorded before. -/
theorem receive_setReceiver (skip : Nat) (bytes r : List Byte) (s : State) :
    receive skip bytes (setReceiver r s) = receive skip bytes s := by
  induction bytes generalizing skip s with
  | nil => rfl
  | cons b rest ih =>
    cases skip with
    | succ skip => exact ih skip s
    | zero =>
      simp only [receive, ih, judgeFrame_setReceiver,
        show countFrameError (setReceiver r s) = setReceiver r (countFrameError s) from rfl,
        show ∀ x, setReceiver x (setReceiver r s) = setReceiver x s from fun _ => rfl]

/-- Bytes of a frame already judged are skipped. -/
theorem receive_skipped (bytes : List Byte) (s : State) : receive bytes.length bytes s = setReceiver [] s := by
  induction bytes with
  | nil => rfl
  | cons b rest ih => exact ih

/-- Bytes may arrive in two pieces: what the first leaves in the receiver is looked at again with the second. -/
theorem receive_append {skip : Nat} {x : List Byte} (y : List Byte) (s : State) (h : skip ≤ x.length) :
    receive 0 ((receive skip x s).link.receiver ++ y) (receive skip x s) = receive skip (x ++ y) s := by
  induction x generalizing skip s with
  | nil =>
    obtain rfl : skip = 0 := Nat.le_zero.1 h
    exact receive_setReceiver 0 y [] s
  | cons b rest ih =>
    cases skip with
    | succ skip => exact ih s (Nat.le_of_succ_le_succ h)
    | zero =>
      have hkept : receive 0 ((setReceiver (b :: rest) s).link.receiver ++ y) (setReceiver (b :: rest) s)
          = receive 0 (b :: rest ++ y) s := receive_setReceiver 0 (b :: rest ++ y) (b :: rest) s
      by_cases hb : b ≠ syncByte
      · simpa only [receive, List.cons_append, if_pos hb] using ih s (Nat.zero_le _)
      · by_cases htwo : rest.length < 2
        · rw [show receive 0 (b :: rest) s = setReceiver (b :: rest) s by simp only [receive, if_neg hb, if_pos htwo], hkept]
        · have hfield : field (rest ++ y) 0 2 = field rest 0 2 := field_of_prefix y (by omega)
          have htwo' : ¬ (rest ++ y).length < 2 := by simp; omega
          by_cases hbad : badBodyLength (field rest 0 2) = true
          · simpa only [receive, List.cons_append, if_neg hb, if_neg htwo, if_neg htwo', hfield, if_pos hbad] using
              ih s (Nat.zero_le _)
          · by_cases hshort : rest.length < field rest 0 2 + 4
            · rw [show receive 0 (b :: rest) s = setReceiver (b :: rest) s by
                simp only [receive, if_neg hb, if_neg htwo, if_neg hbad, if_pos hshort], hkept]
            · have hshort' : ¬ (rest ++ y).length < field rest 0 2 + 4 := by simp; omega
              have hchecked : checkAgrees (field rest 0 2) (rest ++ y) = checkAgrees (field rest 0 2) rest := by
                unfold checkAgrees
                rw [field_of_prefix y (by omega), List.take_append_of_le_length (by omega)]
              have hbody : ((rest ++ y).drop 2).take (field rest 0 2) = (rest.drop 2).take (field rest 0 2) := by
                rw [List.drop_append_of_le_length (by omega), List.take_append_of_le_length (by simp; omega)]
              simp only [receive, List.cons_append, if_neg hb, if_neg htwo, if_neg htwo', hfield, if_neg hbad, if_neg hshort,
                if_neg hshort', hchecked, hbody]
              split
              · exact ih _ (by omega)
              · exact ih _ (Nat.zero_le _)

/-- A frame with a good length whose check agrees is judged whole. -/
theorem receive_frame {body : List Byte} (s : State) (hmin : 4 ≤ body.length) (hmax : body.length ≤ 1020) :
    receive 0 (frameOf body) s = setReceiver [] (judgeFrame body s) := by
  have hfit : body.length < 256 ^ 2 := by omega
  have hfield (rest : List Byte) : field (le 2 body.length ++ rest) 0 2 = body.length := field_le_append 2 _ _ hfit
  have hbad : badBodyLength body.length = false := by simp [badBodyLength]; omega
  have hbody (tail : List Byte) : ((le 2 body.length ++ (body ++ tail)).drop 2).take body.length = body := by
    rw [List.drop_left' (by simp), List.take_left]
  have hcheck : checkAgrees body.length (le 2 body.length ++ (body ++ le 2 (frameCheck (le 2 body.length ++ body)).toNat))
      = true := by
    have hsum : field (le 2 body.length ++ body ++ le 2 (frameCheck (le 2 body.length ++ body)).toNat) (body.length + 2) 2
        = (frameCheck (le 2 body.length ++ body)).toNat := by
      have h := field_append (le 2 body.length ++ body) (le 2 (frameCheck (le 2 body.length ++ body)).toNat) 0 2
      rw [field_last (word_fits (w := 2) _)] at h
      simpa [Nat.add_comm] using h
    rw [checkAgrees, decide_eq_true_eq, ← List.append_assoc, hsum, List.take_left' (by simp; omega)]
  have hlength : ¬ (le 2 body.length ++ (body ++ le 2 (frameCheck (le 2 body.length ++ body)).toNat)).length
      < body.length + 4 := by simp; omega
  simp only [frameOf, receive, List.append_assoc, hfield, hbad, hbody, hcheck, ne_eq, not_true_eq_false, if_false, if_true,
    Bool.false_eq_true, if_neg hlength]
  rw [if_neg (by simp; omega)]
  convert receive_skipped _ (judgeFrame body s) using 2
  simp
  omega

/-- A frame that comes to a receiver with nothing yet is judged, and the receiver has nothing then. -/
theorem exec_frame {body : List Byte} {s : State} (hr : s.link.receiver = []) (hmin : 4 ≤ body.length)
    (hmax : body.length ≤ 1020) : exec (.frameReceived (frameOf body)) s = .next (judgeFrame body s) := by
  have h : exec (.frameReceived (frameOf body)) s = .next (receive 0 (s.link.receiver ++ frameOf body) s) := rfl
  rw [h, hr, List.nil_append, receive_frame s hmin hmax, judgeFrame_receiver hr]

/-- The header and the payload of a body read back, in the judgement of its frame. -/
theorem judgeFrame_bodyOf (kind lane tag st : Byte) (payload : List Byte) (s : State) :
    judgeFrame (bodyOf kind lane tag st payload) s =
      (RequestKind.ofCode kind).elim (refuseFrame kind { lane := lane, tag := tag } .unknownKind s) fun k =>
        if payload.length ≠ k.payloadLength then refuseFrame kind { lane := lane, tag := tag } .badLength s
        else if Config.requestQueue ≤ s.link.requests.length then refuseFrame kind { lane := lane, tag := tag } .queueFull s
        else s.withLink { s.link with
          requests := s.link.requests ++ [decodeRequest k { lane := lane, tag := tag } payload] } := by
  have hbyte (x : Byte) : BitVec.ofNat 8 (x.toNat + 256 * 0) = x := by simp
  simp only [judgeFrame, bodyOf, byteAt, field, List.cons_append, List.nil_append, List.drop_succ_cons, List.drop_zero,
    List.take_succ_cons, List.take_zero, leNat, hbyte]
  cases RequestKind.ofCode kind <;> rfl

/-- Settles O5: the frame is judged, its body reads back, and there is a place for the request. -/
theorem requestFrameJoinsQueue : Obligations.RequestFrameJoinsQueue := by
  intro i k h p s hw he hr hroom
  have hlength := encodeRequest_length he
  have hbound : k.payloadLength ≤ 1016 := by cases k <;> decide
  have hjudged := exec_frame (body := bodyOf k.code h.lane h.tag 0 p) hr (by simp [bodyOf]) (by simp [bodyOf]; omega)
  rw [judgeFrame_bodyOf, ofCode_code] at hjudged
  simp only [Option.elim_some, hlength, ne_eq, not_true_eq_false, if_false, decodeRequest_encodeRequest hw he] at hjudged
  exact hjudged.trans (congrArg _ (if_neg (Nat.not_le.2 hroom)))

/-- Settles O7: the frame is judged to its refusal, which is placed or counted. -/
theorem linkRefusals : Obligations.LinkRefusals := by
  intro kind lane tag st payload status s hlen hr hcase
  have hjudged := exec_frame (body := bodyOf kind lane tag st payload) hr (by simp [bodyOf]) (by simp [bodyOf]; omega)
  have hrefused : judgeFrame (bodyOf kind lane tag st payload) s = refuseFrame kind { lane := lane, tag := tag } status s := by
    rw [judgeFrame_bodyOf]
    rcases hcase with ⟨rfl, hnone⟩ | ⟨rfl, k, rfl, hne⟩ | ⟨rfl, hfull, k, rfl, heq⟩
    · rw [ofCode_eq_none hnone, Option.elim_none]
    · simp only [ofCode_code, Option.elim_some, if_pos hne]
    · simp only [ofCode_code, Option.elim_some, heq, ne_eq, not_true_eq_false, if_false]
      exact if_pos hfull
  rw [hjudged, hrefused]
  exact ⟨fun h => congrArg _ (if_pos h), fun h => congrArg _ (if_neg (Nat.not_lt.2 h))⟩

/-- Settles O8: the receiver's cases, and bytes that arrive in pieces. -/
theorem receiverHuntsAndCounts : Obligations.ReceiverHuntsAndCounts := by
  have hexec (bytes : List Byte) (s : State) :
      exec (.frameReceived bytes) s = .next (receive 0 (s.link.receiver ++ bytes) s) := rfl
  have hempty (bytes : List Byte) {s : State} (h : s.link.receiver = []) :
      exec (.frameReceived bytes) s = .next (receive 0 bytes s) := by rw [hexec, h, List.nil_append]
  refine ⟨fun x y s t h => ?_, fun b rest s hr => ?_⟩
  · rw [hexec] at h
    cases h
    rw [hexec, hexec, receive_append y s (Nat.zero_le _), List.append_assoc]
  · have hnew : (s.withLink { s.link with frameErrors := min (s.link.frameErrors + 1) 65535 }).link.receiver = [] := hr
    have hsync : ¬ (0xC3#8 ≠ syncByte) := by simp [syncByte]
    have hgood (hmin : 4 ≤ field rest 0 2) (hmax : field rest 0 2 ≤ 1020) : badBodyLength (field rest 0 2) = false := by
      rw [badBodyLength, Bool.or_eq_false_iff, decide_eq_false_iff_not, decide_eq_false_iff_not]
      exact ⟨Nat.not_lt.2 hmin, Nat.not_lt.2 hmax⟩
    rw [hempty _ hr, hempty _ hr, hempty _ hr, hempty _ hnew]
    refine ⟨fun hb => ?_, fun htwo hbad => ?_, fun htwo hmin hmax hwhole hwrong => ?_, fun hshort => ?_⟩
    · simp only [receive, if_pos (show b ≠ syncByte from hb)]
    · have hbad' : badBodyLength (field rest 0 2) = true := by
        rw [badBodyLength, Bool.or_eq_true, decide_eq_true_eq, decide_eq_true_eq]
        exact hbad
      simp only [receive, if_neg hsync, if_neg (Nat.not_lt.2 htwo), if_pos hbad']
    · have hcheck : checkAgrees (field rest 0 2) rest = false := decide_eq_false hwrong
      simp only [receive, if_neg hsync, if_neg (Nat.not_lt.2 htwo), hgood hmin hmax, hcheck, Bool.false_eq_true, if_false]
      exact congrArg _ (if_neg (Nat.not_lt.2 hwhole))
    · by_cases hone : rest.length < 2
      · simp only [receive, if_neg hsync, if_pos hone]
        rfl
      · obtain ⟨hmin, hmax, hpart⟩ := hshort.resolve_left hone
        simp only [receive, if_neg hsync, if_neg hone, hgood hmin hmax, Bool.false_eq_true, if_false]
        exact congrArg _ (if_pos hpart)

/-! ### Sending (R173, R179) -/

/-- Settles O9, by the two events' equations. -/
theorem messagesLeaveInOrder : Obligations.MessagesLeaveInOrder := by
  have hsent (s : State) : exec .messageSent s = .next (messageSent s) := rfl
  have hjoin (s : State) : exec .heldMessageJoin s = .next (heldMessageJoin s) := rfl
  refine ⟨fun s m rest h => ?_, fun s h => ?_, fun s x rest h hroom => ?_, fun s h => ?_⟩
  · rw [hsent, messageSent, h]
    rfl
  · rw [hsent, messageSent, h]
  · rw [hjoin, heldMessageJoin, h]
    exact congrArg _ (if_pos hroom)
  · rw [hjoin, heldMessageJoin]
    split
    · rfl
    · rename_i x rest hheld
      exact congrArg _ (if_neg (Nat.not_lt.2 (h.resolve_left (by simp [hheld]))))

end Sys2Proof.Machine
end

section
/-! What a request's block sends at the event that takes it: one reply, or none for the requests answered later (O12);
RESTART and ENGINE STATUS (O14, O15). -/

namespace Sys2Proof.Machine

/-! ### Messages that are no reply of a kind -/

/-- No message of the list is a reply of the kind. -/
def Silent (k : RequestKind) (ms : List Message) : Prop := ∀ m ∈ ms, m.kind ≠ .reply k

/-- The list has one reply of the kind, and it carries the header's lane byte and tag. -/
def Replied (k : RequestKind) (h : Header) (ms : List Message) : Prop :=
  ∃ before after status payload, ms = before ++ replyTo k h status payload :: after ∧ Silent k before ∧ Silent k after

section Silence

variable {k : RequestKind} {ms ns : List Message}

theorem silent_nil : Silent k [] := fun _ h => by cases h

theorem Silent.append (h : Silent k ms) (h' : Silent k ns) : Silent k (ms ++ ns) :=
  fun m hm => (List.mem_append.1 hm).elim (h m) (h' m)

theorem Silent.cons {m : Message} (h : m.kind ≠ .reply k) (h' : Silent k ms) : Silent k (m :: ms) :=
  List.forall_mem_cons.2 ⟨h, h'⟩

theorem silent_after {e : Effect} (h : Silent k ms) (he : Silent k e.sent) : Silent k (e.after ms).sent := h.append he

theorem silent_andThen {e : Effect} {f : State → Effect} (he : Silent k e.sent) (hf : ∀ s, Silent k (f s).sent) :
    Silent k (e.andThen f).sent := he.append (hf _)

theorem silent_staleClaim (bs : List Nat) (s : State) : Silent k (staleClaim bs s).sent := by
  intro m hm
  obtain ⟨l, -, hb⟩ := List.mem_flatMap.1 hm
  obtain ⟨b, -, rfl⟩ := List.mem_map.1 hb
  nofun

theorem silent_presentIfAble (l : Nat) (s : State) : Silent k (presentIfAble l s).sent := by
  unfold presentIfAble
  split
  · exact .cons nofun silent_nil
  · exact silent_nil

theorem silent_passLanes (ls : List Nat) (s : State) : Silent k (passLanes ls s).sent := by
  induction ls generalizing s with
  | nil => exact silent_nil
  | cons l rest ih => exact silent_andThen (silent_presentIfAble l s) ih

theorem silent_presentationPass (s : State) : Silent k (presentationPass s).sent := silent_passLanes _ s

/-- The pass that follows when something was sent before it. -/
theorem silent_passIf (c : Prop) [Decidable c] (s : State) :
    Silent k (if c then nothing s else presentationPass s).sent := by
  split
  · exact silent_nil
  · exact silent_presentationPass s

theorem silent_takeBack (l n line : Nat) (s : State) : Silent k (takeBack l n line s).sent := by
  unfold takeBack
  split
  · split
    · exact .cons nofun silent_nil
    · exact silent_nil
  · exact silent_nil

theorem silent_recallRecord (l : Nat) (p : Presentation) (r : OverrideRecord) (cause : Cause) (s : State) :
    Silent k (recallRecord l p r cause s).sent := by
  unfold recallRecord
  split
  · exact silent_after (.cons nofun silent_nil) (silent_staleClaim _ _)
  · split
    · exact silent_after (.cons nofun silent_nil) (silent_staleClaim _ _)
    · exact silent_nil

theorem silent_recallLane (cause : Cause) (l : Nat) (s : State) : Silent k (recallLane cause l s).sent := by
  unfold recallLane
  split
  · exact silent_nil
  · split
    · exact .cons nofun silent_nil
    · exact silent_after (.cons nofun silent_nil) (silent_recallRecord _ _ _ _ _)

theorem silent_recallLanes (cause : Cause) (ls : List Nat) (s : State) : Silent k (recallLanes cause ls s).sent := by
  induction ls generalizing s with
  | nil => exact silent_nil
  | cons l rest ih => exact silent_andThen (silent_recallLane cause l s) ih

theorem silent_removeDisplaced (l : Nat) (rs : List OverrideRecord) (s : State) :
    Silent k (removeDisplaced l rs s).sent := by
  unfold removeDisplaced
  split
  · exact silent_nil
  · refine silent_after (fun m hm => ?_) (silent_staleClaim _ _)
    obtain ⟨r, -, rfl⟩ := List.mem_map.1 hm
    nofun

theorem silent_handToRouter (l n line : Nat) (s : State) : Silent k (handToRouter l n line s).sent := by
  have hsent : (handToRouter l n line s).sent = (presentationPass s).sent := by
    unfold handToRouter
    dsimp only
    split
    · split <;> rfl
    · rfl
  rw [hsent]
  exact silent_presentationPass s

theorem silent_withdrawRecord (l n line : Nat) (s : State) : Silent k (withdrawRecord l n line s).sent :=
  silent_after (silent_takeBack _ _ _ _) (silent_passIf _ _)

theorem silent_requantify (l n line unitPrice quantity : Nat) (s : State) :
    Silent k (requantify l n line unitPrice quantity s).sent := by
  simp only [requantify]
  split
  · exact silent_nil
  · split
    · exact silent_nil
    · exact silent_after (silent_takeBack _ _ _ _) (silent_presentationPass _)
    · split
      · exact silent_nil
      · unfold outgrown
        split
        · exact silent_nil
        · exact silent_handToRouter _ _ _ _

theorem silent_journalWaiting (s : State) : Silent k (journalWaitingNotice s) := by
  unfold journalWaitingNotice
  split
  · exact .cons nofun silent_nil
  · exact silent_nil

theorem silent_expireBasket (b : Basket) (s : State) : Silent k (expireBasket b s).sent :=
  .cons nofun (silent_journalWaiting _)

theorem silent_admitWaiting (s : State) : Silent k (admitWaiting s).sent := by
  unfold admitWaiting
  split
  · exact silent_nil
  · split
    · exact silent_nil
    · exact silent_expireBasket _ _

theorem silent_totalReply (hk : k ≠ .total) (st : Status) (p : Payload) (b : Basket) : Silent k (totalReply st p b) := by
  unfold totalReply
  split
  · exact .cons (fun h => hk (MessageKind.reply.inj h).symm) silent_nil
  · exact silent_nil

theorem silent_restartedReplies (hk : k ≠ .total) (s : State) : Silent k (restartedReplies s) := by
  intro m hm
  obtain ⟨l, -, hb⟩ := List.mem_flatMap.1 hm
  obtain ⟨b, -, hr⟩ := List.mem_flatMap.1 hb
  exact silent_totalReply hk _ _ b m hr

end Silence

/-! ### One reply -/

section Replies

variable {k : RequestKind} {h : Header}

theorem replied_reply {ms : List Message} (st : Status) (p : Payload) (hs : Silent k ms) :
    Replied k h (replyTo k h st p :: ms) := ⟨[], ms, st, p, rfl, silent_nil, hs⟩

theorem replied_answer (st : Status) (p : Payload) (s : State) : Replied k h (answer k h st p s).sent :=
  replied_reply st p silent_nil

theorem Replied.append {ms ns : List Message} (hr : Replied k h ms) (hs : Silent k ns) : Replied k h (ms ++ ns) := by
  obtain ⟨before, after, st, p, rfl, hb, ha⟩ := hr
  exact ⟨before, after ++ ns, st, p, by simp, hb, ha.append hs⟩

theorem Replied.behind {ms ns : List Message} (hr : Replied k h ms) (hs : Silent k ns) : Replied k h (ns ++ ms) := by
  obtain ⟨before, after, st, p, rfl, hb, ha⟩ := hr
  exact ⟨ns ++ before, after, st, p, by simp, hs.append hb, ha⟩

/-- A reply that goes before an effect's messages, with others between. -/
theorem replied_after {ms : List Message} {e : Effect} (st : Status) (p : Payload) (hs : Silent k ms)
    (he : Silent k e.sent) : Replied k h (e.after (replyTo k h st p :: ms)).sent := (replied_reply st p hs).append he

theorem Replied.andThen {e : Effect} {f : State → Effect} (hr : Replied k h e.sent) (hf : ∀ s, Silent k (f s).sent) :
    Replied k h (e.andThen f).sent := hr.append (hf _)

theorem replied_onServed {n : Nat} {f : Nat → Basket → State → Effect} {s : State}
    (hf : ∀ l b, Replied k h (f l b s).sent) : Replied k h (onServed k h n f s).sent := by
  unfold onServed
  split
  · exact replied_answer ..
  · split
    · exact replied_answer ..
    · exact hf _ _

theorem replied_onLane {f : Nat → State → Effect} {s : State} (hf : ∀ l, Replied k h (f l s).sent) :
    Replied k h (onLane k h f s).sent := by
  unfold onLane
  split
  · exact replied_answer ..
  · split
    · exact replied_answer ..
    · exact hf _

theorem replied_inMaintenance {f : State → Effect} {s : State} (hf : Replied k h (f s).sent) :
    Replied k h (inMaintenance k h f s).sent := by
  unfold inMaintenance
  split
  · exact hf
  · exact replied_answer ..

/-! #### Lanes, baskets and parking -/

theorem replied_laneOpen (s : State) : Replied .laneOpen h (laneOpen h s).sent :=
  replied_onLane fun _ => replied_answer ..

theorem replied_laneClose (s : State) : Replied .laneClose h (laneClose h s).sent := by
  refine replied_onLane fun l => ?_
  split <;> exact replied_answer ..

theorem replied_laneProfile (a b c d : Nat) (s : State) : Replied .laneProfile h (laneProfile h a b c d s).sent := by
  refine replied_onLane fun l => ?_
  split
  · exact replied_answer ..
  · split_ifs <;> exact replied_answer ..

theorem replied_basketOpen (s : State) : Replied .basketOpen h (basketOpen h s).sent := by
  unfold basketOpen
  split
  · exact replied_answer ..
  · split
    · exact replied_answer ..
    · dsimp only
      split_ifs <;> exact replied_answer ..

theorem replied_lineAdd (n i q p : Nat) (m c e : Bool) (s : State) : Replied .lineAdd h (lineAdd h n i q p m c e s).sent := by
  refine replied_onServed fun l b => ?_
  dsimp only
  split_ifs <;> exact replied_answer ..

theorem replied_lineQuantity (n line q : Nat) (s : State) : Replied .lineQuantity h (lineQuantity h n line q s).sent := by
  refine replied_onServed fun l b => ?_
  split
  · exact replied_answer ..
  · split_ifs
    · exact replied_answer ..
    · exact replied_answer ..
    · exact replied_after _ _ silent_nil (silent_requantify _ _ _ _ _ _)

theorem replied_lineVoid (n line : Nat) (s : State) : Replied .lineVoid h (lineVoid h n line s).sent := by
  refine replied_onServed fun l b => ?_
  split
  · exact replied_answer ..
  · exact replied_after _ _ silent_nil (silent_withdrawRecord _ _ _ _)

theorem replied_couponPresent (n key : Nat) (s : State) : Replied .couponPresent h (couponPresent h n key s).sent := by
  refine replied_onServed fun l b => ?_
  split_ifs <;> exact replied_answer ..

theorem replied_couponWithdraw (n key : Nat) (s : State) : Replied .couponWithdraw h (couponWithdraw h n key s).sent := by
  refine replied_onServed fun l b => ?_
  split_ifs <;> exact replied_answer ..

theorem replied_planLines (n start : Nat) (s : State) : Replied .planLines h (planLines h n start s).sent := by
  unfold planLines
  split
  · exact replied_answer ..
  · split
    · exact replied_answer ..
    · split_ifs <;> exact replied_answer ..

theorem replied_park (n : Nat) (s : State) : Replied .park h (park h n s).sent := by
  refine replied_onServed fun l b => ?_
  dsimp only
  split_ifs <;> exact replied_answer ..

theorem replied_recallRequest (n : Nat) (s : State) : Replied .basketRecall h (recallRequest h n s).sent := by
  refine replied_onLane fun l => ?_
  dsimp only
  split
  · exact replied_answer ..
  · split
    · exact replied_answer ..
    · split
      · exact replied_answer ..
      · split <;> exact replied_answer ..

theorem replied_cancel (n : Nat) (s : State) : Replied .cancel h (cancel h n s).sent := by
  unfold cancel
  split
  · exact replied_answer ..
  · split
    · exact replied_answer ..
    · split
      · exact replied_answer ..
      · split
        · exact replied_answer ..
        · refine ((((replied_answer .ok .none s).behind (silent_totalReply (by decide) _ _ _)).append ?_).append
            (silent_passIf _ _)).append (silent_journalWaiting _)
          split
          · exact silent_takeBack _ _ _ _
          · exact silent_nil

/-- A TOTAL is answered, or its evaluation is awaited. -/
theorem total_replied_or_awaited (n : Nat) (s : State) :
    Replied .total h (total h n s).sent ∨ (total h n s).sent = [] := by
  simp only [total, onServed]
  split
  · exact .inl (replied_answer ..)
  · split
    · exact .inl (replied_answer ..)
    · split
      · exact .inr rfl
      · exact .inl (replied_answer ..)
      · split <;> exact .inl (replied_answer ..)
      · exact .inl (replied_answer ..)

/-! #### Overrides, desks and routes -/

theorem replied_keyTaken (l : Nat) (b : Basket) (ln : Line) (price : Nat) (reason : Reason) (s : State) :
    Replied .overrideKey h (keyTaken h l b ln price reason s).sent := by
  simp only [keyTaken]
  split
  · exact replied_after _ _ (silent_takeBack _ _ _ _) (silent_passIf _ _)
  · exact replied_after _ _ (silent_takeBack _ _ _ _) (silent_handToRouter _ _ _ _)

theorem replied_overrideKey (n line price reason : Nat) (s : State) :
    Replied .overrideKey h (overrideKey h n line price reason s).sent := by
  refine replied_onServed fun l b => ?_
  split
  · exact replied_answer ..
  · split
    · exact replied_answer ..
    · split
      · exact replied_answer ..
      · split_ifs
        · exact replied_answer ..
        · exact replied_answer ..
        · exact replied_answer ..
        · exact replied_answer ..
        · exact replied_keyTaken ..

theorem replied_overrideWithdraw (n line : Nat) (s : State) :
    Replied .overrideWithdraw h (overrideWithdraw h n line s).sent := by
  refine replied_onServed fun l b => ?_
  split
  · exact replied_answer ..
  · exact replied_after _ _ silent_nil (silent_withdrawRecord _ _ _ _)

theorem replied_decisionTaken (grant : Bool) (operator l : Nat) (p : Presentation) (s : State) :
    Replied k h (decisionTaken k h grant operator l p s).sent := by
  simp only [decisionTaken]
  split
  · exact replied_after _ _ silent_nil (silent_presentationPass _)
  · split
    · refine Replied.andThen (replied_after _ _ (.cons ?_ silent_nil) (silent_staleClaim _ _)) silent_presentationPass
      nofun
    · refine Replied.andThen (replied_after _ _ (.cons ?_ silent_nil) (silent_staleClaim _ _)) silent_presentationPass
      nofun

theorem replied_decision (grant : Bool) (desk : Nat) (tag : Byte) (operator : Nat) (s : State) :
    Replied k h (decision k h grant desk tag operator s).sent := by
  refine replied_onLane fun l => ?_
  split
  · exact replied_answer ..
  · split
    · exact replied_answer ..
    · split
      · exact replied_decisionTaken ..
      · exact replied_answer ..

theorem replied_deskDuty (desk duty : Nat) (s : State) : Replied .deskDuty h (deskDuty h desk duty s).sent := by
  unfold deskDuty
  split
  · split_ifs
    · exact replied_answer ..
    · exact replied_after _ _ silent_nil (silent_presentationPass _)
    · exact replied_after _ _ silent_nil (silent_andThen (silent_recallLanes _ _ _) silent_presentationPass)
  · exact replied_answer ..

theorem replied_deskRecall (code : Nat) (s : State) : Replied .deskRecall h (deskRecall h code s).sent := by
  unfold deskRecall
  split
  · exact replied_answer ..
  · exact replied_after _ _ silent_nil (silent_andThen (silent_recallLanes _ _ _) silent_presentationPass)

theorem replied_deskStatus (desk : Nat) (s : State) : Replied .deskStatus h (deskStatus h desk s).sent := by
  unfold deskStatus
  split <;> exact replied_answer ..

theorem replied_routeSet (desk mode code : Nat) (s : State) : Replied .routeSet h (routeSet h desk mode code s).sent := by
  unfold routeSet
  split
  · split
    · exact replied_answer ..
    · split
      · exact replied_answer ..
      · split
        · exact replied_answer ..
        · refine replied_after _ _ silent_nil ?_
          split
          · exact silent_removeDisplaced _ _ _
          · exact silent_nil
  · exact replied_answer ..

theorem replied_routeMask (setting : Nat) (s : State) : Replied .routeMask h (routeMask h setting s).sent := by
  unfold routeMask
  split
  · split
    · exact replied_answer ..
    · dsimp only
      split_ifs
      · exact replied_reply _ _ silent_nil
      · exact replied_reply _ _ silent_nil
      · exact replied_after _ _ silent_nil (silent_presentationPass _)
  · exact replied_answer ..

/-! #### Accounts and settlement -/

theorem replied_accountAttach (n a : Nat) (s : State) : Replied .accountAttach h (accountAttach h n a s).sent := by
  refine replied_onServed fun l b => ?_
  split
  · exact replied_answer ..
  · split <;> exact replied_answer ..

theorem replied_accountDetach (n : Nat) (s : State) : Replied .accountDetach h (accountDetach h n s).sent := by
  refine replied_onServed fun l b => ?_
  split
  · exact replied_answer ..
  · split <;> exact replied_answer ..

theorem replied_accountLoad (a tier : Nat) (flags : Flags) (balance : Nat) (s : State) :
    Replied .accountLoad h (accountLoad h a tier flags balance s).sent := by
  unfold accountLoad
  split
  · exact replied_answer ..
  · split
    · exact replied_answer ..
    · split
      · simp only [refreshAccount]
        split
        · exact replied_answer ..
        · refine replied_after _ _ silent_nil ?_
          split
          · exact silent_staleClaim _ _
          · exact silent_nil
      · simp only [createAccount]
        split
        · exact replied_reply _ _ silent_nil
        · split
          · exact replied_answer ..
          · exact replied_reply _ _ silent_nil

theorem replied_accountEvict (a : Nat) (s : State) : Replied .accountEvict h (accountEvict h a s).sent := by
  unfold accountEvict
  split
  · exact replied_answer ..
  · split
    · exact replied_answer ..
    · split <;> exact replied_answer ..

theorem replied_accountRead (a : Nat) (s : State) : Replied .accountRead h (accountRead h a s).sent := by
  unfold accountRead
  split
  · exact replied_answer ..
  · split <;> exact replied_answer ..

theorem replied_redeem (n points : Nat) (s : State) : Replied .redeem h (redeem h n points s).sent := by
  refine replied_onServed fun l b => ?_
  dsimp only
  split
  · exact replied_answer ..
  · split
    · exact replied_answer ..
    · split
      · exact replied_answer ..
      · split
        · exact replied_answer ..
        · split_ifs
          · exact replied_answer ..
          · exact replied_answer ..
          · exact replied_answer ..
          · exact replied_reply _ _ silent_nil

theorem replied_redeemRelease (n : Nat) (s : State) : Replied .redeemRelease h (redeemRelease h n s).sent := by
  refine replied_onServed fun l b => ?_
  split <;> exact replied_answer ..

theorem replied_settle (n expected : Nat) (s : State) : Replied .settle h (settle h n expected s).sent := by
  refine replied_onServed fun l b => ?_
  split
  · exact replied_answer ..
  · split
    · exact replied_answer ..
    · split
      · exact replied_answer ..
      · split_ifs
        on_goal 7 => exact replied_reply _ _ (silent_journalWaiting _)
        all_goals exact replied_answer ..

theorem replied_journalTake (s : State) : Replied .journalTake h (journalTake h s).sent := by
  unfold journalTake
  split
  · exact replied_answer ..
  · exact replied_after _ _ silent_nil (silent_admitWaiting _)

/-! #### The store -/

/-- An OFFER WRITE is refused, or its program's completion is awaited. -/
theorem offerWrite_replied_or_awaited (slot : Nat) (r : OfferRecord) (s : State) :
    Replied .offerWrite h (offerWrite h slot r s).sent ∨ (offerWrite h slot r s).sent = [] := by
  unfold offerWrite
  split
  · exact .inl (replied_answer ..)
  · split
    · exact .inl (replied_answer ..)
    · split_ifs
      · exact .inl (replied_answer ..)
      · exact .inl (replied_answer ..)
      · exact .inl (replied_answer ..)
      · exact .inr rfl

/-- An OFFER RETIRE is refused, or its program's completion is awaited. -/
theorem offerRetire_replied_or_awaited (slot : Nat) (s : State) :
    Replied .offerRetire h (offerRetire h slot s).sent ∨ Silent .offerRetire (offerRetire h slot s).sent := by
  unfold offerRetire
  split
  · exact .inl (replied_answer ..)
  · split
    · exact .inl (replied_answer ..)
    · split
      · exact .inl (replied_answer ..)
      · split
        · exact .inl (replied_answer ..)
        · exact .inr (silent_staleClaim _ _)

/-- A SECTOR ERASE is refused, or waits for its sector's erase. -/
theorem sectorErase_replied_or_awaited (sector : Nat) (s : State) :
    Replied .sectorErase h (sectorErase h sector s).sent ∨ (sectorErase h sector s).sent = [] := by
  unfold sectorErase
  split
  · exact .inl (replied_answer ..)
  · split
    · exact .inl (replied_answer ..)
    · split
      · exact .inl (replied_answer ..)
      · exact .inr rfl

/-- An ERASE SUSPEND is answered, or the suspend's completion is awaited. -/
theorem eraseSuspend_replied_or_awaited (s : State) :
    Replied .eraseSuspend h (eraseSuspend h s).sent ∨ (eraseSuspend h s).sent = [] := by
  unfold eraseSuspend
  split
  case h_1 => exact .inr rfl
  all_goals exact .inl (replied_answer ..)

theorem replied_offerRead (slot : Nat) (s : State) : Replied .offerRead h (offerRead h slot s).sent := by
  unfold offerRead
  split <;> exact replied_answer ..

theorem replied_eraseResume (s : State) : Replied .eraseResume h (eraseResume h s).sent := by
  unfold eraseResume
  split_ifs <;> exact replied_answer ..

/-! #### Tables, calendar and link -/

theorem replied_groupRangeAdd (f l g : Nat) (c e : Bool) (s : State) :
    Replied .groupRangeAdd h (groupRangeAdd h f l g c e s).sent := by
  refine replied_inMaintenance ?_
  split
  · exact replied_answer ..
  · split
    · exact replied_answer ..
    · split <;> exact replied_answer ..

theorem replied_groupRangeRemove (f : Nat) (s : State) : Replied .groupRangeRemove h (groupRangeRemove h f s).sent := by
  refine replied_inMaintenance ?_
  split
  · exact replied_answer ..
  · split <;> exact replied_answer ..

theorem replied_groupTableClear (s : State) : Replied .groupTableClear h (groupTableClear h s).sent :=
  replied_inMaintenance (replied_answer ..)

theorem replied_maskWrite (target : Nat) (flags : Flags) (through : Nat) (s : State) :
    Replied .maskWrite h (maskWrite h target flags through s).sent := by
  unfold maskWrite
  split_ifs
  · exact replied_answer ..
  · exact replied_answer ..
  · exact replied_after _ _ silent_nil (silent_staleClaim _ _)

theorem replied_maskRead (e : Nat) (s : State) : Replied .maskRead h (maskRead h e s).sent := by
  unfold maskRead
  split_ifs <;> exact replied_answer ..

theorem replied_tierSet (tier rate : Nat) (s : State) : Replied .tierSet h (tierSet h tier rate s).sent := by
  refine replied_inMaintenance ?_
  split
  · exact replied_answer ..
  · split <;> exact replied_answer ..

theorem replied_limitsSet (a b c d e f g : Nat) (s : State) : Replied .limitsSet h (limitsSet h a b c d e f g s).sent := by
  unfold limitsSet
  split <;> exact replied_answer ..

theorem replied_storeIdentity (n : Nat) (s : State) : Replied .storeIdentity h (storeIdentity h n s).sent := by
  unfold storeIdentity
  split
  · exact replied_answer ..
  · split <;> exact replied_answer ..

theorem replied_calendarSet (y mo d ho mi se : Nat) (s : State) :
    Replied .calendarSet h (calendarSet h y mo d ho mi se s).sent := by
  unfold calendarSet
  split <;> exact replied_answer ..

theorem replied_minuteMark (s : State) : Replied .minuteMark h (minuteMark h s).sent := by
  unfold minuteMark
  split <;> exact replied_answer ..

theorem replied_tradingStart (s : State) : Replied .tradingStart h (tradingStart h s).sent := by
  unfold tradingStart
  split
  · exact replied_answer ..
  · split
    · exact replied_answer ..
    · split <;> exact replied_answer ..

theorem replied_tradingStop (s : State) : Replied .tradingStop h (tradingStop h s).sent := by
  unfold tradingStop
  split <;> exact replied_answer ..

theorem replied_restart (s : State) : Replied .restart h (restart h s).sent :=
  (replied_reply _ _ silent_nil).behind (silent_restartedReplies (by decide) s)

theorem replied_engineStatus (clear : Nat) (s : State) : Replied .engineStatus h (engineStatus h clear s).sent := by
  unfold engineStatus
  split <;> exact replied_answer ..

end Replies

/-! ### The reply of each request (R178) -/

/-- The requests that may be answered at a later event. -/
def AnsweredLater (k : RequestKind) : Prop :=
  k = .total ∨ k = .offerWrite ∨ k = .offerRetire ∨ k = .sectorErase ∨ k = .eraseSuspend

/-- A request's effect sends its one reply, or none of its kind when it may be answered later. -/
theorem runOf_replied {c : Instr} {k : RequestKind} {h : Header} {p : List Byte} (s : State)
    (he : encodeRequest c = some (k, h, p)) :
    Replied k h (runOf c s).sent ∨ Silent k (runOf c s).sent ∧ AnsweredLater k := by
  have awaited {ms : List Message} (hl : AnsweredLater k) (hms : Replied k h ms ∨ ms = []) :
      Replied k h ms ∨ Silent k ms ∧ AnsweredLater k := hms.imp_right fun (hnil : ms = []) => ⟨hnil ▸ silent_nil, hl⟩
  cases c <;> cases he
  case total => exact awaited (.inl rfl) (total_replied_or_awaited ..)
  case offerWrite => exact awaited (.inr (.inl rfl)) (offerWrite_replied_or_awaited ..)
  case offerRetire =>
    exact (offerRetire_replied_or_awaited ..).imp_right fun h => ⟨h, .inr (.inr (.inl rfl))⟩
  case sectorErase => exact awaited (.inr (.inr (.inr (.inl rfl)))) (sectorErase_replied_or_awaited ..)
  case eraseSuspend => exact awaited (.inr (.inr (.inr (.inr rfl)))) (eraseSuspend_replied_or_awaited ..)
  all_goals refine .inl ?_
  case laneOpen => exact replied_laneOpen s
  case laneClose => exact replied_laneClose s
  case laneProfile => exact replied_laneProfile ..
  case basketOpen => exact replied_basketOpen s
  case lineAdd => exact replied_lineAdd ..
  case lineQuantity => exact replied_lineQuantity ..
  case lineVoid => exact replied_lineVoid ..
  case couponPresent => exact replied_couponPresent ..
  case couponWithdraw => exact replied_couponWithdraw ..
  case accountAttach => exact replied_accountAttach ..
  case accountDetach => exact replied_accountDetach ..
  case planLines => exact replied_planLines ..
  case park => exact replied_park ..
  case basketRecall => exact replied_recallRequest ..
  case cancel => exact replied_cancel ..
  case overrideKey => exact replied_overrideKey ..
  case overrideWithdraw => exact replied_overrideWithdraw ..
  case redeem => exact replied_redeem ..
  case redeemRelease => exact replied_redeemRelease ..
  case settle => exact replied_settle ..
  case authorise => exact replied_decision ..
  case decline => exact replied_decision ..
  case deskDuty => exact replied_deskDuty ..
  case deskRecall => exact replied_deskRecall ..
  case deskStatus => exact replied_deskStatus ..
  case routeSet => exact replied_routeSet ..
  case routeMask => exact replied_routeMask ..
  case accountLoad => exact replied_accountLoad ..
  case accountEvict => exact replied_accountEvict ..
  case accountRead => exact replied_accountRead ..
  case offerRead => exact replied_offerRead ..
  case eraseResume => exact replied_eraseResume s
  case storeStatus => exact replied_answer ..
  case storeClearFault => exact replied_answer ..
  case groupRangeAdd => exact replied_groupRangeAdd ..
  case groupRangeRemove => exact replied_groupRangeRemove ..
  case groupTableClear => exact replied_groupTableClear s
  case maskWrite => exact replied_maskWrite ..
  case maskRead => exact replied_maskRead ..
  case tierSet => exact replied_tierSet ..
  case limitsSet => exact replied_limitsSet ..
  case storeIdentity => exact replied_storeIdentity ..
  case calendarSet => exact replied_calendarSet ..
  case calendarRead => exact replied_answer ..
  case minuteMark => exact replied_minuteMark s
  case tradingStart => exact replied_tradingStart s
  case tradingStop => exact replied_tradingStop s
  case restart => exact replied_restart s
  case engineStatus => exact replied_engineStatus ..
  case journalTake => exact replied_journalTake s
  case journalCount => exact replied_answer ..

/-- The replies in a list of messages with a kind, a lane byte and a tag. -/
def repliesIn (k : RequestKind) (h : Header) (ms : List Message) : Nat :=
  (ms.filter fun m => decide (m.kind = .reply k ∧ m.lane = h.lane ∧ m.tag = h.tag)).length

theorem repliesIn_append (k : RequestKind) (h : Header) (ms ns : List Message) :
    repliesIn k h (ms ++ ns) = repliesIn k h ms + repliesIn k h ns := by
  simp only [repliesIn, List.filter_append, List.length_append]

theorem repliesIn_of_silent {k : RequestKind} {ms : List Message} (h : Header) (hs : Silent k ms) :
    repliesIn k h ms = 0 := by
  rw [repliesIn, List.length_eq_zero_iff, List.filter_eq_nil_iff]
  intro m hm
  simp [hs m hm]

theorem repliesIn_of_replied {k : RequestKind} {h : Header} {ms : List Message} (hr : Replied k h ms) :
    repliesIn k h ms = 1 := by
  obtain ⟨before, after, st, p, rfl, hb, ha⟩ := hr
  have hone : repliesIn k h [replyTo k h st p] = 1 := by simp [repliesIn, replyTo]
  rw [← List.singleton_append, repliesIn_append, repliesIn_append, repliesIn_of_silent h hb, hone,
    repliesIn_of_silent h ha]

/-- Placed messages are on the transmit queue or held. -/
theorem repliesIn_place (k : RequestKind) (h : Header) (b : Block) (ms : List Message) (s : State) :
    repliesIn k h ((place b ms s).link.transmit ++ (place b ms s).link.held.map HeldMessage.message)
      = repliesIn k h (s.link.transmit ++ s.link.held.map HeldMessage.message) + repliesIn k h ms := by
  have hmap (ns : List Message) : (ns.map fun m => ({ owner := b, message := m } : HeldMessage)).map HeldMessage.message = ns := by
    rw [List.map_map]
    exact List.map_id ns
  have hsplit : repliesIn k h (ms.take (room s)) + repliesIn k h (ms.drop (room s)) = repliesIn k h ms := by
    rw [← repliesIn_append, List.take_append_drop]
  simp only [place, State.withLink, List.map_append, hmap, repliesIn_append]
  omega

theorem exec_total (c : Instr) (s : State) : ∃ t, exec c s = .next t := by
  cases c <;> exact ⟨_, rfl⟩

/-- Settles O12: the block takes the request, its effect sends its one reply or leaves it for later, and the messages are
placed or held. -/
theorem oneReplyEach : Obligations.OneReplyEach := by
  intro c s
  refine ⟨exec_total c s, fun k h p he hu => ?_⟩
  obtain ⟨b, hb⟩ := owner_of_request (c := c) (by simp [headerOf, he])
  refine ⟨_, (exec_eq_takeEvent s hb).trans (congrArg _ (takeEvent_of_unhindered hu hb)), ?_⟩
  obtain ⟨-, htransmit, hheld, -⟩ := runOf_link_kept c (leaveQueue c s)
  have hcount := repliesIn_place k h b (runOf c (leaveQueue c s)).sent (runOf c (leaveQueue c s)).state
  rw [htransmit, hheld] at hcount
  rcases runOf_replied (leaveQueue c s) he with hr | ⟨hs, hlater⟩
  · rw [repliesIn_of_replied hr] at hcount
    exact .inl hcount
  · rw [repliesIn_of_silent h hs] at hcount
    exact .inr ⟨hcount, hlater⟩

end Sys2Proof.Machine
end

section
/-! RESTART and ENGINE STATUS (O14, O15). -/

namespace Sys2Proof.Machine

/-- The outstanding TOTALs of one lane's baskets, basket by basket. -/
theorem restartedReplies_eq (s : State) : restartedReplies s =
    allLanes.flatMap fun l => s.basketTable.baskets.flatMap fun b =>
      if b.lane = some l then totalReply .restarted .none b else [] := by
  unfold restartedReplies
  refine congrArg (List.flatMap · allLanes) (funext fun l => ?_)
  induction s.basketTable.baskets with
  | nil => rfl
  | cons b rest ih => by_cases h : b.lane = some l <;> simp [h, ih]

/-- Settles O14, part by part of what RESTART leaves. -/
theorem restartClears : Obligations.RestartClears := by
  intro h s c hc hu
  subst hc
  refine ⟨restartedState (leaveQueue (.restart h) s), restartedReplies (leaveQueue (.restart h) s),
    takes_of_runOf hu rfl rfl, ?_, rfl, rfl, rfl, fun l => Vector.getElem?_map .., rfl, fun u => Vector.getElem?_map .., rfl,
    fun l => Vector.getElem?_map .., fun d => Vector.getElem?_map .., rfl, rfl, rfl, rfl, rfl, rfl, rfl, rfl, rfl⟩
  rw [restartedReplies_eq]
  refine congrArg (List.flatMap · allLanes) (funext fun l => congrArg (List.flatMap · _) (funext fun b => ?_))
  cases ho : b.outstanding <;> simp [totalReply, ho]

/-- Settles O15: the flag is read, and the report is the one the requirement lists. -/
theorem engineStatusRule : Obligations.EngineStatusRule := by
  intro h clear s c hc hu
  subst hc
  refine ⟨fun hbad => refuses_of_refuse hu rfl ?_, fun hok => ?_⟩
  · simp only [runOf, engineStatus, switchOf_eq_none hbad]
  · obtain rfl | rfl : clear = 0 ∨ clear = 1 := by omega
    · exact takes_of_runOf hu rfl rfl
    · exact takes_of_runOf hu rfl rfl

end Sys2Proof.Machine
end

section
/-! The checks of basket requests, changes and stale claims, lines and totals (O18, O19, O20, O24). -/

namespace Sys2Proof.Machine

/-! ### The checks of R4 -/

theorem basketCheck_wrongMode {h : Header} {s : State} (n : Nat) (hm : s.link.mode = .maintenance) :
    basketCheck h n s = .error .wrongMode := if_pos hm

theorem basketCheck_badField {h : Header} {s : State} (n : Nat) (hm : s.link.mode ≠ .maintenance) (hl : 16 ≤ h.lane.toNat) :
    basketCheck h n s = .error .badField := by
  simp only [basketCheck, if_neg hm, laneOf_eq_none hl]

theorem basketCheck_noBasket {h : Header} {n : Nat} {s : State} (hm : s.link.mode ≠ .maintenance) (hl : h.lane.toNat < 16)
    (hb : ∀ b, findBasket n s = some b → b.state ≠ .parked ∧ b.lane ≠ some h.lane.toNat) :
    basketCheck h n s = .error .noBasket := by
  simp only [basketCheck, if_neg hm, laneOf_eq_some hl]
  split
  · rfl
  · rename_i b hfound
    obtain ⟨hstate, hlane⟩ := hb b hfound
    exact if_neg (not_or.2 ⟨hstate, hlane⟩)

/-- A basket request that fails a check is refused by it. -/
theorem runOf_of_check_error {c : Instr} {k : RequestKind} {n : Nat} {h : Header} {e : Status} {s : State}
    (hc : basketRequest c = some (k, n)) (hh : headerOf c = some h) (he : basketCheck h n s = .error e) :
    runOf c s = refuse k h e s := by
  cases c <;> cases hc <;> cases hh
  case planLines => simp only [runOf, planLines, he]
  case lineAdd => simp only [runOf, lineAdd, onServed, he]
  case lineQuantity => simp only [runOf, lineQuantity, onServed, he]
  case lineVoid => simp only [runOf, lineVoid, onServed, he]
  case couponPresent => simp only [runOf, couponPresent, onServed, he]
  case couponWithdraw => simp only [runOf, couponWithdraw, onServed, he]
  case accountAttach => simp only [runOf, accountAttach, onServed, he]
  case accountDetach => simp only [runOf, accountDetach, onServed, he]
  case total => simp only [runOf, total, onServed, he]
  case park => simp only [runOf, park, onServed, he]
  case overrideKey => simp only [runOf, overrideKey, onServed, he]
  case overrideWithdraw => simp only [runOf, overrideWithdraw, onServed, he]
  case redeem => simp only [runOf, redeem, onServed, he]
  case redeemRelease => simp only [runOf, redeemRelease, onServed, he]
  case settle => simp only [runOf, settle, onServed, he]

/-- A basket request, but for PLAN LINES, is refused by a PARKED basket. -/
theorem runOf_of_parked {c : Instr} {k : RequestKind} {n l : Nat} {h : Header} {b : Basket} {s : State}
    (hc : basketRequest c = some (k, n)) (hh : headerOf c = some h) (hok : basketCheck h n s = .ok (l, b))
    (hb : b.state = .parked) (hk : k ≠ .planLines) : runOf c s = refuse k h .basketState s := by
  cases c <;> cases hc <;> cases hh
  case planLines => exact absurd rfl hk
  case lineAdd => simp only [runOf, lineAdd, onServed, hok, if_pos hb]
  case lineQuantity => simp only [runOf, lineQuantity, onServed, hok, if_pos hb]
  case lineVoid => simp only [runOf, lineVoid, onServed, hok, if_pos hb]
  case couponPresent => simp only [runOf, couponPresent, onServed, hok, if_pos hb]
  case couponWithdraw => simp only [runOf, couponWithdraw, onServed, hok, if_pos hb]
  case accountAttach => simp only [runOf, accountAttach, onServed, hok, if_pos hb]
  case accountDetach => simp only [runOf, accountDetach, onServed, hok, if_pos hb]
  case total => simp only [runOf, total, onServed, hok, if_pos hb]
  case park => simp only [runOf, park, onServed, hok, if_pos hb]
  case overrideKey => simp only [runOf, overrideKey, onServed, hok, if_pos hb]
  case overrideWithdraw => simp only [runOf, overrideWithdraw, onServed, hok, if_pos hb]
  case redeem => simp only [runOf, redeem, onServed, hok, if_pos hb]
  case redeemRelease => simp only [runOf, redeemRelease, onServed, hok, if_pos hb]
  case settle => simp only [runOf, settle, onServed, hok, if_pos hb]

/-- Settles O18: each check gives its status, and every basket request makes the same checks. -/
theorem basketChecks : Obligations.BasketChecks := by
  intro c k n h blk s hc hh ho hu
  have hrefused {e : Status} (he : basketCheck h n (leaveQueue c s) = .error e) : Refuses c blk k h e s :=
    refuses_of_refuse hu ho (runOf_of_check_error hc hh he)
  refine ⟨fun hm => hrefused (basketCheck_wrongMode n hm), fun hm hl => hrefused (basketCheck_badField n hm hl),
    fun hm hl hnone => hrefused (basketCheck_noBasket hm hl fun b hb => ?_),
    fun b hm hl hb hstate hlane => hrefused (basketCheck_noBasket hm hl fun x hx => ?_),
    fun b hm hl hb hstate hk => refuses_of_refuse hu ho (runOf_of_parked (l := h.lane.toNat) hc hh ?_ hstate hk)⟩
  · cases hnone.symm.trans hb
  · obtain rfl := Option.some.inj (hb.symm.trans hx)
    exact ⟨hstate, hlane⟩
  · exact basketCheck_of_held (s := leaveQueue c s) hm (laneOf_eq_some hl) hb (.inl hstate)

/-! ### Changes and stale claims (R14, R15) -/

/-- Settles O19, by a change's two cases and the notices of a claim. -/
theorem changesMakePlansStale : Obligations.ChangesMakePlansStale := by
  refine ⟨fun b => ⟨fun hb => if_pos hb, fun hb => if_neg hb⟩, fun ns s => ⟨?_, ?_⟩⟩
  · simp only [staleClaim, State.withBaskets, State.withBasketTable, List.contains_iff_mem]
  · show staleNotices ns s = _
    refine congrArg (List.flatMap · (List.range 16)) (funext fun l => ?_)
    have hfilter : (s.basketTable.baskets.filter fun b =>
          ns.contains b.number && decide (b.state = .totalled) && decide (b.lane = some l))
        = s.basketTable.baskets.filter fun b =>
          decide (b.number ∈ ns) && decide (b.state = .totalled) && decide (b.lane = some l) := by
      simp only [List.contains_eq_mem]
    rw [hfilter]
    refine List.map_congr_left fun b hb => ?_
    have hlane : b.lane = some l := by
      have := (List.mem_filter.1 hb).2
      simp only [Bool.and_eq_true, decide_eq_true_eq] at this
      exact this.2
    have hraised : b.raised.lane = b.lane ∧ b.raised.number = b.number ∧ b.raised.generation = b.generation + 1
        ∧ b.raised.planSeq = b.planSeq := by
      unfold Basket.raised
      split <;> exact ⟨rfl, rfl, rfl, rfl⟩
    obtain ⟨hl, hn, hg, hp⟩ := hraised
    rw [planStaleNotice, hl, hn, hg, hp, hlane]

/-! ### Adding a line (R9, R50) -/

/-- A range holds the item and gives its group and permissions. -/
theorem lookupItem_of_range {item : Nat} {t : Tables} {r : GroupRange}
    (hr : (t.ranges.find? fun r => decide (r.first ≤ item) && decide (item ≤ r.last)) = some r) :
    lookupItem item t = (r.group, r.concession, r.earn) := by
  simp only [lookupItem, findRange, hr]

theorem lookupItem_of_none {item : Nat} {t : Tables} (hr : ∀ r ∈ t.ranges, ¬ (r.first ≤ item ∧ item ≤ r.last)) :
    lookupItem item t = (0, true, true) := by
  have hnone : findRange item t = none := List.find?_eq_none.2 fun r hm => by
    rw [Bool.and_eq_true, decide_eq_true_eq, decide_eq_true_eq]
    exact hr r hm
  simp only [lookupItem, hnone]

theorem lineFieldsOk_iff (b : Basket) (item q u : Nat) (meas : Bool) : lineFieldsOk b item q u meas = true ↔
    1 ≤ item ∧ item ≤ 999999999 ∧ 1 ≤ q ∧ q ≤ 999 ∧ (meas = true → q = 1) ∧ 1 ≤ u ∧ u ≤ 9999999 ∧ q * u ≤ 99999999
      ∧ linesTotal b.lines + q * u ≤ 99999999 := by
  have hmeas : (meas = false ∨ q = 1) ↔ (meas = true → q = 1) := by cases meas <;> simp
  simp only [lineFieldsOk, inRange, Bool.and_eq_true, Bool.or_eq_true, Bool.not_eq_true', decide_eq_true_eq, and_assoc,
    hmeas]
  rfl

/-- LINE ADD of a basket it serves, for the group and permissions that the lookup gives. -/
theorem lineAdd_of_served {h : Header} {n item q u l g : Nat} {meas con earn gc ge : Bool} {b : Basket} {s : State}
    (hs : Served h n l b s) (hfound : lookupItem item s.tables = (g, gc, ge)) :
    lineAdd h n item q u meas con earn s =
      if lineFieldsOk b item q u meas = false then refuse .lineAdd h .badField s
      else if 64 ≤ b.lines.length then refuse .lineAdd h .linesFull s
      else if 255 < b.nextLine then refuse .lineAdd h .lineNumbersUsed s
      else answer .lineAdd h .ok (.lineAdded b.nextLine g) (s.withBaskets (s.basketTable.baskets.map fun x =>
        if x.number = n then
          Basket.raised { x with
            lines := x.lines ++
              [{ number := b.nextLine, item := item, group := g, quantity := q, price := u, measured := meas
                 concession := con && gc, earn := earn && ge }]
            nextLine := x.nextLine + 1 }
        else x)) := by
  rw [lineAdd, onServed_of_served hs]
  simp only [hfound, Bool.not_eq_true']
  rw [ownChange_mapBasket]
  · rfl
  · exact fun _ => rfl

/-- Settles O20: the field checks, the two limits, and the line the lookup makes. -/
theorem lineAddRule : Obligations.LineAddRule := by
  intro h n item q u meas con earn l b s c hc hu hs
  subst hc
  have heq (g : Nat) (gc ge : Bool) (hfound : lookupItem item s.tables = (g, gc, ge)) :=
    lineAdd_of_served (q := q) (u := u) (meas := meas) (con := con) (earn := earn)
      (served_leaveQueue (.lineAdd h n item q u meas con earn) hs) hfound
  refine ⟨fun hbad => refuses_of_refuse hu rfl ((heq _ _ _ rfl).trans (if_pos ?_)), fun hgood => ?_⟩
  · rw [← Bool.not_eq_true, lineFieldsOk_iff]
    rcases meas with _ | _ <;> simp at hbad ⊢ <;> omega
  · have hok : ¬ lineFieldsOk b item q u meas = false := by simp [(lineFieldsOk_iff b item q u meas).2 hgood]
    refine ⟨fun hfull => refuses_of_refuse hu rfl ((heq _ _ _ rfl).trans ((if_neg hok).trans (if_pos hfull))),
      fun hroom hused => refuses_of_refuse hu rfl ((heq _ _ _ rfl).trans
        ((if_neg hok).trans ((if_neg (Nat.not_le.2 hroom)).trans (if_pos hused)))),
      fun hroom hfree g gc ge hlookup => ?_⟩
    have hfound : lookupItem item s.tables = (g, gc, ge) := by
      rcases hlookup with ⟨r, hr, rfl, rfl, rfl⟩ | ⟨hnone, rfl, rfl, rfl⟩
      · exact lookupItem_of_range hr
      · exact lookupItem_of_none hnone
    exact takes_of_answer hu rfl ((heq g gc ge hfound).trans
      ((if_neg hok).trans ((if_neg (Nat.not_le.2 hroom)).trans (if_neg (Nat.not_lt.2 hfree)))))

/-! ### TOTAL (R16, R79) -/

theorem idleUnit_eq_none {e : Evaluator} (h : ∀ u : Nat, u < 4 → e.units[u]? ≠ some none) : idleUnit e = none :=
  List.find?_eq_none.2 fun u hu => by simpa using h u (List.mem_range.1 hu)

theorem idleUnit_eq_some {e : Evaluator} {u : Nat} (hu : e.units[u]? = some none)
    (hlow : ∀ v : Nat, v < u → e.units[v]? ≠ some none) : idleUnit e = some u := by
  have hlt : u < 4 := by
    by_contra hge
    rw [Vector.getElem?_eq_none (Nat.not_lt.1 hge)] at hu
    cases hu
  rw [idleUnit, List.find?_range_eq_some]
  exact ⟨by simpa using hu, List.mem_range.2 hlt, fun v hv => by simpa using hlow v hv⟩

theorem unitTakes_of_busy {s : State} (h : idleUnit s.evaluator = none) : unitTakes s = s := by
  unfold unitTakes
  rw [h]
  split
  · rename_i heq
    cases heq
  · rfl

theorem unitTakes_of_idle {s : State} {n u : Nat} {rest : List Nat} {b : Basket} (hq : s.evaluator.queue = n :: rest)
    (hu : idleUnit s.evaluator = some u) (hb : findBasket n s = some b) : unitTakes s = s.withEvaluator
      { queue := rest
        units := s.evaluator.units.setIfInBounds u (some { basket := n, snapshot := snapshotOf b s, discard := false }) } := by
  simp only [unitTakes, hq, hu, hb]

/-- A basket's TOTAL is outstanding and it is TOTALLING. -/
def totallingFor (h : Header) (b : Basket) : Basket := { b with state := .totalling, outstanding := some h }

/-- The state in which a TOTAL has made its basket TOTALLING and put it on the queue. -/
def totalQueued (h : Header) (n : Nat) (s : State) : State :=
  (mapBasket n (totallingFor h) s).withEvaluator { s.evaluator with queue := s.evaluator.queue ++ [n] }

theorem total_of_opened {h : Header} {n l : Nat} {b : Basket} {s : State} (hs : Served h n l b s) (hb : b.state = .opened) :
    total h n s = nothing (unitTakes (totalQueued h n s)) := by
  rw [total, onServed_of_served hs]
  simp only [hb]
  rfl

theorem findBasket_totalQueued {h : Header} {n : Nat} {b : Basket} {s : State} (hb : findBasket n s = some b) :
    findBasket n (totalQueued h n s) = some (totallingFor h b) :=
  (findBasket_mapBasket n (totallingFor h) s fun _ => rfl).trans (congrArg _ hb)

/-- What a look-up finds is not changed by a unit's taking a basket. -/
theorem findBasket_unitTakes (n : Nat) (s : State) : findBasket n (unitTakes s) = findBasket n s := by
  simp only [findBasket, unitTakes_basketTable]

/-- Settles O24, by the basket's state; in OPEN by whether a unit is idle. -/
theorem totalRule : Obligations.TotalRule := by
  intro h n l b s c hc hu hs
  subst hc
  have hserved := served_leaveQueue (.total h n) hs
  obtain ⟨-, -, hb, -, -⟩ := hs
  refine ⟨fun hopen => ?_, fun htotalling => refuses_of_refuse hu rfl ?_,
    fun p htotalled hp => takes_of_answer hu rfl ?_⟩
  · refine ⟨unitTakes (totalQueued h n (leaveQueue (.total h n) s)), takes_of_runOf hu rfl (total_of_opened hserved hopen),
      (findBasket_unitTakes n _).trans (findBasket_totalQueued hb), rfl,
      fun m hm => (findBasket_unitTakes m _).trans (findBasket_mapBasket_of_ne n m (totallingFor h) _ hm fun _ => rfl),
      by rw [unitTakes_basketTable]; rfl, by rw [unitTakes_basketTable]; rfl, fun hbusy => ?_, fun u hq hidle hlow => ?_,
      unitTakes_link _, by rw [unitTakes_basketTable]; rfl, unitTakes_store _, unitTakes_tables _, unitTakes_overrides _,
      unitTakes_accounts _, unitTakes_calendar _, unitTakes_router _, unitTakes_settlement _, unitTakes_pending _⟩
    · exact congrArg State.evaluator (unitTakes_of_busy (s := totalQueued h n (leaveQueue (.total h n) s))
        (idleUnit_eq_none hbusy))
    · have hqueue : (totalQueued h n (leaveQueue (.total h n) s)).evaluator.queue = [n] := by
        simp [totalQueued, hq]
      have hunit : idleUnit (totalQueued h n (leaveQueue (.total h n) s)).evaluator = some u := idleUnit_eq_some hidle hlow
      have hlt : u < 4 := (Vector.getElem?_eq_some_iff.1 hidle).1
      rw [unitTakes_of_idle hqueue hunit (findBasket_totalQueued hb)]
      refine ⟨rfl, fun v hv => Vector.getElem?_setIfInBounds_ne hv.symm,
        { basket := n, snapshot := snapshotOf (totallingFor h b) (totalQueued h n (leaveQueue (.total h n) s))
          discard := false }, ?_, rfl, rfl, rfl, rfl, rfl⟩
      exact Vector.getElem?_setIfInBounds_self_of_lt hlt
  · show total h n _ = _
    rw [total, onServed_of_served hserved]
    simp only [htotalling]
  · show total h n _ = _
    rw [total, onServed_of_served hserved]
    simp only [htotalled, hp]

end Sys2Proof.Machine
end

section
/-! The offer record's check, and the offer store's programs and erases (O41 to O44). -/

namespace Sys2Proof.Machine

/-! ### The check of a record (R25) -/

theorem reductionOk_iff (most : Nat) (r : OfferRecord) : reductionOk most r = true ↔
    r.form ≤ 1 ∧ 1 ≤ r.value ∧ (r.form = 0 → r.value ≤ most) ∧ (r.form = 1 → r.value ≤ 10000) := by
  simp only [reductionOk, inRange, Bool.or_eq_true, Bool.and_eq_true, decide_eq_true_eq]
  omega

theorem offerKindOf_eq_none {k : Nat} (h : k = 0 ∨ 6 ≤ k) : offerKindOf k = none := by
  rcases h with rfl | h
  · rfl
  · obtain ⟨m, rfl⟩ := Nat.exists_eq_add_of_le' h
    rfl

/-- The fields that are read for each kind, one conjunct for each group of section 2.2. -/
theorem kindFieldsOk_iff (r : OfferRecord) : kindFieldsOk r = true ↔
    1 ≤ r.kind ∧ r.kind ≤ 5
    ∧ ((r.kind = 1 ∨ r.kind = 2) → r.stacking ≤ 1)
    ∧ (r.kind = 3 → r.stacking = 0 ∧ 2 ≤ r.buy ∧ r.buy ≤ 20 ∧ 1 ≤ r.pay ∧ r.pay ≤ r.buy - 1)
    ∧ ((r.kind = 1 ∨ r.kind = 2) → reductionOk 9999999 r = true)
    ∧ (r.kind = 4 → reductionOk 99999999 r = true)
    ∧ (r.kind = 2 → 2 ≤ r.threshold ∧ r.threshold ≤ 999)
    ∧ (r.kind = 4 → r.threshold ≤ 99999999 ∧ r.couponKey ≠ 0)
    ∧ (r.kind = 5 → 1 ≤ r.extra ∧ r.extra ≤ 100) := by
  by_cases hk : 1 ≤ r.kind ∧ r.kind ≤ 5
  · obtain h | h | h | h | h : r.kind = 1 ∨ r.kind = 2 ∨ r.kind = 3 ∨ r.kind = 4 ∨ r.kind = 5 := by omega
    all_goals
      simp only [kindFieldsOk, h, offerKindOf, Bool.and_eq_true, decide_eq_true_eq, inRange_iff]
      simp [and_assoc, Config.maxPrice, Config.maxMoney]
  · have hnone : offerKindOf r.kind = none := offerKindOf_eq_none (by omega)
    simp only [kindFieldsOk, hnone]
    constructor
    · intro h
      cases h
    · rintro ⟨hlo, hhi, -⟩
      exact absurd ⟨hlo, hhi⟩ hk

/-- The weekday set without bit 7 has a day. -/
theorem weekdaySet_ne_zero (r : OfferRecord) : weekdaySet r ≠ 0 ↔ ∃ d : Nat, d < 7 ∧ r.weekdays.getLsbD d = true := by
  have key : ∀ w : Byte, w &&& 0x7F#8 ≠ 0 ↔ ∃ d : Fin 7, w.getLsbD d.val = true := by decide +kernel
  rw [weekdaySet, key]
  exact ⟨fun ⟨d, hd⟩ => ⟨d.val, d.isLt, hd⟩, fun ⟨d, hlt, hd⟩ => ⟨⟨d, hlt⟩, hd⟩⟩

theorem windowOk_iff (r : OfferRecord) : windowOk r = true ↔
    (r.enables.getLsbD 0 = true → realDay r.startDate.year r.startDate.month r.startDate.day = true)
    ∧ (r.enables.getLsbD 1 = true → realDay r.endDate.year r.endDate.month r.endDate.day = true)
    ∧ (r.enables.getLsbD 0 = true → r.enables.getLsbD 1 = true → dateLE r.startDate r.endDate = true)
    ∧ (r.enables.getLsbD 2 = true → ∃ d : Nat, d < 7 ∧ r.weekdays.getLsbD d = true)
    ∧ (r.enables.getLsbD 3 = true → r.fromMinute ≤ 1439 ∧ r.toMinute ≤ 1439 ∧ r.fromMinute ≠ r.toMinute) := by
  have himp (a : Bool) (p : Prop) : (a = false ∨ p) ↔ (a = true → p) := by cases a <;> simp
  rw [← weekdaySet_ne_zero]
  simp only [windowOk, Bool.and_eq_true, Bool.or_eq_true, Bool.not_eq_true', himp, decide_eq_true_eq, and_assoc, and_imp,
    startEnabled, endEnabled, weekdaysEnabled, timeEnabled]

/-- The check of an offer record, in the words of R25 and section 2.2. -/
theorem recordOk_iff (r : OfferRecord) : recordOk r = true ↔
    1 ≤ r.number ∧ r.number ≤ 65535 ∧ 1 ≤ r.kind ∧ r.kind ≤ 5 ∧ r.priority ≤ 15
    ∧ ((r.kind = 1 ∨ r.kind = 2) → r.stacking ≤ 1)
    ∧ (r.kind = 3 → r.stacking = 0 ∧ 2 ≤ r.buy ∧ r.buy ≤ 20 ∧ 1 ≤ r.pay ∧ r.pay ≤ r.buy - 1)
    ∧ ((r.kind = 1 ∨ r.kind = 2) → r.form ≤ 1 ∧ 1 ≤ r.value
        ∧ (r.form = 0 → r.value ≤ 9999999) ∧ (r.form = 1 → r.value ≤ 10000))
    ∧ (r.kind = 4 → r.form ≤ 1 ∧ 1 ≤ r.value ∧ (r.form = 0 → r.value ≤ 99999999) ∧ (r.form = 1 → r.value ≤ 10000))
    ∧ (r.kind = 2 → 2 ≤ r.threshold ∧ r.threshold ≤ 999)
    ∧ (r.kind = 4 → r.threshold ≤ 99999999 ∧ r.couponKey ≠ 0)
    ∧ (r.kind = 5 → 1 ≤ r.extra ∧ r.extra ≤ 100)
    ∧ (r.enables.getLsbD 0 = true → realDay r.startDate.year r.startDate.month r.startDate.day = true)
    ∧ (r.enables.getLsbD 1 = true → realDay r.endDate.year r.endDate.month r.endDate.day = true)
    ∧ (r.enables.getLsbD 0 = true → r.enables.getLsbD 1 = true → dateLE r.startDate r.endDate = true)
    ∧ (r.enables.getLsbD 2 = true → ∃ d : Nat, d < 7 ∧ r.weekdays.getLsbD d = true)
    ∧ (r.enables.getLsbD 3 = true → r.fromMinute ≤ 1439 ∧ r.toMinute ≤ 1439 ∧ r.fromMinute ≠ r.toMinute) := by
  simp only [recordOk, Bool.and_eq_true, inRange_iff, decide_eq_true_eq, kindFieldsOk_iff, windowOk_iff, reductionOk_iff]
  tauto

/-! ### Programs (R29 to R32, R42) -/

theorem programRefusal_of_busy {c : ControllerState} (hf : c ≠ .fault) (hr : c ≠ .ready) (hs : c ≠ .suspended) :
    programRefusal c = some .storeBusy := by
  cases c
  case fault => exact absurd rfl hf
  case ready => exact absurd rfl hr
  case suspended => exact absurd rfl hs
  all_goals rfl

theorem programRefusal_of_free {c : ControllerState} (h : c = .ready ∨ c = .suspended) : programRefusal c = none := by
  rcases h with rfl | rfl <;> rfl

theorem liveNumber_eq_some {x : Slot} {n : Nat} : liveNumber x = some n ↔ ∃ r a, x = .live r a ∧ r.number = n := by
  cases x <;> simp [liveNumber]

theorem numberLive_iff (st : OfferStore) (n : Nat) :
    numberLive st n = true ↔ ∃ k q a, (k, Slot.live q a) ∈ st.slots ∧ q.number = n := by
  simp only [numberLive, List.any_eq_true, decide_eq_true_eq, liveNumber_eq_some]
  constructor
  · rintro ⟨⟨k, x⟩, hm, q, a, rfl, hn⟩
    exact ⟨k, q, a, hm, hn⟩
  · rintro ⟨k, q, a, hm, hn⟩
    exact ⟨(k, .live q a), hm, q, a, rfl, hn⟩

/-- OFFER WRITE of a record and slot that pass the field checks. -/
theorem offerWrite_of_fields {h : Header} {slot : Nat} {r : OfferRecord} {s : State} (hslot : slot < 512)
    (hr : recordOk r = true) : (∀ e, programRefusal s.store.controller = some e → offerWrite h slot r s = refuse .offerWrite h e s)
    ∧ (programRefusal s.store.controller = none → offerWrite h slot r s =
        if isCondemned s.store (sectorOf slot) = true then refuse .offerWrite h .sectorErasing s
        else if (OfferArray.read s.store.slots slot).isSome = true then refuse .offerWrite h .notBlank s
        else if numberLive s.store r.number = true then refuse .offerWrite h .duplicateOffer s
        else nothing (s.withStore (startProgram { slot := slot, job := .offer r, request := h } s.store))) := by
  have hok : ¬ (511 < slot ∨ recordOk r = false) := by simp [hr]; omega
  constructor
  · intro e he
    simp only [offerWrite, if_neg hok, he]
  · intro he
    simp only [offerWrite, if_neg hok, he]

/-- The requests that wait on the sectors are those of the erase set. -/
theorem abandonedReplies_eraseSet (st : OfferStore) : abandonedReplies st (eraseSet st) =
    st.waiting.toList.flatten.map fun g => replyTo .sectorErase g .abandoned .none := by
  have hall : st.waiting.toList = (List.range 8).map (waitingOf st) := by
    refine List.ext_getElem (by simp) fun i hi hi' => ?_
    have hlt : i < 8 := by simpa using hi
    simp [waitingOf, hlt]
  have hdrop (ks : List Nat) : (ks.filter fun k => !(waitingOf st k).isEmpty).flatMap
      (fun k => eraseReplies .abandoned (waitingOf st k)) = ks.flatMap fun k => eraseReplies .abandoned (waitingOf st k) := by
    induction ks with
    | nil => rfl
    | cons k rest ih =>
      by_cases hk : waitingOf st k = []
      · rw [List.filter_cons_of_neg (by simp [hk]), ih, List.flatMap_cons, hk]
        rfl
      · rw [List.filter_cons_of_pos (by simp [hk]), List.flatMap_cons, List.flatMap_cons, ih]
  rw [abandonedReplies, eraseSet, hdrop, hall, ← List.flatMap_def, List.map_flatMap]
  rfl

/-- What an effect written out leaves and sends is what an unhindered command leaves and places. -/
theorem takes_of_effect {c : Instr} {b : Block} {s t : State} {ms : List Message} (hu : Unhindered c s)
    (ho : ownerOf c = some b) (he : runOf c (leaveQueue c s) = { state := t, sent := ms }) : Takes c b s t ms :=
  takes_of_runOf hu ho he

/-- The slots a failed program leaves: its own is DAMAGED, and in suspension the sector in progress too (R42). -/
def FailedSlots (slot : Nat) (st : OfferStore) (slots : OfferArray) : Prop :=
  st.controller ≠ .programmingInSuspend ∧ slots = OfferArray.put slot .damaged st.slots
  ∨ st.controller = .programmingInSuspend ∧ st.inProgress = none ∧ slots = OfferArray.put slot .damaged st.slots
  ∨ ∃ k, st.controller = .programmingInSuspend ∧ st.inProgress = some k
      ∧ slots = OfferArray.damageSector k (OfferArray.put slot .damaged st.slots)

theorem programFailed_of_slots {slot : Nat} {st : OfferStore} {slots : OfferArray} (h : FailedSlots slot st slots) :
    programFailed slot st = { st with
      controller := .fault, program := none, inProgress := none, waiting := Vector.replicate 8 [], slots := slots } := by
  have hslots : (programFailed slot st).slots = slots := by
    rcases h with ⟨hplain, hs⟩ | ⟨hsusp, hnone, hs⟩ | ⟨k, hsusp, hk, hs⟩
    · exact (if_neg hplain).trans hs.symm
    · simp only [hs, programFailed, if_pos hsusp, hnone]
    · simp only [hs, programFailed, if_pos hsusp, hk]
  rw [← hslots]
  rfl

theorem failureReplies_eq (k : RequestKind) (h : Header) (st : OfferStore) : failureReplies k h st =
    replyTo k h .failed .none :: (if st.controller = .programmingInSuspend then
      st.waiting.toList.flatten.map fun g => replyTo .sectorErase g .abandoned .none else []) := by
  rw [failureReplies, abandonedReplies_eraseSet]

/-- The completion of the offer program in flight, by its outcome. -/
theorem offerProgramCompletion_of_program {slot : Nat} {r : OfferRecord} {h : Header} {s : State}
    (hp : s.store.program = some { slot := slot, job := .offer r, request := h }) :
    offerProgramCompletion .success s = {
      state := s.withStore { programDone s.store with
        slots := OfferArray.put slot (.live r (windowMatches s.calendar r)) s.store.slots }
      sent := [replyTo .offerWrite h .ok .none] }
    ∧ offerProgramCompletion .failure s = {
      state := s.withStore (programFailed slot s.store), sent := failureReplies .offerWrite h s.store } := by
  constructor <;> simp only [offerProgramCompletion, hp]

/-- Settles O41: the record's check, the refusals in their order, and the completion of the program. -/
theorem offerWriteRule : Obligations.OfferWriteRule := by
  refine ⟨recordOk_iff, fun h slot r s st hst => ⟨fun c hc hu => ?_, fun c outcome hc hu hprogram => ?_⟩⟩ <;> subst hc hst
  · refine ⟨fun hbad => refuses_of_refuse hu rfl (if_pos hbad), fun hslot hr => ?_⟩
    obtain ⟨hrefused, hfree⟩ := offerWrite_of_fields (s := leaveQueue (.offerWrite h slot r) s) (h := h) hslot hr
    refine ⟨fun hf => refuses_of_refuse hu rfl (hrefused _ (congrArg programRefusal hf)),
      fun hf hr' hs' => refuses_of_refuse hu rfl (hrefused _ (programRefusal_of_busy hf hr' hs')), fun hready => ?_⟩
    have hopen := hfree (programRefusal_of_free hready)
    refine ⟨fun hmark => refuses_of_refuse hu rfl (hopen.trans (if_pos (isCondemned_of_mark hmark))), fun hmark => ?_⟩
    have hclear := hopen.trans (if_neg (Bool.eq_false_iff.1 (isCondemned_of_mark hmark)))
    refine ⟨fun hread => refuses_of_refuse hu rfl (hclear.trans (if_pos (Option.isSome_iff_ne_none.2 hread))),
      fun hread hdup => ?_, fun hread hnew => ?_⟩
    all_goals have hblank := hclear.trans (if_neg (by simp [hread]))
    · exact refuses_of_refuse hu rfl (hblank.trans (if_pos ((numberLive_iff _ _).2 hdup)))
    · refine takes_of_runOf hu rfl (hblank.trans (if_neg fun hlive => ?_))
      obtain ⟨k, q, a, hm, hn⟩ := (numberLive_iff _ _).1 hlive
      exact hnew k q a hm hn
  · obtain ⟨hdone, hfailed⟩ := offerProgramCompletion_of_program
      (s := leaveQueue (.offerProgramCompletion outcome) s) hprogram
    refine ⟨fun ho => ?_, fun ho hplain => ?_, fun slots ho hsusp hslots => ?_⟩ <;> subst ho
    · exact takes_of_effect hu rfl hdone
    · have hhurt : FailedSlots slot s.store (OfferArray.put slot .damaged s.store.slots) := .inl ⟨hplain, rfl⟩
      rw [leaveQueue_store, programFailed_of_slots hhurt, failureReplies_eq, if_neg hplain] at hfailed
      exact takes_of_effect hu rfl hfailed
    · have hhurt : FailedSlots slot s.store slots := by
        rcases hslots with ⟨hnone, hs⟩ | ⟨k, hk, hs⟩
        · exact .inr (.inl ⟨hsusp, hnone, hs⟩)
        · exact .inr (.inr ⟨k, hsusp, hk, hs⟩)
      rw [leaveQueue_store, programFailed_of_slots hhurt, failureReplies_eq, if_pos hsusp] at hfailed
      exact takes_of_effect hu rfl hfailed

/-! ### Retiring (R26, R31, R32) -/

theorem retirable_eq_none {st : OfferStore} {slot : Nat}
    (h : st.withdrawing = some slot ∨ ∀ r a, OfferArray.read st.slots slot ≠ some (.live r a)) :
    retirable st slot = none := by
  unfold retirable
  split
  · rfl
  · rename_i hw
    have hread := h.resolve_left hw
    rcases hx : OfferArray.read st.slots slot with _ | x
    · rfl
    · cases x with
      | live r a => exact absurd hx (hread r a)
      | retired r => rfl
      | damaged => rfl

theorem retirable_of_live {st : OfferStore} {slot : Nat} {r : OfferRecord} {a : Bool} (hw : st.withdrawing ≠ some slot)
    (hr : OfferArray.read st.slots slot = some (.live r a)) : retirable st slot = some r.number := by
  rw [retirable, if_neg hw, hr]
  rfl

/-- OFFER RETIRE of a slot that exists. -/
theorem offerRetire_of_slot {h : Header} {slot : Nat} {s : State} (hslot : slot < 512) :
    (∀ e, programRefusal s.store.controller = some e → offerRetire h slot s = refuse .offerRetire h e s)
    ∧ (programRefusal s.store.controller = none → isCondemned s.store (sectorOf slot) = true →
        offerRetire h slot s = refuse .offerRetire h .sectorErasing s)
    ∧ (programRefusal s.store.controller = none → isCondemned s.store (sectorOf slot) = false →
        (retirable s.store slot = none → offerRetire h slot s = refuse .offerRetire h .notLive s)
        ∧ (∀ offer, retirable s.store slot = some offer → offerRetire h slot s =
            staleClaim (holdingBaskets offer s)
              (s.withStore { startProgram { slot := slot, job := .retire, request := h } s.store with
                withdrawing := some slot }))) := by
  have hok : ¬ 511 < slot := by omega
  refine ⟨fun e he => ?_, fun he hmark => ?_, fun he hmark => ⟨fun hnone => ?_, fun offer hoffer => ?_⟩⟩
  · simp only [offerRetire, if_neg hok, he]
  · simp only [offerRetire, if_neg hok, he, if_pos hmark]
  · simp only [offerRetire, if_neg hok, he, hmark, Bool.false_eq_true, if_false, hnone]
  · simp only [offerRetire, if_neg hok, he, hmark, Bool.false_eq_true, if_false, hoffer]

/-- The completion of the retire program in flight, by its outcome. -/
theorem retireProgramCompletion_of_program {slot : Nat} {h : Header} {s : State}
    (hp : s.store.program = some { slot := slot, job := .retire, request := h }) :
    retireProgramCompletion .success s = {
      state := s.withStore { programDone s.store with slots := retireSlot slot s.store.slots, withdrawing := none }
      sent := [replyTo .offerRetire h .ok .none] }
    ∧ retireProgramCompletion .failure s = {
      state := s.withStore { programFailed slot s.store with withdrawing := none }
      sent := failureReplies .offerRetire h s.store } := by
  constructor <;> simp only [retireProgramCompletion, hp]

theorem retireSlot_of_live {slot : Nat} {slots : OfferArray} {r : OfferRecord} {a : Bool}
    (h : OfferArray.read slots slot = some (.live r a)) : retireSlot slot slots = OfferArray.put slot (.retired r) slots := by
  rw [retireSlot, h]
  rfl

/-- Settles O42: the refusals in their order, the stale claim, and the completion of the program. -/
theorem offerRetireRule : Obligations.OfferRetireRule := by
  refine fun h slot s st hst => ⟨fun c hc hu => ?_, fun c outcome hc hu hprogram => ?_⟩ <;> subst hc hst
  · refine ⟨fun hbad => refuses_of_refuse hu rfl (if_pos hbad), fun hslot hf => ?_, fun hslot hf hr hs => ?_,
      fun hslot hready => ?_⟩ <;>
      obtain ⟨hrefused, hcondemned, hclear⟩ := offerRetire_of_slot (s := leaveQueue (.offerRetire h slot) s) (h := h) hslot
    · exact refuses_of_refuse hu rfl (hrefused _ (congrArg programRefusal hf))
    · exact refuses_of_refuse hu rfl (hrefused _ (programRefusal_of_busy hf hr hs))
    · have hfree : programRefusal s.store.controller = none := programRefusal_of_free hready
      refine ⟨fun hmark => refuses_of_refuse hu rfl (hcondemned hfree (isCondemned_of_mark hmark)), fun hmark => ?_⟩
      obtain ⟨hnone, hsome⟩ := hclear hfree (isCondemned_of_mark hmark)
      refine ⟨fun hnot => refuses_of_refuse hu rfl (hnone (retirable_eq_none hnot)), fun r a e hw hread he => ?_⟩
      refine takes_of_runOf hu rfl ((hsome _ (retirable_of_live hw hread)).trans ?_)
      rw [he]
      simp only [holdingBaskets, List.contains_eq_mem]
      rfl
  · obtain ⟨hdone, hfailed⟩ := retireProgramCompletion_of_program
      (s := leaveQueue (.retireProgramCompletion outcome) s) hprogram
    refine ⟨fun r a ho hread => ?_, fun slots ho hslots => ?_⟩ <;> subst ho
    · rw [leaveQueue_store, retireSlot_of_live hread] at hdone
      exact takes_of_effect hu rfl hdone
    · rw [leaveQueue_store, programFailed_of_slots hslots, failureReplies_eq] at hfailed
      exact takes_of_effect hu rfl hfailed

/-! ### Erasing (R34 to R38) -/

theorem sectorInUse_iff (k : Nat) (s : State) : sectorInUse k s = true ↔
    ∃ j r a b, (j, Slot.live r a) ∈ s.store.slots ∧ j / 64 = k ∧ b ∈ s.basketTable.baskets ∧ r.number ∈ b.heldOffers := by
  simp only [sectorInUse, List.any_eq_true, Bool.and_eq_true, decide_eq_true_eq]
  constructor
  · rintro ⟨⟨j, x⟩, hm, hk, hx⟩
    cases x with
    | live r a =>
      obtain ⟨b, hb, hheld⟩ := List.any_eq_true.1 hx
      exact ⟨j, r, a, b, hm, hk, hb, List.contains_iff_mem.1 hheld⟩
    | retired r => cases hx
    | damaged => cases hx
  · rintro ⟨j, r, a, b, hm, hk, hb, hheld⟩
    exact ⟨(j, .live r a), hm, hk, List.any_eq_true.2 ⟨b, hb, List.contains_iff_mem.2 hheld⟩⟩

theorem eraseRefusal_of_busy {k : Nat} {st : OfferStore} {ws : List Header} (hws : st.waiting[k]? = some ws)
    (hf : st.controller ≠ .fault)
    (hbusy : st.controller ≠ .ready ∧ st.controller ≠ .gathering ∨ st.controller = .gathering ∧ 4 ≤ ws.length) :
    eraseRefusal k st = some .storeBusy := by
  unfold eraseRefusal
  rw [waitingOf_of_list hws]
  rcases hbusy with ⟨hr, hg⟩ | ⟨hg, hfull⟩
  · split <;> simp_all
  · simp only [hg]
    exact if_pos hfull

theorem eraseRefusal_of_free {k : Nat} {st : OfferStore} {ws : List Header} (hws : st.waiting[k]? = some ws)
    (hfree : st.controller = .ready ∨ st.controller = .gathering ∧ ws.length < 4) : eraseRefusal k st = none := by
  unfold eraseRefusal
  rw [waitingOf_of_list hws]
  rcases hfree with hr | ⟨hg, hroom⟩
  · simp only [hr]
  · simp only [hg]
    exact if_neg (Nat.not_le.2 hroom)

/-- SECTOR ERASE of a sector that exists. -/
theorem sectorErase_of_sector {h : Header} {k : Nat} {s : State} (hk : k < 8) :
    (∀ e, eraseRefusal k s.store = some e → sectorErase h k s = refuse .sectorErase h e s)
    ∧ (eraseRefusal k s.store = none → sectorErase h k s =
        if sectorInUse k s = true then refuse .sectorErase h .inUse s
        else nothing (s.withStore (joinEraseSet h k s.tables.limits.gatherWindow s.store))) := by
  have hok : ¬ 7 < k := by omega
  constructor
  · intro e he
    simp only [sectorErase, if_neg hok, he]
  · intro he
    simp only [sectorErase, if_neg hok, he]

theorem sector_lt_of_list {st : OfferStore} {k : Nat} {ws : List Header} (h : st.waiting[k]? = some ws) : k < 8 :=
  (Vector.getElem?_eq_some_iff.1 h).1

/-- Settles O43: the refusals in their order, the erase set joined, and the end of gathering. -/
theorem sectorEraseRule : Obligations.SectorEraseRule := by
  refine fun h k s st hst => ⟨fun c hc hu => ?_, fun c hc hu j ws hg htimer hj hws hbelow => ?_⟩ <;> subst hc hst
  · refine ⟨fun hbad => refuses_of_refuse hu rfl (if_pos hbad), fun ws hws => ?_⟩
    obtain ⟨hrefused, hfree⟩ := sectorErase_of_sector (s := leaveQueue (.sectorErase h k) s) (h := h) (sector_lt_of_list hws)
    refine ⟨fun hf => refuses_of_refuse hu rfl (hrefused .storeFault ?_),
      fun hf hbusy => refuses_of_refuse hu rfl (hrefused _ (eraseRefusal_of_busy hws hf hbusy)), fun hready => ?_⟩
    · simp only [leaveQueue_store, eraseRefusal, hf]
    · have hopen := hfree (eraseRefusal_of_free hws hready)
      refine ⟨fun huse => refuses_of_refuse hu rfl (hopen.trans (if_pos ((sectorInUse_iff _ _).2 huse))), fun hnone => ?_⟩
      have hidle := hopen.trans (if_neg fun huse => by
        obtain ⟨j, r, a, b, hm, hk, hb, hheld⟩ := (sectorInUse_iff _ _).1 huse
        exact hnone j r a b hm hk hb hheld)
      rw [leaveQueue_store, joinEraseSet, waitingOf_of_list hws] at hidle
      exact takes_of_effect hu rfl hidle
  · have hrun : runOf .gatherTimerExpiry (leaveQueue .gatherTimerExpiry s)
        = nothing ((leaveQueue .gatherTimerExpiry s).withStore (beginErase { s.store with gatherTimer := none })) :=
      if_pos ⟨hg, htimer⟩
    rw [beginErase_of_lowest (st := { s.store with gatherTimer := none }) hj hws hbelow] at hrun
    exact takes_of_effect hu rfl hrun

/-- The erase of the sector in progress completes. -/
theorem eraseCompletion_of_sector {k : Nat} {s : State} (hk : s.store.inProgress = some k)
    (hc : s.store.controller = .erasing ∨ s.store.controller = .suspending) :
    eraseCompletion .success s = {
      state := s.withStore (if s.store.controller = .erasing then beginErase (sectorErased k s.store)
        else sectorErased k s.store)
      sent := eraseReplies .ok (waitingOf s.store k) }
    ∧ eraseCompletion .failure s = {
      state := s.withStore { faulted s.store with slots := OfferArray.damageSector k s.store.slots, suspend := none }
      sent := eraseFailureReplies k s.store } := by
  have hrun : ¬ (s.store.controller ≠ .erasing ∧ s.store.controller ≠ .suspending) := by
    rintro ⟨he, hs⟩
    exact hc.elim he hs
  constructor <;> simp only [eraseCompletion, hk, if_neg hrun]

/-- The waiting lists once a sector is erased. -/
theorem sectorErased_waiting_ne {k i : Nat} (st : OfferStore) (h : i ≠ k) :
    (sectorErased k st).waiting[i]? = st.waiting[i]? := Vector.getElem?_setIfInBounds_ne h.symm

theorem sectorErased_waiting_self {k : Nat} (st : OfferStore) (h : k < 8) : (sectorErased k st).waiting[k]? = some [] :=
  Vector.getElem?_setIfInBounds_self_of_lt h

/-- The replies to the requests of the sectors other than the failed one. -/
theorem abandonedReplies_others {k : Nat} {st : OfferStore} (hk : k < 8) :
    abandonedReplies st ((eraseSet st).filter fun j => decide (j ≠ k))
      = (st.waiting.setIfInBounds k []).toList.flatten.map fun h => replyTo .sectorErase h .abandoned .none := by
  have hlists (j : Nat) (hj : j ≠ k) : waitingOf (sectorErased k st) j = waitingOf st j := by
    rw [waitingOf, sectorErased_waiting_ne st hj, waitingOf]
  have hset : (eraseSet st).filter (fun j => decide (j ≠ k)) = eraseSet (sectorErased k st) := by
    rw [eraseSet, eraseSet, List.filter_filter]
    refine List.filter_congr fun j hj => ?_
    by_cases hjk : j = k
    · subst hjk
      simp [waitingOf_of_list (sectorErased_waiting_self st hk)]
    · simp [hlists j hjk, hjk]
  have hne : ∀ j ∈ eraseSet (sectorErased k st), j ≠ k := by
    rw [← hset]
    exact fun j hj => by simpa using (List.mem_filter.1 hj).2
  calc abandonedReplies st ((eraseSet st).filter fun j => decide (j ≠ k))
      = abandonedReplies (sectorErased k st) (eraseSet (sectorErased k st)) := by
        rw [hset, abandonedReplies, abandonedReplies]
        exact List.flatMap_congr fun j hj => by rw [hlists j (hne j hj)]
    _ = _ := abandonedReplies_eraseSet (sectorErased k st)

/-- Settles O44: a success begins the lowest sector left, a failure answers every waiting request. -/
theorem eraseCompletionRule : Obligations.EraseCompletionRule := by
  intro outcome s c hc hu k ws hk hws
  subst hc
  have hkey (hc : s.store.controller = .erasing ∨ s.store.controller = .suspending) :=
    eraseCompletion_of_sector (s := leaveQueue (.eraseCompletion outcome) s) hk hc
  have hlt := sector_lt_of_list hws
  refine ⟨fun erased ho he => ?_, fun ho hc => ?_⟩ <;> subst ho
  · have herased : sectorErased k s.store = erased := he.symm
    have hrun (t : OfferStore) (hc : s.store.controller = .erasing ∨ s.store.controller = .suspending)
        (ht : (if s.store.controller = .erasing then beginErase (sectorErased k s.store) else sectorErased k s.store) = t) :
        Takes (.eraseCompletion .success) .store s ((leaveQueue (.eraseCompletion .success) s).withStore t)
          (ws.map fun h => replyTo .sectorErase h .ok .none) := by
      obtain ⟨hdone, -⟩ := hkey hc
      rw [leaveQueue_store, ht, waitingOf_of_list hws] at hdone
      exact takes_of_effect hu rfl hdone
    refine ⟨fun hc => hrun erased (.inr hc) ?_, fun hc hempty => hrun _ (.inl hc) ?_,
      fun j xs hc hjk hj hxs hbelow => hrun _ (.inl hc) ?_⟩
    · rw [if_neg (by simp [hc]), herased]
    · rw [if_pos hc, ← herased]
      refine beginErase_of_empty fun i hi => ?_
      by_cases hik : i = k
      · rw [hik]
        exact sectorErased_waiting_self s.store hlt
      · exact (sectorErased_waiting_ne s.store hik).trans (hempty i hi hik)
    · rw [if_pos hc, ← herased]
      refine beginErase_of_lowest ((sectorErased_waiting_ne s.store hjk).trans hj) hxs fun i hi => ?_
      by_cases hik : i = k
      · rw [hik]
        exact sectorErased_waiting_self s.store hlt
      · exact (sectorErased_waiting_ne s.store hik).trans (hbelow i hi hik)
  · obtain ⟨-, hfailed⟩ := hkey hc
    rw [leaveQueue_store, eraseFailureReplies, abandonedReplies_others hlt, waitingOf_of_list hws] at hfailed
    exact takes_of_effect hu rfl hfailed

end Sys2Proof.Machine
end

section
/-! The calendar's requests, its second events, its carries and the windows (O49). -/

namespace Sys2Proof.Machine

/-! ### The re-check (R63) -/

/-- The state with a calendar and every LIVE slot's window matched at it. -/
theorem recheck_withCalendar (cal : Calendar) (s : State) : recheck (s.withCalendar cal) =
    (s.withCalendar cal).withStore { s.store with slots := s.store.slots.map fun p => (p.1, remark cal p.2) } := rfl

theorem calendarFieldsOk_iff (y mo d ho mi se : Nat) : calendarFieldsOk y mo d ho mi se = true ↔
    2000 ≤ y ∧ y ≤ 2099 ∧ 1 ≤ mo ∧ mo ≤ 12 ∧ 1 ≤ d ∧ d ≤ daysInMonth y mo ∧ ho ≤ 23 ∧ mi ≤ 59 ∧ se ≤ 59 := by
  simp only [calendarFieldsOk, realDay, Bool.and_eq_true, inRange_iff, decide_eq_true_eq, and_assoc]

/-! ### Carries (R61, R62) -/

/-- The weekday after a day. -/
theorem nextWeekday_eq {d : Nat} (h : d ≤ 6) : (if d + 1 = 7 then 0 else d + 1) = (d + 1) % 7 := by
  split <;> omega

theorem nextDay_cases (t : Stamp) (hm : t.month ≤ 12) (hw : t.weekday ≤ 6) :
    (t.day < daysInMonth t.year t.month →
      nextDay t = { t with day := t.day + 1, weekday := (t.weekday + 1) % 7 })
    ∧ (daysInMonth t.year t.month ≤ t.day → t.month < 12 →
      nextDay t = { t with day := 1, month := t.month + 1, weekday := (t.weekday + 1) % 7 })
    ∧ (daysInMonth t.year t.month ≤ t.day → t.month = 12 →
      nextDay t = { t with day := 1, month := 1, year := t.year + 1, weekday := (t.weekday + 1) % 7 }) := by
  refine ⟨fun hd => ?_, fun hd hmonth => ?_, fun hd hmonth => ?_⟩ <;> simp only [nextDay, nextWeekday_eq hw]
  · exact if_pos hd
  · exact (if_neg (by omega)).trans (if_pos (by omega))
  · exact (if_neg (by omega)).trans (if_neg (by omega))

theorem nextMinute_cases (t : Stamp) :
    (t.minute < 59 → nextMinute t = { t with minute := t.minute + 1 })
    ∧ (t.minute = 59 → t.hour < 23 → nextMinute t = { t with minute := 0, hour := t.hour + 1 })
    ∧ (t.minute = 59 → t.hour = 23 → nextMinute t = nextDay { t with minute := 0, hour := 0 }) := by
  refine ⟨fun hmi => ?_, fun hmi hho => ?_, fun hmi hho => ?_⟩
  · exact if_pos (by omega)
  · exact (if_neg (by omega)).trans (if_pos (by omega))
  · exact (if_neg (by omega)).trans (if_neg (by omega))

/-! ### Windows (R69, R70, R72) -/

theorem enables_none_iff (r : OfferRecord) : (∀ i, i < 4 → r.enables.getLsbD i = false) ↔
    startEnabled r = false ∧ endEnabled r = false ∧ weekdaysEnabled r = false ∧ timeEnabled r = false := by
  simp only [startEnabled, endEnabled, weekdaysEnabled, timeEnabled]
  constructor
  · intro h
    exact ⟨h 0 (by omega), h 1 (by omega), h 2 (by omega), h 3 (by omega)⟩
  · rintro ⟨h0, h1, h2, h3⟩ i hi
    obtain rfl | rfl | rfl | rfl : i = 0 ∨ i = 1 ∨ i = 2 ∨ i = 3 := by omega
    · exact h0
    · exact h1
    · exact h2
    · exact h3

theorem timeHolds_iff (f t m : Nat) : timeHolds f t m = true ↔
    (f < t ∧ f ≤ m ∧ m < t) ∨ (t ≤ f ∧ (f ≤ m ∨ m < t)) := by
  unfold timeHolds
  split
  · rw [Bool.and_eq_true, decide_eq_true_eq, decide_eq_true_eq]
    omega
  · rw [Bool.or_eq_true, decide_eq_true_eq, decide_eq_true_eq]
    omega

/-- Bit 7 of the weekday set is not read. -/
theorem weekdaySet_getLsbD (r : OfferRecord) (d : Nat) :
    (weekdaySet r).getLsbD d = true ↔ d < 7 ∧ r.weekdays.getLsbD d = true := by
  have hmask : (0x7F#8).getLsbD d = decide (d < 7) := by
    rcases Nat.lt_or_ge d 8 with hd | hd
    · interval_cases d <;> rfl
    · rw [BitVec.getLsbD_of_ge _ _ hd, eq_comm, decide_eq_false_iff_not]
      omega
  rw [weekdaySet, BitVec.getLsbD_and, hmask, Bool.and_eq_true, decide_eq_true_eq, and_comm]

/-- When a window matches, in the words of R69, R70 and R72. -/
theorem windowMatches_iff (cal : Calendar) (r : OfferRecord) : windowMatches cal r = true ↔
    (cal.state = .unset ∧ ∀ i, i < 4 → r.enables.getLsbD i = false)
    ∨ (cal.state = .running
      ∧ (startEnabled r = true → dateLE r.startDate (dayOf cal.now) = true)
      ∧ (endEnabled r = true → dateLE (dayOf cal.now) r.endDate = true)
      ∧ (weekdaysEnabled r = true → cal.now.weekday < 7 ∧ r.weekdays.getLsbD cal.now.weekday = true)
      ∧ (timeEnabled r = true →
          (r.fromMinute < r.toMinute ∧ r.fromMinute ≤ minuteOfDay cal.now ∧ minuteOfDay cal.now < r.toMinute)
          ∨ (r.toMinute ≤ r.fromMinute ∧ (r.fromMinute ≤ minuteOfDay cal.now ∨ minuteOfDay cal.now < r.toMinute)))) := by
  have himp (a : Bool) (p : Prop) : (a = false ∨ p) ↔ (a = true → p) := by cases a <;> simp
  rw [enables_none_iff]
  cases hs : cal.state with
  | unset => simp [windowMatches, hs, and_assoc]
  | running =>
    simp only [windowMatches, hs, Bool.and_eq_true, Bool.or_eq_true, Bool.not_eq_true', himp, weekdaySet_getLsbD,
      timeHolds_iff, and_assoc]
    simp

/-! ### Second events (R61) -/

theorem secondEvent_of_running {s : State} (hs : s.calendar.state = .running) : secondEvent s =
    nothing (if rollsMinute s.calendar.now = true then
      recheck (s.withCalendar { s.calendar with now := nextSecond s.calendar.now, phase := s.calendar.phase - 1000 })
    else s.withCalendar { s.calendar with now := nextSecond s.calendar.now, phase := s.calendar.phase - 1000 }) := by
  simp only [secondEvent, hs]

theorem rollsMinute_of_below {t : Stamp} (h : t.second < 59) : rollsMinute t = false ∧ nextSecond t = { t with second := t.second + 1 } :=
  ⟨by simp [rollsMinute]; omega, if_pos (by omega)⟩

theorem rollsMinute_of_last {t : Stamp} (h : t.second = 59) (hl : lastMinute t = true) :
    rollsMinute t = false ∧ nextSecond t = t :=
  ⟨by simp [rollsMinute, hl], (if_neg (by omega)).trans (if_pos hl)⟩

theorem rollsMinute_of_carry {t : Stamp} (h : t.second = 59) (hl : lastMinute t = false) :
    rollsMinute t = true ∧ nextSecond t = nextMinute { t with second := 0 } :=
  ⟨by simp [rollsMinute, hl, h], (if_neg (by omega)).trans (if_neg (by simp [hl]))⟩

/-- The fields after a MINUTE MARK, by the seconds it drops or carries. -/
theorem roundMinute_cases {t now : Stamp}
    (h : (t.second ≤ 29 ∨ lastMinute t = true) ∧ now = { t with second := 0 }
      ∨ 29 < t.second ∧ lastMinute t = false ∧ now = nextMinute { t with second := 0 }) : roundMinute t = now := by
  rcases h with ⟨hkeep, rfl⟩ | ⟨hcarry, hl, rfl⟩
  · exact if_pos hkeep
  · exact if_neg (by simp [hl, hcarry])

/-- Settles O49: the requests of the calendar, the second event's cases, the carries and the windows. -/
theorem calendarRules : Obligations.CalendarRules := by
  refine ⟨fun h s rechecked hre => ⟨fun c y mo d ho mi se hc hu ok hok => ⟨fun hno => ?_, fun now hyes hnow => ?_⟩,
    fun c hc hu => ?_, fun c hc hu => ⟨fun hs => ?_, fun now hs hnow => ?_⟩⟩, fun s c hc hu => ?_,
    fun _ => lastMinute_iff,
    nextMinute_cases, nextDay_cases, fun cal r m hm => ?_⟩
  · subst hc
    refine refuses_of_refuse hu rfl (if_neg fun hfields => hno (hok.2 ?_))
    exact (calendarFieldsOk_iff ..).1 hfields
  · subst hc hnow hre
    exact takes_of_effect hu rfl (if_pos ((calendarFieldsOk_iff ..).2 (hok.1 hyes)))
  · subst hc
    exact takes_of_effect hu rfl rfl
  · subst hc
    refine refuses_of_refuse hu rfl ?_
    have hmark : runOf (.minuteMark h) (leaveQueue (.minuteMark h) s) = minuteMark h (leaveQueue (.minuteMark h) s) := rfl
    simp only [hmark, minuteMark, leaveQueue_calendar, hs]
  · subst hc hre
    refine takes_of_effect hu rfl ?_
    have hmark : runOf (.minuteMark h) (leaveQueue (.minuteMark h) s) = minuteMark h (leaveQueue (.minuteMark h) s) := rfl
    simp only [hmark, minuteMark, leaveQueue_calendar, hs, roundMinute_cases hnow]
    rfl
  · subst hc
    have hrun : runOf .secondEvent (leaveQueue .secondEvent s) = secondEvent (leaveQueue .secondEvent s) := rfl
    have hcounts (hs : s.calendar.state = .running) := secondEvent_of_running (s := leaveQueue .secondEvent s) hs
    refine ⟨fun hs => takes_of_effect hu rfl ?_, fun hs hsec => ?_, fun hs hsec hl => ?_, fun cal hs hsec hl hcal => ?_⟩
    · simp only [hrun, secondEvent, leaveQueue_calendar, hs]
      rfl
    · obtain ⟨hroll, hnext⟩ := rollsMinute_of_below hsec
      refine takes_of_effect hu rfl ?_
      rw [hrun, hcounts hs, leaveQueue_calendar, hroll, hnext]
      rfl
    · obtain ⟨hroll, hnext⟩ := rollsMinute_of_last hsec hl
      refine takes_of_effect hu rfl ?_
      rw [hrun, hcounts hs, leaveQueue_calendar, hroll, hnext]
      rfl
    · obtain ⟨hroll, hnext⟩ := rollsMinute_of_carry hsec hl
      subst hcal
      refine takes_of_effect hu rfl ?_
      rw [hrun, hcounts hs, leaveQueue_calendar, hroll, hnext]
      rfl
  · subst hm
    exact windowMatches_iff cal r

end Sys2Proof.Machine
end

section
/-! What a snapshot holds (O51). -/

namespace Sys2Proof.Machine

/-! ### The order of candidates (R83) -/

/-- The order of R83 as a relation. -/
def Precedes (x y : Candidate) : Prop :=
  x.record.priority < y.record.priority ∨ x.record.priority = y.record.priority ∧ x.record.number ≤ y.record.number

theorem comesBefore_iff (x y : Candidate) : comesBefore x y = true ↔ Precedes x y := by
  simp only [comesBefore, Precedes, Bool.or_eq_true, Bool.and_eq_true, decide_eq_true_eq]

theorem Precedes.trans {x y z : Candidate} (h : Precedes x y) (h' : Precedes y z) : Precedes x z := by
  unfold Precedes at *
  omega

theorem precedes_of_not {x y : Candidate} (h : ¬ Precedes x y) : Precedes y x := by
  unfold Precedes at *
  omega

theorem insertCandidate_perm (c : Candidate) (xs : List Candidate) : (insertCandidate c xs).Perm (c :: xs) := by
  induction xs with
  | nil => exact .refl _
  | cons d rest ih =>
    unfold insertCandidate
    split
    · exact .refl _
    · exact (ih.cons d).trans (.swap ..)

theorem candidateOrder_perm (xs : List Candidate) : (candidateOrder xs).Perm xs := by
  induction xs with
  | nil => exact .refl _
  | cons c rest ih => exact (insertCandidate_perm c _).trans (ih.cons c)

theorem insertCandidate_pairwise (c : Candidate) {xs : List Candidate} (h : xs.Pairwise Precedes) :
    (insertCandidate c xs).Pairwise Precedes := by
  induction xs with
  | nil => exact List.pairwise_singleton ..
  | cons d rest ih =>
    obtain ⟨hd, hrest⟩ := List.pairwise_cons.1 h
    unfold insertCandidate
    split
    · rename_i hc
      rw [comesBefore_iff] at hc
      exact List.pairwise_cons.2 ⟨List.forall_mem_cons.2 ⟨hc, fun x hx => hc.trans (hd x hx)⟩, h⟩
    · rename_i hc
      rw [comesBefore_iff] at hc
      refine List.pairwise_cons.2 ⟨fun x hx => ?_, ih hrest⟩
      rcases List.mem_cons.1 ((insertCandidate_perm c rest).mem_iff.1 hx) with rfl | hx
      · exact precedes_of_not hc
      · exact hd x hx

theorem candidateOrder_pairwise (xs : List Candidate) : (candidateOrder xs).Pairwise Precedes := by
  induction xs with
  | nil => exact .nil
  | cons c rest ih => exact insertCandidate_pairwise c ih

/-! ### Candidates (R82) -/

theorem candidateAt_eq_some {st : OfferStore} {held coupons : List Nat} {e : Flags} {p : Nat × Slot} {x : Candidate} :
    candidateAt st held coupons e p = some x ↔
      ∃ active, p = (x.slot, .live x.record active) ∧ usable st x.slot = true
        ∧ (active = true ∨ x.record.number ∈ held) ∧ x.record.required &&& e = x.record.required
        ∧ (x.record.couponKey = 0 ∨ x.record.couponKey ∈ coupons) := by
  obtain ⟨slot, content⟩ := p
  cases content with
  | live r active =>
    simp only [candidateAt, valid, entitled, couponHeld, Option.ite_none_right_eq_some, Bool.and_eq_true, Bool.or_eq_true,
      decide_eq_true_eq, List.contains_iff_mem, Option.some.injEq]
    constructor
    · rintro ⟨⟨⟨⟨hu, hv⟩, he⟩, hc⟩, rfl⟩
      exact ⟨active, rfl, hu, hv, he, hc⟩
    · rintro ⟨active', heq, hu, hv, he, hc⟩
      obtain ⟨rfl, rfl, rfl⟩ : slot = x.slot ∧ r = x.record ∧ active = active' := by simpa using heq
      exact ⟨⟨⟨⟨hu, hv⟩, he⟩, hc⟩, rfl⟩
  | retired r => simp [candidateAt]
  | damaged => simp [candidateAt]

/-- Settles O51, field by field; the candidates are the slots that meet R82, sorted. -/
theorem snapshotRule : Obligations.SnapshotRule := by
  intro b s l lane snap hsnap hl hlane
  have hmask : laneMask b s = maskValue s.tables lane.maskEntry := by
    simp only [laneMask, hl, Option.bind_some, hlane]
  subst hsnap
  refine ⟨rfl, rfl, rfl, rfl, rfl, rfl, hmask, fun hnone => ?_, fun a e rate ha he hrate => ?_, rfl, fun slot r => ?_,
    candidateOrder_pairwise _⟩
  · show snapAccount b s = none
    simp only [snapAccount, hnone, Option.bind_none]
  · show snapAccount b s = some _
    simp only [snapAccount, ha, Option.bind_some, he, Option.map_some, hrate, Option.getD_some]
  · have hmem (x : Candidate) : x ∈ (snapshotOf b s).candidates ↔ ∃ p ∈ s.store.slots,
        candidateAt s.store b.heldOffers b.coupons (effectiveFlags (snapAccount b s) (laneMask b s)) p = some x :=
      (candidateOrder_perm _).mem_iff.trans List.mem_filterMap
    have hheld (held : Flags) : (match (snapshotOf b s).account with
        | some a => held = (a.flags ||| 1#16) &&& (snapshotOf b s).mask
        | none => held = 1#16 &&& (snapshotOf b s).mask) ↔ held = effectiveFlags (snapAccount b s) (laneMask b s) := by
      show (match snapAccount b s with
        | some a => held = (a.flags ||| 1#16) &&& laneMask b s
        | none => held = 1#16 &&& laneMask b s) ↔ _
      cases snapAccount b s <;> exact Iff.rfl
    constructor
    · rintro ⟨x, hx, rfl, rfl⟩
      obtain ⟨p, hp, hc⟩ := (hmem x).1 hx
      obtain ⟨active, rfl, hu, hv, he, hk⟩ := candidateAt_eq_some.1 hc
      exact ⟨active, _, hp, hu, hv, (hheld _).2 rfl, he, hk⟩
    · rintro ⟨active, held, hp, hu, hv, hh, he, hk⟩
      obtain rfl := (hheld held).1 hh
      exact ⟨{ slot := slot, record := r }, (hmem _).2 ⟨_, hp, candidateAt_eq_some.2 ⟨active, rfl, hu, hv, he, hk⟩⟩, rfl, rfl⟩

end Sys2Proof.Machine
end

section
/-! The completion of an evaluation and the held-offer list (O50). -/

namespace Sys2Proof.Machine

/-! ### The held-offer list (R100) -/

/-- The held offers and, behind them, the offers of the plan that are not held. -/
def joinedHeld (held used : List Nat) : List Nat := held ++ used.filter fun o => decide (o ∉ held)

theorem updateHeld_eq (held used : List Nat) :
    updateHeld held used = trimHeld used ((joinedHeld held used).length - 32) (joinedHeld held used) := by
  have hjoin : held ++ used.filter (fun o => !held.contains o) = joinedHeld held used := by
    simp only [joinedHeld, List.contains_eq_mem, decide_not]
  simp only [updateHeld, hjoin]
  rfl

theorem trimHeld_zero (used xs : List Nat) : trimHeld used 0 xs = xs := by cases xs <;> rfl

/-- Entries leave a list from its head while it has enough that the plan does not use: those before a place `k`. -/
theorem trimHeld_split (used : List Nat) (e : Nat) (xs : List Nat) (he : e ≤ (xs.filter fun o => decide (o ∉ used)).length) :
    ∃ k, trimHeld used e xs = ((xs.take k).filter fun o => decide (o ∈ used)) ++ xs.drop k
      ∧ ((xs.take k).filter fun o => decide (o ∉ used)).length = e := by
  induction xs generalizing e with
  | nil => exact ⟨0, by cases e <;> rfl, (Nat.le_zero.1 he).symm⟩
  | cons o rest ih =>
    cases e with
    | zero => exact ⟨0, rfl, rfl⟩
    | succ e =>
      by_cases ho : o ∈ used
      · have he' : e + 1 ≤ (rest.filter fun x => decide (x ∉ used)).length := by simpa [ho] using he
        obtain ⟨k, htrim, hlen⟩ := ih (e + 1) he'
        exact ⟨k + 1, by simp [trimHeld, ho, htrim], by simpa [ho] using hlen⟩
      · have he' : e ≤ (rest.filter fun x => decide (x ∉ used)).length := by simpa [ho] using he
        obtain ⟨k, htrim, hlen⟩ := ih e he'
        exact ⟨k + 1, by simp [trimHeld, ho, htrim], by simpa [ho] using hlen⟩

section joined

variable {held used : List Nat} (hheld : held.Nodup) (hused : used.Nodup) (hlen : used.length ≤ 32)
include hheld hused hlen

/-- Beyond 32 the joined list has enough entries that the plan does not use. -/
theorem excess_le_unused :
    (joinedHeld held used).length - 32 ≤ ((joinedHeld held used).filter fun o => decide (o ∉ used)).length := by
  have hnodup : (joinedHeld held used).Nodup := by
    refine List.Nodup.append hheld (hused.filter _) fun o ho ho' => ?_
    exact (of_decide_eq_true (List.mem_filter.1 ho').2) ho
  have hle : ((joinedHeld held used).filter fun o => decide (o ∈ used)).length ≤ used.length :=
    ((hnodup.filter _).subperm fun o ho => of_decide_eq_true (List.mem_filter.1 ho).2).length_le
  have hsum := List.length_eq_length_filter_add (l := joinedHeld held used) fun o => decide (o ∈ used)
  simp only [← decide_not] at hsum
  omega

theorem updateHeld_split : ∃ k,
    updateHeld held used = (((joinedHeld held used).take k).filter fun o => decide (o ∈ used)) ++ (joinedHeld held used).drop k
    ∧ (((joinedHeld held used).take k).filter fun o => decide (o ∉ used)).length = (joinedHeld held used).length - 32 := by
  rw [updateHeld_eq]
  exact trimHeld_split used _ _ (excess_le_unused hheld hused hlen)

theorem updateHeld_length : (updateHeld held used).length = min (joinedHeld held used).length 32 := by
  obtain ⟨k, htrim, hk⟩ := updateHeld_split hheld hused hlen
  have hparts := congrArg List.length (List.take_append_drop k (joinedHeld held used))
  have hsum := List.length_eq_length_filter_add (l := (joinedHeld held used).take k) fun o => decide (o ∈ used)
  simp only [← decide_not] at hsum
  rw [List.length_append] at hparts
  rw [htrim, List.length_append]
  omega

/-- The list after a plan: at most 32, with every offer of the plan, in the order of the joined list. -/
theorem updateHeld_rule :
    (updateHeld held used).length ≤ 32 ∧ (∀ o ∈ used, o ∈ updateHeld held used)
    ∧ (updateHeld held used).Sublist (joinedHeld held used)
    ∧ ((joinedHeld held used).length ≤ 32 → updateHeld held used = joinedHeld held used)
    ∧ (32 < (joinedHeld held used).length → (updateHeld held used).length = 32
      ∧ ∃ k, updateHeld held used
          = (((joinedHeld held used).take k).filter fun o => decide (o ∈ used)) ++ (joinedHeld held used).drop k
        ∧ (((joinedHeld held used).take k).filter fun o => decide (o ∉ used)).length
          = (joinedHeld held used).length - 32) := by
  obtain ⟨k, htrim, hk⟩ := updateHeld_split hheld hused hlen
  have hlength := updateHeld_length hheld hused hlen
  refine ⟨by omega, fun o ho => ?_, ?_, fun hfits => ?_, fun hover => ⟨by omega, k, htrim, hk⟩⟩
  · have hjoined : o ∈ joinedHeld held used := by
      by_cases hh : o ∈ held
      · exact List.mem_append_left _ hh
      · exact List.mem_append_right _ (List.mem_filter.2 ⟨ho, decide_eq_true hh⟩)
    rw [← List.take_append_drop k (joinedHeld held used)] at hjoined
    rw [htrim]
    rcases List.mem_append.1 hjoined with h | h
    · exact List.mem_append_left _ (List.mem_filter.2 ⟨h, decide_eq_true ho⟩)
    · exact List.mem_append_right _ h
  · rw [htrim]
    conv_rhs => rw [← List.take_append_drop k (joinedHeld held used)]
    exact List.Sublist.append_right List.filter_sublist _
  · rw [updateHeld_eq, Nat.sub_eq_zero_of_le hfits, trimHeld_zero]

end joined

/-! ### The completion (R79, R98 to R103) -/

theorem basisHolds_iff (r : RunningUnit) (b : Basket) (s : State) : basisHolds r b s = true ↔
    b.generation = r.snapshot.generation ∧ ∀ o ∈ (planOf r.snapshot).used, usable s.store o.slot = true := by
  rw [basisHolds, Bool.and_eq_true, decide_eq_true_eq, List.all_eq_true]

theorem evaluationCompletion_of_unit {i : Nat} {r : RunningUnit} {s : State} (hr : s.evaluator.units[i]? = some (some r)) :
    evaluationCompletion i s = { state := unitTakes (completionOutcome r (freeUnit i s)).state
                                 sent := (completionOutcome r (freeUnit i s)).sent } := by
  simp only [evaluationCompletion, hr]

theorem completionOutcome_of_discard {r : RunningUnit} {s : State} (hr : r.discard = true) :
    completionOutcome r s = nothing s := if_pos hr

/-- A result that is not dropped: installed when its basis holds, else its basket goes back to the queue. -/
theorem completionOutcome_of_basket {r : RunningUnit} {b : Basket} {s : State} (hr : r.discard = false)
    (hb : findBasket r.basket s = some b) :
    completionOutcome r s =
      if basisHolds r b s = true then
        { state := mapBasket r.basket (installed (planOf r.snapshot)) s
          sent := totalReply .ok (.planSummary { planOf r.snapshot with seq := nextPlanSeq b.planSeq }) b }
      else nothing (s.withEvaluator { s.evaluator with queue := s.evaluator.queue ++ [r.basket] }) := by
  simp only [completionOutcome, hr, hb, Bool.false_eq_true, if_false]

/-- Settles O50: the completion by the mark and the basis, what a unit takes, and the held-offer list. -/
theorem evaluationCompletionRule : Obligations.EvaluationCompletionRule := by
  refine ⟨fun u s c hc hu r freed hr hfreed => ?_, fun s hs => ?_, fun s n v rest b hq hv hlow hb =>
    unitTakes_of_idle hq (idleUnit_eq_some hv hlow) hb, fun held used hheld hused hlen => ?_⟩
  · subst hc
    have hfree : freeUnit u (leaveQueue (.evaluationCompletion u) s) = freed := hfreed.symm
    have hrun := evaluationCompletion_of_unit (s := leaveQueue (.evaluationCompletion u) s) hr
    rw [hfree] at hrun
    have hstore : freed.store = s.store := by rw [hfreed]; rfl
    have hbaskets : freed.basketTable = s.basketTable := by rw [hfreed]; rfl
    refine ⟨fun hdrop => ?_, fun b plan basis hkeep hb hbasis hplan => ?_⟩
    · rw [completionOutcome_of_discard hdrop] at hrun
      exact takes_of_effect hu rfl hrun
    · have hfound : findBasket r.basket freed = some b := by rw [findBasket, hbaskets]; exact hb
      have hiff : basisHolds r b freed = true ↔ basis := by rw [basisHolds_iff, hbasis, hstore]
      rw [completionOutcome_of_basket hkeep hfound] at hrun
      refine ⟨fun hyes hd => ?_, fun hno => ?_⟩
      · have hseq : plan = { planOf r.snapshot with seq := nextPlanSeq b.planSeq } := hplan
        have hmap : mapBasket r.basket (installed (planOf r.snapshot)) freed
            = freed.withBaskets (s.basketTable.baskets.map fun y =>
                if y.number = r.basket then
                  { y with planSeq := plan.seq, plan := some plan, current := true, state := .totalled
                           heldOffers := updateHeld y.heldOffers (plan.used.map UsedOffer.offer)
                           outstanding := none }
                else y) := by
          rw [mapBasket, hbaskets]
          refine congrArg freed.withBaskets (List.map_congr_left fun y hy => ?_)
          by_cases hy' : y.number = r.basket
          · have hyb : y = b := eq_of_key_eq hd hy (findBasket_mem hb) (hy'.trans (findBasket_number hb).symm)
            rw [if_pos hy', if_pos hy', hyb, hseq]
            rfl
          · rw [if_neg hy', if_neg hy']
        rw [if_pos (hiff.2 hyes), hmap, ← hseq] at hrun
        refine takes_of_effect hu rfl (hrun.trans ?_)
        cases ho : b.outstanding <;> simp [totalReply, ho]
      · rw [if_neg (mt hiff.1 hno)] at hrun
        refine takes_of_effect hu rfl (hrun.trans ?_)
        rw [hfreed]
        rfl
  · rcases hs with hq | hbusy
    · simp only [unitTakes, hq]
    · exact unitTakes_of_busy (idleUnit_eq_none hbusy)
  · obtain ⟨hle, hall, hsub, hfits, hover⟩ := updateHeld_rule hheld hused hlen
    refine ⟨hle, hall, hsub, hfits, fun joined hj hlong => ?_⟩
    subst hj
    exact hover hlong

end Sys2Proof.Machine
end

section
/-! From the offers to the plan (O53). -/

namespace Sys2Proof.Machine

/-! ### The passes (R83) -/

theorem passOf_cases (r : OfferRecord) :
    (passOf r = some .exclusive ↔ r.kind = 3 ∨ (r.kind = 1 ∨ r.kind = 2) ∧ r.stacking = 0)
    ∧ (passOf r = some .stackable ↔ (r.kind = 1 ∨ r.kind = 2) ∧ r.stacking ≠ 0)
    ∧ (passOf r = some .basket ↔ r.kind = 4) ∧ (passOf r = some .points ↔ r.kind = 5) := by
  by_cases hk : 1 ≤ r.kind ∧ r.kind ≤ 5
  · obtain h | h | h | h | h : r.kind = 1 ∨ r.kind = 2 ∨ r.kind = 3 ∨ r.kind = 4 ∨ r.kind = 5 := by omega
    all_goals by_cases hs : r.stacking = 0 <;> simp [passOf, offerKindOf, h, hs]
  · have hnone : passOf r = none := by simp only [passOf, offerKindOf_eq_none (k := r.kind) (by omega)]
    rw [hnone]
    simp
    omega

theorem passCandidates_eq {snap : Snapshot} {p : Pass} {q : Candidate → Prop} [DecidablePred q]
    (h : ∀ c : Candidate, passOf c.record = some p ↔ q c) :
    passCandidates snap p = snap.candidates.filter fun c => decide (q c) := by
  simp only [passCandidates, h]

/-! ### Nets (R92) -/

theorem priceLine_of_none {snap : Snapshot} (w : Working) {l : Line} (h : ∀ o ∈ snap.overrides, o.line ≠ l.number) :
    priceLine snap w l = { line := l, net := unitsNet w.units l.number, granted := false } := by
  have hnone : overrideFor snap l.number = none := List.find?_eq_none.2 fun o ho => by simpa using h o ho
  simp only [priceLine, hnone]

theorem priceLine_of_override {snap : Snapshot} (w : Working) {l : Line} {o : SnapOverride}
    (h : overrideFor snap l.number = some o) : priceLine snap w l =
      if o.granted then { line := l, net := o.price * l.quantity, granted := true }
      else { line := l, net := l.extended, granted := false } := by
  simp only [priceLine, h]

/-! ### Coupons and boosts (R93, R96) -/

/-- Nothing is added when the amount is 0 or no place is left. -/
theorem full_iff (w : BasketWork) (amount : Nat) :
    (amount = 0 ∨ basketWorkFull w = true) ↔ (amount = 0 ∨ 8 ≤ w.entries.length ∨ 32 ≤ w.used.length) := by
  rw [basketWorkFull_iff]

theorem takeBoost_eq (lines : List PricedLine) (w : BasketWork) (c : Candidate) : takeBoost lines w c =
    if min (groupNet lines earning c.record.group / 100 * c.record.extra) (999999 - w.points) = 0 ∨ basketWorkFull w = true
      then w
    else addBasketEntry c .pointsBoost (min (groupNet lines earning c.record.group / 100 * c.record.extra) (999999 - w.points))
      { w with points := w.points + min (groupNet lines earning c.record.group / 100 * c.record.extra) (999999 - w.points) } :=
  rfl

/-- What a coupon takes off before the payable caps it, by its form. -/
theorem couponFull_of_form {lines : List PricedLine} {c : Candidate} {full : Nat}
    (h : c.record.form = 0 ∧ full = c.record.value
      ∨ c.record.form = 1 ∧ full = groupNet lines (fun l => l.line.concession) c.record.group * c.record.value / 10000) :
    couponFull lines c = full := by
  rcases h with ⟨hf, rfl⟩ | ⟨hf, rfl⟩
  · exact if_neg (by omega)
  · exact if_pos hf

/-- The points of the whole basket are those of every earning line. -/
theorem groupNet_all (lines : List PricedLine) (p : PricedLine → Bool) :
    groupNet lines p 0 = ((lines.filter p).map PricedLine.net).sum := by
  simp [groupNet]

/-- Settles O53, clause by clause. -/
theorem planFiguresRule : Obligations.PlanFiguresRule := by
  refine ⟨fun snap kind w c done netOf entries hdone hnet hentries => ?_, fun snap taken htaken => ?_,
    fun snap w l => ⟨priceLine_of_none w, fun o ho => priceLine_of_override w ho⟩,
    fun lines w c t full amount ht hfull hamount => ?_, fun lines w c g added hg hadded => ?_, fun snap lines w => ?_,
    fun snap w lines done hw hlines hdone => ?_⟩
  · subst hdone hnet
    have hnew : newReductions snap c.record.number w.units (applyToUnits w c kind).1 = entries := hentries.symm
    simp only [takeLineOffer, hnew]
    exact ⟨fun h => if_pos h, fun hne hroom => if_neg (not_or.2 ⟨hne, Nat.not_le.2 hroom⟩)⟩
  · have hstep : linePassStep snap = taken := by rw [htaken]; rfl
    rw [linePasses, hstep, passCandidates_eq fun c => (passOf_cases c.record).1,
      passCandidates_eq fun c => (passOf_cases c.record).2.1]
  · subst ht hamount
    rw [takeCoupon_eq, couponFull_of_form hfull]
    refine ⟨fun h => if_pos ?_, fun hmin hpos hentries hused => if_neg ?_⟩
    · exact h.imp_right (full_iff w _).2
    · rw [full_iff]
      rintro (h | h | h | h)
      · exact Nat.not_lt.2 hmin h
      all_goals omega
  · subst hg hadded
    rw [takeBoost_eq]
    refine ⟨fun h => if_pos ((full_iff w _).2 h), fun hpos hentries hused => if_neg ?_⟩
    rw [full_iff]
    rintro (h | h | h)
    · exact hpos.ne' h
    all_goals omega
  · have hpoints : passCandidates snap .points = snap.candidates.filter fun c => decide (c.record.kind = 5) :=
      passCandidates_eq fun c => (passOf_cases c.record).2.2.2
    refine ⟨fun hnone => by simp only [pointsPass, hnone], fun a ha => ?_⟩
    simp only [pointsPass, ha, hpoints, groupNet_all]
    rfl
  · subst hw hlines
    rw [← passCandidates_eq fun c => (passOf_cases c.record).2.2.1] at hdone
    subst hdone
    rfl

end Sys2Proof.Machine
end

section
/-! The layouts of the payloads, as fields with their sizes (O10). -/

namespace Sys2Proof.Machine

theorem le_zero (k : Nat) : le k 0 = List.replicate k 0 := by
  induction k with
  | zero => rfl
  | succ k ih =>
    rw [le, Nat.zero_div, ih, List.replicate_succ]
    rfl

/-! ### Common fields -/

theorem stampBytes_eq (t : Stamp) : stampBytes t = fields (stampFields t) := by simp [stampBytes, stampFields]

theorem stampBytes_length (t : Stamp) : (stampBytes t).length = 8 := by simp [stampBytes]

theorem markByte_eq (b : Bool) : markByte b = fields [(1, if b then 1 else 0)] := by simp [markByte]

theorem creditBytes_eq (c : Option (Nat × Nat × Nat)) :
    creditBytes c = fields [(4, (c.getD (0, 0, 0)).1), (4, (c.getD (0, 0, 0)).2.1), (4, (c.getD (0, 0, 0)).2.2)] := by
  rcases c with _ | ⟨a, b, d⟩
  · rfl
  · simp [creditBytes]

/-- Entries of one size with the unused places behind them. -/
theorem padTo_flatMap {α : Type} {xs : List α} {f : α → List Byte} (size : Nat) {k : Nat} (h : ∀ x ∈ xs, (f x).length = k) :
    padTo size (xs.flatMap f) = xs.flatMap f ++ List.replicate (size - k * xs.length) 0 :=
  padTo_of_length _ _ _ (length_flatMap_of_size xs f k h)

theorem padTo_flatMap_length {α : Type} {xs : List α} {f : α → List Byte} {size k : Nat} (h : ∀ x ∈ xs, (f x).length = k)
    (hfits : k * xs.length ≤ size) : (padTo size (xs.flatMap f)).length = size := by
  rw [padTo_flatMap size h, List.length_append, length_flatMap_of_size xs f k h, List.length_replicate,
    Nat.add_sub_of_le hfits]

/-! ### Entries -/

theorem basketEntryBytes_eq (e : BasketEntry) :
    basketEntryBytes e = fields [(2, e.offer), (1, e.kind.code), (1, 0), (4, e.amount)] := by simp [basketEntryBytes]

theorem basketEntryBytes_length (e : BasketEntry) : (basketEntryBytes e).length = 8 := by simp [basketEntryBytes]

theorem lineEntryBytes_eq (e : LineEntry) : lineEntryBytes e =
    fields ([(1, e.line), (1, e.pairs.length), (4, e.net)] ++ e.pairs.flatMap fun x => [(2, x.1), (4, x.2)])
      ++ List.replicate (24 - 6 * e.pairs.length) 0 := by
  rw [lineEntryBytes, padTo_flatMap 24 (k := 6) fun x _ => by simp]
  simp [fields_flatMap]

theorem lineEntryBytes_length {e : LineEntry} (h : e.pairs.length ≤ 4) : (lineEntryBytes e).length = 30 := by
  rw [lineEntryBytes, List.length_append, padTo_flatMap_length (k := 6) (fun x _ => by simp) (by omega)]
  simp

theorem usedOfferBytes_eq (o : UsedOffer) : usedOfferBytes o =
    fields [(2, o.offer), (1, o.kind.code), (1, 0), (4, o.applications), (4, o.total)] := by simp [usedOfferBytes]

/-- The fields of a granted override by its authority. -/
def overrideFields (o : JournalOverride) : List (Nat × Nat) :=
  match o.authority with
  | .lane => [(1, o.line), (1, o.reason.code), (1, 4), (1, 0), (2, 0), (4, o.price), (4, o.reduction)]
  | .desk d op => [(1, o.line), (1, o.reason.code), (1, d), (1, 0), (2, op), (4, o.price), (4, o.reduction)]

theorem journalOverrideBytes_eq (o : JournalOverride) : journalOverrideBytes o = fields (overrideFields o) := by
  cases h : o.authority <;> simp [journalOverrideBytes, overrideFields, authorityBytes, h]

theorem journalOverrideBytes_length (o : JournalOverride) : (journalOverrideBytes o).length = 14 := by
  cases h : o.authority <;> simp [journalOverrideBytes, authorityBytes, h]

theorem deskPlaceBytes_eq (p : DeskNoticePlace) : deskPlaceBytes p =
    fields [(1, p.lane), (1, p.tag.toNat), (2, p.basket), (1, p.line), (1, 0), (2, p.seconds)] := by simp [deskPlaceBytes]

theorem holdPlaceBytes_eq (x : HoldPlace) : holdPlaceBytes x =
    fields [(2, x.basket), (1, x.lane), (1, 0), (4, x.points), (2, x.seconds), (2, 0)] := by simp [holdPlaceBytes]

/-! ### Records and payloads -/

theorem planSummary_layout {p : Plan} (h : p.entries.length ≤ 8) :
    (Payload.planSummary p).bytes.length = 102 ∧ (Payload.planSummary p).bytes =
      fields ([(2, p.basket), (1, p.seq), (1, p.pendingOverrides)] ++ stampFields p.stamp
        ++ [(4, p.gross), (4, p.lineConcessions), (4, p.overrideReductions), (4, p.basketConcessions), (4, p.payable)
           , (4, p.points), (1, p.entries.length), (1, 0)])
      ++ (p.entries.flatMap fun e => fields [(2, e.offer), (1, e.kind.code), (1, 0), (4, e.amount)])
      ++ List.replicate (64 - 8 * p.entries.length) 0 := by
  have hsize : ∀ e ∈ p.entries, (basketEntryBytes e).length = 8 := fun e _ => basketEntryBytes_length e
  constructor
  · simp [Payload.bytes, planSummaryBytes, stampBytes_length, padTo_flatMap_length hsize (Nat.mul_le_mul_left 8 h)]
  · rw [Payload.bytes, planSummaryBytes, padTo_flatMap 64 hsize]
    simp [stampBytes_eq, funext basketEntryBytes_eq]

theorem planLines_layout {seq count : Nat} {current : Bool} {es : List LineEntry} {held : List Nat}
    (h : ∀ e ∈ es, e.pairs.length ≤ 4) :
    (Payload.planLines seq current count es held).bytes.length = 5 + 30 * es.length + 2 * held.length
    ∧ (Payload.planLines seq current count es held).bytes =
      fields [(1, seq), (1, if current then 1 else 0), (1, count), (1, es.length)]
      ++ (es.flatMap fun e => fields ([(1, e.line), (1, e.pairs.length), (4, e.net)]
          ++ e.pairs.flatMap fun x => [(2, x.1), (4, x.2)]) ++ List.replicate (24 - 6 * e.pairs.length) 0)
      ++ fields ((1, held.length) :: held.map fun o => (2, o)) := by
  constructor
  · have hes := length_flatMap_of_size es lineEntryBytes 30 fun e he => lineEntryBytes_length (h e he)
    have hheld := length_flatMap_of_size held (le 2) 2 fun o _ => le_length 2 o
    simp only [Payload.bytes, markByte, List.length_append, le_length, hes, hheld]
    omega
  · simp [Payload.bytes, markByte_eq, funext lineEntryBytes_eq, fields_map]

theorem settled_layout {count waiting : Nat} {r : SettledRecord} {credit : Nat × Nat × Nat}
    (hcredit : credit = r.credit.getD (0, 0, 0)) :
    (Payload.journalTaken count waiting (.settled r)).bytes.length
      = 2 + 76 + 12 * r.offers.length + 14 * r.overrides.length + 4 * r.coupons.length
    ∧ (Payload.journalTaken count waiting (.settled r)).bytes =
      fields ([(1, count), (1, waiting), (1, 1), (1, r.lane), (1, r.laneClass.code), (1, r.planSeq), (2, r.identity)
          , (2, r.basket), (5, r.account.getD 0)] ++ stampFields r.stamp ++ stampFields r.planStamp
        ++ [(4, r.gross), (4, r.lineConcessions), (4, r.overrideReductions), (4, r.basketConcessions), (4, r.payable)
           , (4, r.redeemed), (4, r.redemptionValue), (4, r.amountDue), (4, credit.1), (4, credit.2.1)
           , (4, credit.2.2), (1, r.offers.length), (1, r.overrides.length), (1, r.coupons.length)]
        ++ (r.offers.flatMap fun o => [(2, o.offer), (1, o.kind.code), (1, 0), (4, o.applications), (4, o.total)])
        ++ r.overrides.flatMap overrideFields ++ r.coupons.map fun k => (4, k)) := by
  subst hcredit
  constructor
  · have hoffers := length_flatMap_of_size r.offers usedOfferBytes 12 fun o _ => by simp [usedOfferBytes]
    have hoverrides := length_flatMap_of_size r.overrides journalOverrideBytes 14 fun o _ => journalOverrideBytes_length o
    have hcoupons := length_flatMap_of_size r.coupons (le 4) 4 fun k _ => le_length 4 k
    simp only [Payload.bytes, journalRecordBytes, settledBytes, accountBytes, creditBytes_eq, fields_length,
      stampBytes_length, List.length_append, le_length, hoffers, hoverrides, hcoupons, List.map_cons, List.map_nil,
      List.sum_cons, List.sum_nil]
    omega
  · simp [Payload.bytes, journalRecordBytes, settledBytes, creditBytes_eq, stampBytes_eq, accountBytes, fields_map,
      fields_flatMap, funext usedOfferBytes_eq, funext journalOverrideBytes_eq]

/-- A park time as fields; 8 zeros for none. -/
def parkFields : Option Stamp → List (Nat × Nat)
  | some t => stampFields t
  | none => [(8, 0)]

theorem optionalStamp_eq (t : Option Stamp) : optionalStamp t = fields (parkFields t) := by
  cases t with
  | none => simp [optionalStamp, parkFields]
  | some t => exact stampBytes_eq t

theorem optionalStamp_length (t : Option Stamp) : (optionalStamp t).length = 8 := by
  cases t with
  | none => exact le_length 8 0
  | some t => exact stampBytes_length t

theorem cancelled_layout (count waiting : Nat) (r : CancelledRecord) :
    (Payload.journalTaken count waiting (.cancelled r)).bytes.length = 2 + 29
    ∧ (Payload.journalTaken count waiting (.cancelled r)).bytes =
      fields ([(1, count), (1, waiting), (1, 2), (1, (r.lane.map Prod.fst).getD 255)
          , (1, (r.lane.map fun x => x.2.code).getD 255), (1, r.cause.code), (2, r.identity), (2, r.basket)
          , (5, r.account.getD 0)] ++ stampFields r.stamp ++ parkFields r.parkTime) := by
  constructor
  · simp [Payload.bytes, journalRecordBytes, cancelledBytes, orFF, accountBytes, stampBytes_length, optionalStamp_length]
  · simp [Payload.bytes, journalRecordBytes, cancelledBytes, orFF, accountBytes, stampBytes_eq, optionalStamp_eq]

theorem deskStatus_layout {on : Bool} {n : Nat} {shown ruled : BitVec 16} {ps : List DeskNoticePlace} :
    (Payload.deskStatus on n shown ruled ps).bytes =
      fields ([(1, if on then 1 else 0), (1, n), (2, shown.toNat), (2, ruled.toNat)] ++ ps.flatMap fun p =>
        [(1, p.lane), (1, p.tag.toNat), (2, p.basket), (1, p.line), (1, 0), (2, p.seconds)])
      ++ List.replicate (64 - 8 * ps.length) 0 := by
  rw [Payload.bytes, padTo_flatMap 64 fun p _ => show (deskPlaceBytes p).length = 8 by simp [deskPlaceBytes]]
  simp [markByte_eq, funext deskPlaceBytes_eq, fields_flatMap]

theorem accountRead_layout (r : AccountReport) : (Payload.accountRead r).bytes =
    fields ([(5, r.account.number), (1, r.account.tier.code), (2, r.account.flags.toNat), (4, r.account.balance)
        , (4, r.heldTotal), (4, r.available), (1, r.account.refs), (2, r.idlePosition.getD 65535), (2, r.entries)
        , (2, r.idleEntries), (1, r.holds.length)] ++ r.holds.flatMap fun x =>
      [(2, x.basket), (1, x.lane), (1, 0), (4, x.points), (2, x.seconds), (2, 0)])
    ++ List.replicate (48 - 12 * r.holds.length) 0 := by
  rw [Payload.bytes, accountReportBytes,
    padTo_flatMap 48 fun x _ => show (holdPlaceBytes x).length = 12 by simp [holdPlaceBytes]]
  simp [orFFFF, funext holdPlaceBytes_eq, fields_flatMap]

theorem storeStatus_layout (r : StoreReport) : (Payload.storeStatus r).bytes =
    fields ([(1, r.controller.code), (1, r.inProgress.getD 255), (1, bitsValue (r.waiting.map fun n => decide (n ≠ 0)))
        , (1, bitsValue r.condemned)] ++ (r.waiting.map fun n => (1, n))
      ++ [(2, r.withdrawing.getD 65535), (2, r.programming.getD 65535), (2, r.counts.erased), (2, r.counts.live)
         , (2, r.counts.retired), (2, r.counts.damaged), (2, r.active)]) := by
  simp [Payload.bytes, storeReportBytes, orFF, orFFFF, slotCountBytes, fields_map]

/-- The bytes of a slot's record; 64 zeros for none. -/
theorem optionalRecord_eq (r : Option OfferRecord) :
    (optionalRecord r).length = 64 ∧ optionalRecord r = (r.map recordBytes).getD (List.replicate 64 0) := by
  cases r with
  | none => exact ⟨le_length 64 0, le_zero 64⟩
  | some x => exact ⟨recordBytes_length x, rfl⟩

theorem engineStatus_layout (r : EngineReport) : (Payload.engineStatus r).bytes =
    fields [(1, r.mode.code), (1, r.calendar.code), (1, r.controller.code), (1, if r.identity.isSome then 1 else 0)
      , (2, r.identity.getD 0), (1, r.cause.code), (1, r.openLanes), (1, r.baskets), (1, r.parked), (1, r.expired)
      , (1, r.queued), (1, r.running), (1, r.overrides), (1, r.notices), (2, r.accounts), (1, r.holds), (1, r.journal)
      , (1, r.waiting), (1, r.requests), (1, r.transmit), (2, r.frameErrors), (2, r.refusalsLost)] := by
  simp [Payload.bytes, engineReportBytes, markByte_eq]

/-- Settles O10, payload by payload. -/
theorem payloadLayouts : Obligations.PayloadLayouts := by
  refine ⟨fun fs k n i => ⟨fields_length fs, le_getElem? k n i⟩, fun p h => planSummary_layout h,
    fun seq count current es held h => planLines_layout h, fun count waiting r credit h => settled_layout h,
    fun count waiting r => cancelled_layout count waiting r, fun r => by simp [Payload.bytes, settleReportBytes, markByte_eq],
    fun on n shown ruled ps _ => deskStatus_layout, fun r _ => accountRead_layout r, storeStatus_layout,
    fun st w a c p r => ?_, engineStatus_layout, fun n => ⟨by simp [Payload.bytes, deskNoticeBytes],
      by simp [Payload.bytes, deskNoticeBytes]⟩, fun n => by simp [Payload.bytes, outcomeBytes, orFF],
    fun x y z g on off t f tag gen l counts a => ?_⟩
  · obtain ⟨hlen, hbytes⟩ := optionalRecord_eq r
    refine ⟨by simp [Payload.bytes, hlen], ?_⟩
    rw [Payload.bytes, hbytes]
    cases r <;> simp
  · simp [Payload.bytes, stampBytes_eq, markByte_eq, tagBytes, accountBytes, optionalStamp_eq, parkFields, permissionByte,
      bitsValue, limitBytes, slotCountBytes, fields_map, Cause.code]

end Sys2Proof.Machine
end

section
/-! Placing messages, waiting blocks and events that stay due (O11). -/

namespace Sys2Proof.Machine

/-! ### Placing (R179) -/

theorem room_le {s : State} (h : s.link.transmit.length ≤ 64) : s.link.transmit.length + room s ≤ 64 := by
  unfold room Config.transmitQueue
  split <;> omega

theorem room_of_held {s : State} (h : s.link.held ≠ []) : room s = 0 := if_neg h

theorem room_of_none {s : State} (h : s.link.held = []) : room s = 64 - s.link.transmit.length := if_pos h

/-! ### Waiting on the queue (R176, R177) -/

/-- A request that waits on the queue: where it stands, at the tail, or refused as its frame would be. -/
theorem waitOnQueue_of_request {c : Instr} {k : RequestKind} {h : Header} {p : List Byte} {s : State}
    (he : encodeRequest c = some (k, h, p)) :
    (c ∈ s.link.requests → waitOnQueue c s = s)
    ∧ (c ∉ s.link.requests → s.link.requests.length < 32 →
        waitOnQueue c s = s.withLink { s.link with requests := s.link.requests ++ [c] })
    ∧ (c ∉ s.link.requests → 32 ≤ s.link.requests.length → waitOnQueue c s = refuseFrame k.code h .queueFull s) := by
  refine ⟨fun hm => ?_, fun hm hroom => ?_, fun hm hfull => ?_⟩ <;> simp only [waitOnQueue, he]
  · exact if_pos hm
  · exact (if_neg hm).trans (if_pos hroom)
  · exact (if_neg hm).trans (if_neg (Nat.not_lt.2 hfull))

/-- A request that stays due keeps its place on the queue; one for which the queue has none does not. -/
theorem stayDue_of_request {c : Instr} {s : State} (h : headerOf c ≠ none) :
    (c ∈ (waitOnQueue c s).link.requests →
      stayDue c s = withDue ((waitOnQueue c s).link.due ++ [c]) (waitOnQueue c s))
    ∧ (c ∉ (waitOnQueue c s).link.requests → stayDue c s = waitOnQueue c s) := by
  obtain ⟨g, hg⟩ := Option.ne_none_iff_exists'.1 h
  simp only [stayDue, hg]
  exact ⟨fun hm => if_pos hm, fun hm => if_neg hm⟩

theorem stayDue_of_event {c : Instr} (s : State) (h : headerOf c = none) :
    stayDue c s = withDue (s.link.due ++ [c]) (runOut c s) := by
  simp only [stayDue, h]

theorem overtakes_of_event {c : Instr} (s : State) (h : headerOf c = none) : overtakes c s = false := by
  simp only [overtakes, h]

/-! ### Falling due -/

theorem sameEvent_self (c : Instr) : sameEvent c c = true := by cases c <;> simp [sameEvent]

theorem sameEvent_of_request {c d : Instr} (h : headerOf c ≠ none) : sameEvent c d = decide (c = d) := by
  cases c <;> first | rfl | exact absurd rfl h

theorem fallsDue_of_request {c : Instr} {s : State} (h : headerOf c ≠ none) (hd : c ∉ s.link.due) : fallsDue c s = true := by
  simp only [fallsDue, inCourse_request h s, sameEvent_of_request h, Bool.true_and, Bool.or_eq_true, Bool.not_eq_true',
    List.any_eq_false, decide_eq_true_eq]
  exact .inr fun d hm hcd => hd (hcd ▸ hm)

theorem fallsDue_of_due {c : Instr} {s : State} (hd : c ∈ s.link.due) (hc : c ≠ .secondEvent) : fallsDue c s = false := by
  have hany : s.link.due.any (sameEvent c) = true := List.any_eq_true.2 ⟨c, hd, sameEvent_self c⟩
  simp [fallsDue, hany, hc]

/-- An event of a waiting block that does not fall due leaves everything as it is. -/
theorem takeEvent_of_not_due {c : Instr} {x : Block} {s : State} (ho : overtakes c s = false) (hx : waits x s = true)
    (ht : touches c s x = true) (hf : fallsDue c s = false) : takeEvent c s = s := by
  have hany : (waitingBlocks s).any (touches c s) = true := List.any_eq_true.2 ⟨x, (waits_eq_true_iff _ _).1 hx, ht⟩
  simp [takeEvent, ho, hany, hf]

/-- A timer that has run out stands at 0. -/
theorem timerLeft_runOut {c : Instr} {s : State} (h : timerLeft c s ≠ none) : timerLeft c (runOut c s) = some 0 := by
  cases c with
  | parkTimerExpiry n =>
    obtain ⟨k, hk⟩ := Option.ne_none_iff_exists'.1 h
    obtain ⟨b, hb, hpark⟩ := Option.bind_eq_some_iff.1 hk
    have hfound := findBasket_mapBasket n (fun b => { b with parkTimer := b.parkTimer.map fun _ => 0 }) s fun _ => rfl
    simp only [timerLeft, runOut, hfound, hb, Option.map_some, Option.bind_some, hpark]
  | holdTimerExpiry n =>
    obtain ⟨k, hk⟩ := Option.ne_none_iff_exists'.1 h
    obtain ⟨x, hx, -⟩ := Option.map_eq_some_iff.1 hk
    have hholds : (runOut (.holdTimerExpiry n) s).accounts.entries.flatMap Account.holds
        = (s.accounts.entries.flatMap Account.holds).map fun x => if x.basket = n then { x with timer := 0 } else x := by
      simp only [runOut, State.accounts_withAccounts, List.flatMap_map, List.map_flatMap]
    have hbasket : ((fun x : Hold => decide (x.basket = n)) ∘ fun x => if x.basket = n then { x with timer := 0 } else x)
        = fun x => decide (x.basket = n) := by
      funext y
      by_cases hy : y.basket = n <;> simp [hy]
    have hxn : x.basket = n := by simpa using List.find?_some hx
    simp only [timerLeft, hholds, List.find?_map, hbasket, hx, Option.map_some, hxn, if_true]
  | noticeTimerExpiry l =>
    obtain ⟨k, hk⟩ := Option.ne_none_iff_exists'.1 h
    obtain ⟨p, hp, -⟩ := Option.map_eq_some_iff.1 hk
    obtain ⟨r, hr, hrp⟩ := Option.bind_eq_some_iff.1 hp
    have hlt : l < 16 := (Vector.getElem?_eq_some_iff.1 hr).1
    simp only [timerLeft, runOut, hr, State.router_withRouter, Vector.getElem?_setIfInBounds_self_of_lt hlt, Option.bind_some,
      hrp, Option.map_some]
  | gatherTimerExpiry =>
    obtain ⟨k, hk⟩ := Option.ne_none_iff_exists'.1 h
    have hk' : s.store.gatherTimer = some k := hk
    simp only [timerLeft, runOut, State.store_withStore, hk', Option.map_some]
  | _ => exact absurd rfl h

/-! ### Waiting blocks -/

theorem touches_iff (c : Instr) (x : Block) (s : State) : touches c s x = true ↔
    ownerOf c = some x ∨ x ∈ asksOf c s ∨ ownedDiffers x s (runOf c (leaveQueue c s)).state = true := by
  simp only [touches, Bool.or_eq_true, decide_eq_true_eq, List.contains_iff_mem, or_assoc]

theorem waits_of_no_due {s : State} (x : Block) (hd : s.link.due = []) :
    waits x s = true ↔ ∃ m ∈ s.link.held, m.owner = x := by
  rw [waits_eq_true_iff, waitingBlocks, hd, waitingOver, List.mem_map]

theorem waits_of_one_due {c : Instr} {s : State} (x : Block) (hd : s.link.due = [c]) :
    ((∃ m ∈ s.link.held, touches c s m.owner = true) →
      (waits x s = true ↔ (∃ m ∈ s.link.held, m.owner = x) ∨ ownerOf c = some x))
    ∧ ((∀ m ∈ s.link.held, touches c s m.owner = false) →
      (waits x s = true ↔ (∃ m ∈ s.link.held, m.owner = x) ∨ touches c s x = true)) := by
  rw [waits_eq_true_iff, waitingBlocks, hd]
  constructor
  · rintro ⟨m, hm, ht⟩
    have hany : (s.link.held.map HeldMessage.owner).any (touches c s) = true :=
      List.any_eq_true.2 ⟨m.owner, List.mem_map_of_mem hm, ht⟩
    simp only [waitingOver, if_pos hany, List.mem_append, List.mem_map, Option.mem_toList]
  · intro hfree
    have hany : ¬ (s.link.held.map HeldMessage.owner).any (touches c s) = true := by
      rw [List.any_eq_true]
      rintro ⟨y, hy, ht⟩
      obtain ⟨m, hm, rfl⟩ := List.mem_map.1 hy
      rw [hfree m hm] at ht
      cases ht
    simp only [waitingOver, if_neg hany, List.mem_append, List.mem_map, List.mem_filter, mem_all, true_and]
    exact or_comm

/-- With no message held, every block that a due event touches waits. -/
theorem waits_of_touched {c : Instr} {x : Block} {s : State} (hheld : s.link.held = []) (hc : c ∈ s.link.due)
    (ht : touches c s x = true) : waits x s = true := by
  have hover (due : List Instr) (hm : c ∈ due) : x ∈ waitingOver s [] due := by
    induction due with
    | nil => cases hm
    | cons d rest ih =>
      unfold waitingOver
      rcases List.mem_cons.1 hm with rfl | hr
      · exact List.mem_append_left _ (List.mem_filter.2 ⟨mem_all x, ht⟩)
      · exact List.mem_append_right _ (ih hr)
  rw [waits_eq_true_iff, waitingBlocks, hheld]
  exact hover _ hc

/-- The installation of a plan changes the basket table. -/
theorem evaluationCompletion_touches {u : Nat} {r : RunningUnit} {b : Basket} {s : State}
    (hr : s.evaluator.units[u]? = some (some r)) (hkeep : r.discard = false) (hb : findBasket r.basket s = some b)
    (hbasis : basisHolds r b s = true) : touches (.evaluationCompletion u) s .basketTable = true := by
  have hfound : findBasket r.basket (freeUnit u (leaveQueue (.evaluationCompletion u) s)) = some b := hb
  have hholds : basisHolds r b (freeUnit u (leaveQueue (.evaluationCompletion u) s)) = true := hbasis
  have hrun : runOf (.evaluationCompletion u) (leaveQueue (.evaluationCompletion u) s) = _ :=
    evaluationCompletion_of_unit (s := leaveQueue (.evaluationCompletion u) s) hr
  rw [completionOutcome_of_basket hkeep hfound, if_pos hholds] at hrun
  refine (touches_iff ..).2 (.inr (.inr ?_))
  rw [hrun]
  refine decide_eq_true fun heq => ?_
  rw [unitTakes_basketTable] at heq
  have hinstalled : findBasket r.basket s = some (installed (planOf r.snapshot) b) := by
    have hmap := findBasket_mapBasket r.basket (installed (planOf r.snapshot))
      (freeUnit u (leaveQueue (.evaluationCompletion u) s)) fun _ => rfl
    rw [hfound] at hmap
    rw [findBasket, heq]
    exact hmap
  have hseq := congrArg Basket.planSeq (Option.some.inj (hb.symm.trans hinstalled))
  have hnext : b.planSeq = if b.planSeq < 255 then b.planSeq + 1 else 1 := hseq
  split at hnext <;> omega

/-! ### The obligation -/

/-- A request with which a waiting block keeps it due, by the place it has on the queue. -/
theorem stayDue_request_cases {c : Instr} {k : RequestKind} {h : Header} {p : List Byte} {s : State}
    (he : encodeRequest c = some (k, h, p)) :
    (c ∈ s.link.requests → stayDue c s = s.withLink { s.link with due := s.link.due ++ [c] })
    ∧ (c ∉ s.link.requests → s.link.requests.length < 32 →
        stayDue c s = s.withLink { s.link with requests := s.link.requests ++ [c], due := s.link.due ++ [c] })
    ∧ (c ∉ s.link.requests → 32 ≤ s.link.requests.length → stayDue c s = refuseFrame k.code h .queueFull s) := by
  have hh : headerOf c ≠ none := by simp [headerOf, he]
  obtain ⟨hmem, hroom, hfull⟩ := waitOnQueue_of_request (s := s) he
  obtain ⟨hstay, hleave⟩ := stayDue_of_request (s := s) hh
  refine ⟨fun hm => ?_, fun hm hlt => ?_, fun hm hge => ?_⟩
  · rw [hmem hm] at hstay
    exact hstay hm
  · rw [hroom hm hlt] at hstay
    exact hstay (List.mem_append_right _ (List.mem_singleton_self c))
  · rw [hfull hm hge] at hleave
    have hrequests : (refuseFrame k.code h .queueFull s).link.requests = s.link.requests := by
      unfold refuseFrame
      split <;> rfl
    exact hleave (hrequests ▸ hm)

/-- An event that needs the waiting store stays due with it. -/
theorem takeEvent_of_store {c : Instr} {s : State} (ho : overtakes c s = false) (hw : waits .store s = true)
    (hasks : Block.store ∈ asksOf c s) (hf : fallsDue c s = true) : takeEvent c s = stayDue c s :=
  takeEvent_of_waits ho hw ((touches_iff ..).2 (.inr (.inl hasks))) hf

/-- Settles O11, clause by clause. -/
theorem heldMessagesAndWaitingBlocks : Obligations.HeldMessagesAndWaitingBlocks := by
  refine ⟨fun b ms s hs => ?_, fun c b s k h p due ho he hcase => ?_, fun c b s ho hov hd hne => ?_,
    fun c b s ho hh hw => ⟨fun hno => ?_, fun hf => ?_⟩, fun c s => timerLeft_runOut, fun c b x s ho hov hf hw ht => ?_,
    fun c b s ho hov hfree => ?_, fun c x s => touches_iff c x s, fun x s hx => ?_, fun x s => waits_of_no_due x,
    fun c x s => waits_of_one_due x, fun c x s => waits_of_touched, fun c h y mo d ho mi se s hw hcal hov hr hd hc => ?_,
    fun s hw hcal hrun hsec hlast => ?_, fun u r b s hw hev hr hkeep hb hbasis => ?_⟩
  · refine ⟨ms.take (room s), ms.drop (room s), (List.take_append_drop ..).symm, rfl, ?_, fun hheld => ?_, fun hheld hlate => ?_⟩
    · have hroom := room_le hs
      rw [List.length_append, List.length_take]
      omega
    · rw [room_of_held hheld, List.take_zero]
    · have hlong : room s < ms.length := by
        by_contra hshort
        exact hlate (List.drop_eq_nil_of_le (Nat.not_lt.1 hshort))
      have hroom := room_of_none hheld
      rw [List.length_append, List.length_take]
      omega
  · have hx := exec_eq_takeEvent s ho
    have hh : headerOf c ≠ none := by simp [headerOf, he]
    have hrefused (hroom : s.link.transmit.length < 64) : refuseFrame k.code h .queueFull s = _ := if_pos hroom
    rcases hcase with ⟨hov, rfl⟩ | ⟨hov, hw, hd, rfl⟩
    · rw [takeEvent_of_overtakes hov] at hx
      obtain ⟨hmem, hroom, hfull⟩ := waitOnQueue_of_request (s := s) he
      exact ⟨fun hm => hx.trans (congrArg _ (hmem hm)), fun hm hlt => hx.trans (congrArg _ (hroom hm hlt)),
        fun hm hge hlt => hx.trans (congrArg _ ((hfull hm hge).trans (hrefused hlt)))⟩
    · rw [takeEvent_of_waits hov hw (touches_owner s ho) (fallsDue_of_request hh hd)] at hx
      obtain ⟨hmem, hroom, hfull⟩ := stayDue_request_cases (s := s) he
      exact ⟨fun hm => hx.trans (congrArg _ (hmem hm)), fun hm hlt => hx.trans (congrArg _ (hroom hm hlt)),
        fun hm hge hlt => hx.trans (congrArg _ ((hfull hm hge).trans (hrefused hlt)))⟩
  · rw [exec_eq_takeEvent s ho,
      takeEvent_of_not_due hov (waits_of_due hd ho) (touches_owner s ho) (fallsDue_of_due hd hne)]
  · have hf : fallsDue c s = false := by simp [fallsDue, hno]
    rw [exec_eq_takeEvent s ho, takeEvent_of_not_due (overtakes_of_event s hh) hw (touches_owner s ho) hf]
  · rw [exec_eq_takeEvent s ho, takeEvent_of_waits (overtakes_of_event s hh) hw (touches_owner s ho) hf,
      stayDue_of_event s hh, withDue, runOut_link]
  · rw [exec_eq_takeEvent s ho, takeEvent_of_waits hov hw ht hf]
  · rw [exec_eq_takeEvent s ho, takeEvent_of_free hov ho hfree]
  · rcases hx with ⟨m, hm, rfl⟩ | ⟨c, hc, ho⟩
    · exact waits_of_held hm
    · exact waits_of_due hc ho
  · have hasks : Block.store ∈ asksOf c s ∧ ownerOf c = some .calendar ∧ ∃ e, encodeRequest c = some e := by
      rcases hc with ⟨rfl, hok⟩ | ⟨rfl, hrun⟩
      · exact ⟨by simp [asksOf, hok], rfl, _, rfl⟩
      · exact ⟨by simp [asksOf, minuteAsks, hrun], rfl, _, rfl⟩
    obtain ⟨hstore, howner, ⟨k, g, p⟩, he⟩ := hasks
    have hh : headerOf c ≠ none := by simp [headerOf, he]
    rw [exec_eq_takeEvent s howner, takeEvent_of_store hov hw hstore (fallsDue_of_request hh hd),
      (stayDue_request_cases (s := s) he).1 hr]
  · have hasks : Block.store ∈ asksOf .secondEvent s := by simp [asksOf, secondAsks, hrun, rollsMinute, hsec, hlast]
    have hf : fallsDue .secondEvent s = true := by simp [fallsDue, inCourse, hrun]
    rw [exec_eq_takeEvent s (c := .secondEvent) rfl, takeEvent_of_store (overtakes_of_event s rfl) hw hasks hf,
      stayDue_of_event s rfl]
    rfl
  · have hnot : Instr.evaluationCompletion u ∉ s.link.due := fun hm => by
      rw [waits_of_due hm rfl] at hev
      cases hev
    have hf : fallsDue (.evaluationCompletion u) s = true := by
      simp only [fallsDue, inCourse, hr, Option.bind_some, Option.isSome_some, Bool.true_and, Bool.or_eq_true,
        Bool.not_eq_true', List.any_eq_false]
      exact .inr fun d hm hsame => hnot (of_decide_eq_true hsame ▸ hm)
    rw [exec_eq_takeEvent s (c := .evaluationCompletion u) rfl, takeEvent_of_waits (overtakes_of_event s rfl) hw
      (evaluationCompletion_touches hr hkeep hb hbasis) hf, stayDue_of_event s rfl]
    rfl

end Sys2Proof.Machine
end

section
/-! LINE QUANTITY, and the withdrawal of a line or of its override (O21, O22). -/

namespace Sys2Proof.Machine

/-! ### LINE QUANTITY (R10) -/

/-- The state with a line's new quantity and the basket changed once. -/
def quantityChanged (n line q : Nat) (s : State) : State :=
  s.withBaskets (s.basketTable.baskets.map fun y => if y.number = n then (setQuantity line q y).raised else y)

theorem quantityTaken_eq (h : Header) (l n line q price : Nat) (s : State) : quantityTaken h l n line q price s =
    (requantify l n line price q (quantityChanged n line q s)).after [replyTo .lineQuantity h .ok (.sideNote
      (hasRecord n line s && !hasRecord n line (requantify l n line price q (quantityChanged n line q s)).state))] := by
  have hchanged : ownChange n (mapBasket n (setQuantity line q) s) = quantityChanged n line q s :=
    ownChange_mapBasket n _ s fun _ => rfl
  simp only [quantityTaken, hchanged]

/-- LINE QUANTITY of a line of the basket. -/
theorem lineQuantity_of_line {h : Header} {n line q l : Nat} {b : Basket} {x : Line} {s : State} (hs : Served h n l b s)
    (hx : findLine line b = some x) : lineQuantity h n line q s =
      if (x.measured || !inRange 1 999 q || decide (Config.maxMoney < q * x.price)
          || decide (Config.maxMoney < linesTotal (setQuantity line q b).lines)) = true then
        refuse .lineQuantity h .badField s
      else if q = x.quantity then answer .lineQuantity h .ok (.sideNote false) s
      else quantityTaken h l n line q x.price s := by
  rw [lineQuantity, onServed_of_served hs]
  simp only [hx]

/-- The field checks of LINE QUANTITY. -/
theorem quantityBad_iff (x : Line) (q : Nat) (b : Basket) (line : Nat) :
    (x.measured || !inRange 1 999 q || decide (Config.maxMoney < q * x.price)
      || decide (Config.maxMoney < linesTotal (setQuantity line q b).lines)) = true ↔
    x.measured = true ∨ q = 0 ∨ 999 < q ∨ 99999999 < q * x.price
      ∨ 99999999 < linesTotal (setQuantity line q b).lines := by
  have hrange : (!inRange 1 999 q) = true ↔ q = 0 ∨ 999 < q := by
    rw [Bool.not_eq_true', ← Bool.not_eq_true, inRange_iff]
    omega
  simp only [Bool.or_eq_true, hrange, decide_eq_true_eq, or_assoc]
  exact Iff.rfl

/-! ### The record of the line (R114 to R116) -/

section record

variable {n line q l : Nat} {s : State} {r : OverrideRecord} {x : Line} {h : Header}

/-- A record that waits, or whose new reduction stays within what was authorised, takes the new reduction. -/
theorem requantify_kept {price : Nat} (hr : recordOf n line s = some r)
    (hkeep : (∃ count, r.state = .pending count false)
      ∨ ∃ a m, r.state = .granted a m ∧ (price - r.price) * q ≤ m) :
    requantify l n line price q s = nothing (s.withOverrides (s.overrides.map fun z =>
      if z.basket = n ∧ z.line = line then { z with reduction := (price - r.price) * q } else z)) := by
  rcases hkeep with ⟨count, hst⟩ | ⟨a, m, hst, hle⟩
  · simp only [requantify, hr, hst]
    rfl
  · simp only [requantify, hr, hst, reductionAt]
    exact if_pos hle

/-- A granted record that outgrows what was authorised. -/
theorem requantify_outgrown {price most : Nat} {who : Authority} (hr : recordOf n line s = some r)
    (hst : r.state = .granted who most) (hlt : most < (price - r.price) * q) :
    requantify l n line price q s = outgrown l n line who r ((price - r.price) * q) s := by
  simp only [requantify, hr, hst, reductionAt]
  exact if_neg (Nat.not_le.2 hlt)

theorem requantify_presented {price count : Nat} (hr : recordOf n line s = some r) (hst : r.state = .pending count true) :
    requantify l n line price q s = requantifyPresented l n line ((price - r.price) * q) s := by
  simp only [requantify, hr, hst, reductionAt]

/-- A notice taken back: the presentation ends on its route and at its desk. -/
theorem takeBack_of_presented {route : Route} {p : Presentation} {k : Desk} (hroute : s.router.routes[l]? = some route)
    (hp : route.presented = some p) (hn : p.basket = n) (hline : p.line = line) (hk : s.router.desks[p.desk]? = some k) :
    takeBack l n line s = {
      state := s.withRouter
        { routes := s.router.routes.setIfInBounds l { route with presented := none }
          desks := s.router.desks.setIfInBounds p.desk { k with openCount := k.openCount - 1 } }
      sent := [noticeTo .noticeWithdrawn (some l) (.noticeWithdrawn p.desk route.tag line .lane n)] } := by
  have hpres : presentationOf l s = some p := (presentationOf_of_route hroute).trans hp
  have hend : endPresentation l p false s = s.withRouter
      { routes := s.router.routes.setIfInBounds l { route with presented := none }
        desks := s.router.desks.setIfInBounds p.desk { k with openCount := k.openCount - 1 } } := by
    rw [endPresentation, mapRoute_of_route _ hroute, mapDesk_of_desk _ (State.router_withRouter s _ ▸ hk)]
    rfl
  simp only [takeBack, hpres, hn, hline, and_self, if_true, noticeWithdrawn, routeTag_of_route hroute, hend]

/-- A presented record whose line's quantity changes: the notice goes first, then the route's mode decides. -/
theorem requantifyPresented_of_presented {cut : Nat} {route : Route} {p : Presentation} {k : Desk} {kept : List OverrideRecord}
    {e : Effect} (hroute : s.router.routes[l]? = some route) (hp : route.presented = some p) (hn : p.basket = n)
    (hline : p.line = line) (hk : s.router.desks[p.desk]? = some k)
    (hkept : kept = (if route.mode = .single then s.overrides.filter fun z => decide (¬ (z.basket = n ∧ z.line = line))
      else s.overrides.map fun z => if z.basket = n ∧ z.line = line then
        { z with reduction := cut, state := .pending (presentationCount z) false } else z))
    (he : e = presentationPass ((s.withRouter
        { routes := s.router.routes.setIfInBounds l { route with presented := none }
          desks := s.router.desks.setIfInBounds p.desk { k with openCount := k.openCount - 1 } }).withOverrides kept)) :
    requantifyPresented l n line cut s = {
      state := e.state
      sent := noticeTo .noticeWithdrawn (some l) (.noticeWithdrawn p.desk route.tag line .lane n) :: e.sent } := by
  unfold requantifyPresented
  rw [takeBack_of_presented hroute hp hn hline hk, routeSingle_of_route hroute]
  subst hkept
  rw [he]
  cases hmode : route.mode with
  | single =>
    simp only [decide_true, if_true, removeRecord_eq]
    rfl
  | persistent =>
    simp only [reduceCtorEq, decide_false, Bool.false_eq_true, if_false]
    rfl

/-- The record of a line is looked up in the override table alone. -/
theorem hasRecord_congr {u : State} (n line : Nat) (hu : u.overrides = s.overrides) :
    hasRecord n line u = hasRecord n line s := by
  rw [hasRecord_eq_any, hasRecord_eq_any, hu]

/-- A change of the line's records that keeps their basket and line neither makes nor removes the line's record. -/
theorem hasRecord_mapped {u : State} {f : OverrideRecord → OverrideRecord} (hf : ∀ z, (f z).basket = z.basket ∧ (f z).line = z.line)
    (hu : u.overrides = s.overrides.map fun z => if z.basket = n ∧ z.line = line then f z else z) :
    hasRecord n line u = hasRecord n line s :=
  (hasRecord_congr n line (s := mapRecord n line f s) hu).trans (hasRecord_mapRecord n line n line s hf)

/-- Whether the table has the record of the line after the fate that the route's mode decides. -/
theorem hasRecord_kept {cut : Nat} {single : Prop} [Decidable single] {u : State} (hhas : hasRecord n line s = true)
    (hu : u.overrides = (if single then s.overrides.filter fun z => decide (¬ (z.basket = n ∧ z.line = line))
      else s.overrides.map fun z => if z.basket = n ∧ z.line = line then
        { z with reduction := cut, state := .pending (presentationCount z) false } else z)) :
    (!hasRecord n line u) = decide single := by
  by_cases hs : single
  · have hgone : u.overrides = (removeRecord n line s).overrides := by
      rw [removeRecord_eq, hu, if_pos hs]
      rfl
    rw [hasRecord_congr n line hgone, hasRecord_removeRecord, decide_eq_true hs]
    rfl
  · rw [if_neg hs] at hu
    rw [hasRecord_mapped (f := fun z => { z with reduction := cut, state := .pending (presentationCount z) false })
      (fun _ => ⟨rfl, rfl⟩) hu, hhas, decide_eq_false hs]
    rfl

end record

/-- Settles O21: the field checks, then the fate of the line's record by its state. -/
theorem lineQuantityRule : Obligations.LineQuantityRule := by
  intro h n line q l b s c hc hu hs
  subst hc
  have hserved := served_leaveQueue (.lineQuantity h n line q) hs
  refine ⟨fun hnone => refuses_of_refuse hu rfl ?_, fun x hx => ?_⟩
  · have hfind : findLine line b = none := List.find?_eq_none.2 fun x hx => by simpa using hnone x hx
    show lineQuantity h n line q _ = _
    rw [lineQuantity, onServed_of_served hserved]
    simp only [hfind]
  have hrun : runOf (.lineQuantity h n line q) (leaveQueue (.lineQuantity h n line q) s) = _ :=
    lineQuantity_of_line hserved hx
  have hgood (hm : x.measured = false) (h1 : 1 ≤ q) (h2 : q ≤ 999) (h3 : q * x.price ≤ 99999999)
      (h4 : linesTotal (setQuantity line q b).lines ≤ 99999999) :=
    hrun.trans (if_neg (mt (quantityBad_iff x q b line).1 (by
      rintro (h | h | h | h | h)
      · rw [hm] at h
        cases h
      all_goals omega)))
  have htakes {t : State} {ms : List Message} {note : Bool} (hm : x.measured = false) (h1 : 1 ≤ q) (h2 : q ≤ 999)
      (h3 : q * x.price ≤ 99999999) (h4 : linesTotal (setQuantity line q b).lines ≤ 99999999) (hne : q ≠ x.quantity)
      (hreq : requantify l n line x.price q (quantityChanged n line q (leaveQueue (.lineQuantity h n line q) s))
        = { state := t, sent := ms })
      (hnote : (hasRecord n line s && !hasRecord n line t) = note) :
      Takes (.lineQuantity h n line q) .basketTable s t (replyTo .lineQuantity h .ok (.sideNote note) :: ms) := by
    have heq := (hgood hm h1 h2 h3 h4).trans ((if_neg hne).trans (quantityTaken_eq ..))
    rw [hreq] at heq
    subst hnote
    exact takes_of_effect hu rfl heq
  refine ⟨fun hbad => refuses_of_refuse hu rfl (hrun.trans (if_pos ((quantityBad_iff x q b line).2 hbad))),
    fun r cut changed hm h1 h2 h3 h4 hne hr hcut hchanged => ?_, fun hm h1 h2 h3 h4 => ⟨fun heq => ?_, fun hne => ?_⟩⟩
  · have hch : changed = quantityChanged n line q (leaveQueue (.lineQuantity h n line q) s) := hchanged
    have hhas : hasRecord n line s = true := by rw [hasRecord, hr]; rfl
    have hhas' : hasRecord n line changed = true := by rw [hch]; exact hhas
    have hr' : recordOf n line changed = some r := by rw [hch]; exact hr
    rw [← hch] at htakes
    refine ⟨fun who most lanePart lane grants hst hlt hlane hpart hgrants => ?_,
      fun count route p k kept e hst hroute hp hn hline hk hkept he => ?_⟩
    · have hout := requantify_outgrown (l := l) hr' hst (hcut ▸ hlt)
      rw [← hcut] at hout
      have htest : laneGrantTest l n line r.reason r.price cut changed = true ↔
          r.reason ≠ .goodwill ∧ 0 < r.price ∧ cut ≤ lane.floorLimit ∧ lanePart + cut ≤ lane.basketLimit := by
        have htotal : laneGrantTotal n line changed = lanePart := by
          rw [laneGrantTotal_eq, hpart, hch]
          rfl
        rw [laneGrantTest_iff (lane := lane) (by rw [hch]; exact hlane), htotal]
      refine ⟨fun hyes => ?_, fun hno route e hroute he => ?_⟩
      · have hgranted := hout.trans (if_pos ((hgrants.1 hyes).imp_right htest.2))
        refine htakes hm h1 h2 h3 h4 hne (hgranted.trans ?_) (note := false) ?_
        · rw [hch]
          rfl
        · rw [hhas, Bool.true_and, Bool.not_eq_false']
          exact (hasRecord_mapped (s := s) (f := fun z => { z with reduction := cut, state := .granted .lane cut })
            (fun _ => ⟨rfl, rfl⟩) rfl).trans hhas
      · have hhanded := hout.trans (if_neg fun htrue => hno (hgrants.2 (htrue.imp_right htest.1)))
        have hpending : mapRecord n line (fun z => { z with reduction := cut, state := .pending 0 false }) changed
            = changed.withOverrides (s.overrides.map fun z =>
                if z.basket = n ∧ z.line = line then { z with reduction := cut, state := .pending 0 false } else z) := by
          rw [hch]
          rfl
        rw [← hpending] at he
        have hroute' : (mapRecord n line (fun z => { z with reduction := cut, state := .pending 0 false })
            changed).router.routes[l]? = some route := by
          rw [hch]
          exact hroute
        have hpass : hasRecord n line e.state = true := by
          rw [he, hasRecord_presentationPass, hasRecord_mapRecord, hhas']
          exact fun _ => ⟨rfl, rfl⟩
        refine ⟨fun hkeep => ?_, fun hsingle hnot => ?_⟩
        · rw [handToRouter_kept he hroute' hkeep] at hhanded
          refine htakes hm h1 h2 h3 h4 hne hhanded ?_
          rw [hpass, hhas]
          rfl
        · rw [handToRouter_removed he hroute' hsingle hpass hnot, removeRecord_eq] at hhanded
          refine htakes hm h1 h2 h3 h4 hne hhanded ?_
          rw [← removeRecord_eq, hasRecord_removeRecord, hhas]
          rfl
    · have hpres := requantify_presented (l := l) (q := q) (price := x.price) hr' hst
      rw [← hcut] at hpres
      have hfate := requantifyPresented_of_presented (s := changed) (cut := cut) (kept := kept) (e := e) (l := l)
        (route := route) (by rw [hch]; exact hroute) hp hn hline (by rw [hch]; exact hk) (by rw [hch]; exact hkept)
        (by rw [he, hch]; rfl)
      refine htakes hm h1 h2 h3 h4 hne (hpres.trans hfate) ?_
      rw [hhas, Bool.true_and, he, hasRecord_presentationPass]
      exact hasRecord_kept hhas hkept
  · exact takes_of_effect hu rfl ((hgood hm h1 h2 h3 h4).trans (if_pos heq))
  · refine ⟨fun hnone => htakes hm h1 h2 h3 h4 hne ?_ ?_, fun r hr hkeep => ?_⟩
    · have hnone' : recordOf n line (quantityChanged n line q (leaveQueue (.lineQuantity h n line q) s)) = none := hnone
      simp only [requantify, hnone']
      rfl
    · rw [(hasRecord_eq_false_iff n line s).2 hnone]
      rfl
    · have hhas : hasRecord n line s = true := by rw [hasRecord, hr]; rfl
      refine htakes hm h1 h2 h3 h4 hne (requantify_kept (s := quantityChanged n line q
        (leaveQueue (.lineQuantity h n line q) s)) hr hkeep) ?_
      rw [hhas, Bool.true_and, Bool.not_eq_false']
      exact (hasRecord_mapped (s := s) (f := fun z => { z with reduction := (x.price - r.price) * q })
        (fun _ => ⟨rfl, rfl⟩) rfl).trans hhas

/-! ### LINE VOID and OVERRIDE WITHDRAW (R11, R112, R113) -/

/-- A record that no desk holds goes alone. -/
theorem withdrawRecord_of_notPresented {l n line : Nat} {s : State}
    (hp : ∀ p, presentationOf l s = some p → ¬ (p.basket = n ∧ p.line = line)) :
    withdrawRecord l n line s
      = nothing (s.withOverrides (s.overrides.filter fun r => decide (¬ (r.basket = n ∧ r.line = line)))) := by
  simp only [withdrawRecord, takeBack_of_notPresented hp, nothing_state, nothing_sent, if_true, removeRecord_eq]
  rfl

/-- Settles O22: with no notice to take back, the line and its record, or the record alone, go. -/
theorem lineVoidAndOverrideWithdraw : Obligations.LineVoidAndOverrideWithdraw := by
  refine fun h n line l b s hs hp => ⟨fun c hc hu => ⟨fun hnone => ?_, fun hsome => ?_⟩,
    fun c hc hu => ⟨fun hnone => ?_, fun r hr => ?_⟩⟩ <;> subst hc
  · refine refuses_of_refuse hu rfl ?_
    have hfind : findLine line b = none := List.find?_eq_none.2 fun x hx => by simpa using hnone x hx
    show lineVoid h n line _ = _
    rw [lineVoid, onServed_of_served (served_leaveQueue _ hs)]
    simp only [hfind]
  · refine takes_of_effect hu rfl ?_
    obtain ⟨x, hx, hxline⟩ := hsome
    obtain ⟨y, hy⟩ : ∃ y, findLine line b = some y :=
      Option.isSome_iff_exists.1 (List.find?_isSome.2 ⟨x, hx, decide_eq_true hxline⟩)
    show lineVoid h n line _ = _
    rw [lineVoid, onServed_of_served (served_leaveQueue _ hs)]
    simp only [hy]
    rw [ownChange_mapBasket, withdrawRecord_of_notPresented]
    · rfl
    · exact hp
    · exact fun _ => rfl
  · refine refuses_of_refuse hu rfl ?_
    have hfind : recordOf n line (leaveQueue (.overrideWithdraw h n line) s) = none :=
      List.find?_eq_none.2 fun r hr => by simpa using hnone r hr
    show overrideWithdraw h n line _ = _
    rw [overrideWithdraw, onServed_of_served (served_leaveQueue _ hs)]
    simp only [hfind]
  · refine takes_of_effect hu rfl ?_
    have hfind : recordOf n line (leaveQueue (.overrideWithdraw h n line) s) = some r := hr
    show overrideWithdraw h n line _ = _
    rw [overrideWithdraw, onServed_of_served (served_leaveQueue _ hs)]
    simp only [hfind]
    rw [withdrawRecord_of_notPresented]
    · rfl
    · exact hp

end Sys2Proof.Machine
end


section
/-! Recalls of notices, ROUTE MASK and ROUTE SET (R119, R132, R137, R138): the outcome of a recall by its route's mode,
and of the two route requests by the fields. -/

namespace Sys2Proof.Machine

/-! ### Recalls (R119, R132) -/

/-- A presentation that ends undecided lowers the open count of its desk alone. -/
theorem endPresentation_undecided {l : Nat} {p : Presentation} {s : State} {q : Route} {d : Desk}
    (hq : s.router.routes[l]? = some q) (hd : s.router.desks[p.desk]? = some d) :
    endPresentation l p false s = s.withRouter
      { routes := s.router.routes.setIfInBounds l { q with presented := none }
        desks := s.router.desks.setIfInBounds p.desk { d with openCount := d.openCount - 1 } } := by
  rw [endPresentation, mapRoute_of_route _ hq, mapDesk_of_desk _ (State.router_withRouter s _ ▸ hd)]
  rfl

section recalls

variable {cause : Cause} {l : Nat} {s : State} {q : Route} {p : Presentation} {d : Desk} {r : OverrideRecord}

/-- A recall is NOTICE WITHDRAWN and then the fate of the record. -/
theorem recallLane_of_presented (hq : s.router.routes[l]? = some q) (hp : q.presented = some p)
    (hr : recordOf p.basket p.line s = some r) :
    recallLane cause l s = (recallRecord l p r cause (endPresentation l p false s)).after
      [noticeTo .noticeWithdrawn (some l) (.noticeWithdrawn p.desk q.tag p.line cause p.basket)] := by
  simp only [recallLane, (presentationOf_of_route hq).trans hp, hr, noticeWithdrawn, routeTag_of_route hq]

/-- The end of a presentation leaves the mode of its route. -/
theorem routeSingle_endPresentation (hq : s.router.routes[l]? = some q) (hd : s.router.desks[p.desk]? = some d) :
    routeSingle l (endPresentation l p false s) = decide (q.mode = .single) := by
  have hl : l < 16 := (Vector.getElem?_eq_some_iff.1 hq).1
  rw [endPresentation_undecided hq hd]
  exact routeSingle_of_route (q := { q with presented := none }) (Vector.getElem?_setIfInBounds_self_of_lt hl)

variable {e : Effect}

theorem recallRecord_single (hr : recordOf p.basket p.line s = some r) (hmode : routeSingle l s = true)
    (he : e = staleClaim [p.basket] (s.withOverrides (s.overrides.filter fun o =>
      decide (¬ (o.basket = p.basket ∧ o.line = p.line))))) :
    recallRecord l p r cause s = e.after [outcomeMessage l r .declined (some cause) (some p.desk) 0 0 0] := by
  obtain ⟨hbasket, hline⟩ := recordOf_key hr
  rw [recallRecord, if_pos hmode, hbasket, hline, removeRecord_eq, ← he]

theorem recallRecord_lapsed (hr : recordOf p.basket p.line s = some r) (hmode : routeSingle l s = false)
    (hmost : s.tables.limits.presentations ≤ presentationCount r)
    (he : e = staleClaim [p.basket] (s.withOverrides (s.overrides.filter fun o =>
      decide (¬ (o.basket = p.basket ∧ o.line = p.line))))) :
    recallRecord l p r cause s =
      e.after [outcomeMessage l r .lapsed (some cause) (some p.desk) 0 0 (presentationCount r)] := by
  obtain ⟨hbasket, hline⟩ := recordOf_key hr
  rw [recallRecord, hmode, if_neg Bool.false_ne_true, if_pos hmost, hbasket, hline, removeRecord_eq, ← he]

theorem recallRecord_waits (hr : recordOf p.basket p.line s = some r) (hmode : routeSingle l s = false)
    (hfew : presentationCount r < s.tables.limits.presentations) :
    recallRecord l p r cause s = nothing (mapRecord p.basket p.line markTakenBack s) := by
  obtain ⟨hbasket, hline⟩ := recordOf_key hr
  rw [recallRecord, hmode, if_neg Bool.false_ne_true, if_neg (Nat.not_le.2 hfew), hbasket, hline]

end recalls

/-- Settles O34: the presentation ends, and the mode and the count decide the record's fate. -/
theorem recallOfNotices : Obligations.RecallOfNotices := by
  refine ⟨fun cause l s hp => ?_, fun cause l ls s => ⟨rfl, rfl⟩, ?_⟩
  · simp only [recallLane, hp]
    rfl
  rintro cause l s q p d r ended withdrawn outcome hq hp hd hr rfl rfl rfl
  have hlane := recallLane_of_presented (cause := cause) hq hp hr
  have hsingle := routeSingle_endPresentation (p := p) hq hd
  rw [endPresentation_undecided hq hd] at hlane hsingle
  have hr' : recordOf p.basket p.line (s.withRouter
      { routes := s.router.routes.setIfInBounds l { q with presented := none }
        desks := s.router.desks.setIfInBounds p.desk { d with openCount := d.openCount - 1 } }) = some r := hr
  refine ⟨fun e he => ⟨fun hmode => ?_, fun hmode hmost => ?_⟩, fun hmode hfew => ?_⟩
  · have heq := recallRecord_single (cause := cause) (l := l) hr' (hsingle.trans (decide_eq_true hmode)) he
    rw [hlane, heq, outcomeMessage_of_recordOf hr]
    rfl
  · have heq := recallRecord_lapsed (cause := cause) (l := l) hr'
      (hsingle.trans (decide_eq_false (by rw [hmode]; exact RouteMode.noConfusion))) hmost he
    rw [hlane, heq, outcomeMessage_of_recordOf hr]
    rfl
  · have heq := recallRecord_waits (cause := cause) (l := l) hr'
      (hsingle.trans (decide_eq_false (by rw [hmode]; exact RouteMode.noConfusion))) hfew
    rw [hlane, heq]
    rfl

/-! ### ROUTE MASK (R137) -/

section mask

variable {h : Header} {setting : Nat} {s : State} {q : Route}

theorem routeMask_badField (hbad : 16 ≤ h.lane.toNat ∨ 2 ≤ setting) :
    routeMask h setting s = refuse .routeMask h .badField s := by
  unfold routeMask
  rcases hbad with hlane | hset
  · rw [laneOf_eq_none hlane]
  · rw [switchOf_eq_none hset]
    cases laneOf h <;> rfl

/-- ROUTE MASK with its fields in range, by the mask that the route has. -/
theorem routeMask_of_route {on : Bool} (hq : s.router.routes[h.lane.toNat]? = some q) (hon : switchOf setting = some on) :
    routeMask h setting s =
      if q.masked = on then answer .routeMask h .ok (.routeMask on q.presented.isSome) s
      else if on then answer .routeMask h .ok (.routeMask on q.presented.isSome)
        (mapRoute h.lane.toNat (fun q => { q with masked := true }) s)
      else (presentationPass (mapRoute h.lane.toNat (fun q => { q with masked := false }) s)).after
        [replyTo .routeMask h .ok (.routeMask on q.presented.isSome)] := by
  have hl : h.lane.toNat < 16 := (Vector.getElem?_eq_some_iff.1 hq).1
  simp only [routeMask, laneOf_eq_some hl, hon, hq]
  rfl

end mask

/-! ### ROUTE SET (R138) -/

section set

variable {h : Header} {desk mode code : Nat} {s : State} {q : Route} {target : Option Nat} {m : RouteMode}

theorem routeDeskOf_eq_some (hd : desk < 4 ∧ target = some desk ∨ desk = 255 ∧ target = none) :
    routeDeskOf desk = some target := by
  rcases hd with ⟨hlt, rfl⟩ | ⟨rfl, rfl⟩
  · exact if_pos hlt
  · rfl

theorem routeDeskOf_eq_none (hd : 4 ≤ desk) (hany : desk ≠ 255) : routeDeskOf desk = none :=
  (if_neg (Nat.not_lt.2 hd)).trans (if_neg hany)

theorem routeModeOf_eq_some (hm : mode = 0 ∧ m = .single ∨ mode = 1 ∧ m = .persistent) : routeModeOf mode = some m := by
  rcases hm with ⟨rfl, rfl⟩ | ⟨rfl, rfl⟩ <;> rfl

theorem routeModeOf_eq_none (hm : 2 ≤ mode) : routeModeOf mode = none := by
  obtain ⟨k, rfl⟩ := Nat.exists_eq_add_of_le' hm
  rfl

theorem routeSet_badField (hbad : 16 ≤ h.lane.toNat ∨ (4 ≤ desk ∧ desk ≠ 255) ∨ 2 ≤ mode ∨ 256 ≤ code) :
    routeSet h desk mode code s = refuse .routeSet h .badField s := by
  unfold routeSet
  split
  · rename_i l target m hl hdesk hmode
    split
    · rfl
    · refine if_pos ?_
      rcases hbad with hlane | ⟨hd, hany⟩ | hm | hcode
      · cases (laneOf_eq_none hlane).symm.trans hl
      · cases (routeDeskOf_eq_none hd hany).symm.trans hdesk
      · cases (routeModeOf_eq_none hm).symm.trans hmode
      · exact hcode
  · rfl

/-- ROUTE SET with its fields in range: ROUTE_BUSY, or the three fields set and what SINGLE displaces removed. -/
theorem routeSet_of_route (hq : s.router.routes[h.lane.toNat]? = some q) (hdesk : routeDeskOf desk = some target)
    (hmode : routeModeOf mode = some m) (hcode : code < 256) :
    routeSet h desk mode code s =
      if !q.masked || q.presented.isSome then refuse .routeSet h .routeBusy s
      else
        let t := mapRoute h.lane.toNat (fun q => { q with desk := target, mode := m, code := code }) s
        (if m = .single then removeDisplaced h.lane.toNat (displaced h.lane.toNat s) t else nothing t).after
          [replyTo .routeSet h .ok .none] := by
  have hl : h.lane.toNat < 16 := (Vector.getElem?_eq_some_iff.1 hq).1
  simp only [routeSet, laneOf_eq_some hl, hdesk, hmode, hq, if_neg (Nat.not_lt.2 (Nat.le_of_lt_succ hcode))]
  rw [mapRoute_of_route _ hq]
  rfl

/-- With a basket on the lane the displaced records are its PENDING ones. -/
theorem displaced_of_active {l : Nat} {b : Basket} (hb : activeBasket l s = some b) :
    displaced l s = bySeq (s.overrides.filter fun r => decide (r.basket = b.number) && isPending r) := by
  simp only [displaced, hb, basketRecords, List.filter_filter, Bool.and_comm]

theorem displaced_eq_nil {l : Nat} (hnone : ∀ b, activeBasket l s = some b →
    ∀ r ∈ s.overrides, r.basket = b.number → isPending r = false) : displaced l s = [] := by
  cases hb : activeBasket l s with
  | none => simp only [displaced, hb]
  | some b =>
    refine List.eq_nil_iff_forall_not_mem.2 fun r hr => ?_
    rw [displaced_of_active hb, mem_bySeq, List.mem_filter, Bool.and_eq_true, decide_eq_true_eq] at hr
    obtain ⟨hmem, hbasket, hpend⟩ := hr
    exact Bool.false_ne_true ((hnone b hb r hmem hbasket).symm.trans hpend)

/-- The removals of displaced records, all of one basket, are one change to it. -/
theorem removeDisplaced_eq {l n : Nat} {rs : List OverrideRecord} {e : Effect} (hne : rs ≠ [])
    (hrs : rs = bySeq (s.overrides.filter fun r => decide (r.basket = n) && isPending r))
    (he : e = staleClaim [n] (s.withOverrides (s.overrides.filter fun r => !(decide (r.basket = n) && isPending r)))) :
    removeDisplaced l rs s
      = e.after (rs.map fun r => outcomeMessage l r .declined (some .routeClosed) none 0 0 0) := by
  have hmem (r : OverrideRecord) : r ∈ rs ↔ r ∈ s.overrides ∧ r.basket = n ∧ isPending r = true := by
    rw [hrs, mem_bySeq, List.mem_filter, Bool.and_eq_true, decide_eq_true_eq]
  have hkept : (s.overrides.filter fun r => !rs.contains r)
      = s.overrides.filter fun r => !(decide (r.basket = n) && isPending r) := by
    refine List.filter_congr fun r hr => congrArg (!·) (Bool.eq_iff_iff.2 ?_)
    rw [List.contains_iff_mem, hmem, Bool.and_eq_true, decide_eq_true_eq]
    exact and_iff_right hr
  cases rs with
  | nil => exact absurd rfl hne
  | cons r rest =>
    obtain ⟨-, hbasket, -⟩ := (hmem r).1 List.mem_cons_self
    simp only [removeDisplaced]
    rw [hkept, hbasket, ← he]

end set

/-- Settles O36: the field checks, then the mask, or the three fields and what they displace. -/
theorem routeRequests : Obligations.RouteRequests := by
  refine fun h desk mode code setting s => ⟨fun c hc hu => ?mask, fun c hc hu => ?set⟩ <;> subst hc
  case mask =>
    refine ⟨fun hbad => refuses_of_refuse hu rfl (routeMask_badField hbad), ?_⟩
    intro q on turned hq hset hturned
    have hq' : (leaveQueue (.routeMask h setting) s).router.routes[h.lane.toNat]? = some q := hq
    have hrun := routeMask_of_route hq' (switchOf_eq_some hset)
    rw [mapRoute_of_route _ hq', mapRoute_of_route _ hq'] at hrun
    subst hturned
    refine ⟨fun hsame => takes_of_effect hu rfl (hrun.trans (if_pos hsame)), fun hclear hon => ?_,
      fun hmask hoff f hf => ?_⟩
    · subst hon
      exact takes_of_effect hu rfl (hrun.trans ((if_neg (by rw [hclear]; exact Bool.false_ne_true)).trans (if_pos rfl)))
    · subst hoff
      refine takes_of_effect hu rfl (hrun.trans ((if_neg (by rw [hmask]; exact Bool.true_eq_false.mp)).trans
        ((if_neg Bool.false_ne_true).trans ?_)))
      rw [hf]
      rfl
  case set =>
    refine ⟨fun hbad => refuses_of_refuse hu rfl (routeSet_badField hbad), ?_⟩
    intro q target m turned hq htarget hmode hcode hturned
    have hq' : (leaveQueue (.routeSet h desk mode code) s).router.routes[h.lane.toNat]? = some q := hq
    have hrun := routeSet_of_route hq' (routeDeskOf_eq_some htarget) (routeModeOf_eq_some hmode) hcode
    have hset : mapRoute h.lane.toNat (fun q => { q with desk := target, mode := m, code := code })
        (leaveQueue (.routeSet h desk mode code) s) = turned := (mapRoute_of_route _ hq').trans hturned.symm
    rw [hset] at hrun
    have hfree (hmask : q.masked = true) (hpres : q.presented = none) :
        ¬ (!q.masked || q.presented.isSome) = true := by simp [hmask, hpres]
    refine ⟨fun hbusy => refuses_of_refuse hu rfl (hrun.trans (if_pos ?_)), fun hmask hpres hkeep => ?_, ?_⟩
    · rcases hbusy with hmask | hpres
      · rw [hmask]
        rfl
      · rw [Option.isSome_iff_ne_none.2 hpres, Bool.or_true]
    · refine takes_of_effect hu rfl (hrun.trans ((if_neg (hfree hmask hpres)).trans ?_))
      rcases hkeep with rfl | hnone
      · rfl
      · have hnil : displaced h.lane.toNat (leaveQueue (.routeSet h desk mode code) s) = [] := displaced_eq_nil hnone
        rw [hnil]
        cases m <;> rfl
    · intro b rs e hmask hpres hsingle hb hrs hne he
      refine takes_of_effect hu rfl (hrun.trans ((if_neg (hfree hmask hpres)).trans ?_))
      subst hsingle
      have hdisp : displaced h.lane.toNat (leaveQueue (.routeSet h desk mode code) s) = rs :=
        (displaced_of_active hb).trans hrs.symm
      rw [hdisp]
      have hrs' : rs = bySeq (turned.overrides.filter fun r => decide (r.basket = b.number) && isPending r) := by
        rw [hrs, hturned]
        rfl
      have he' : e = staleClaim [b.number] (turned.withOverrides (turned.overrides.filter fun r =>
          !(decide (r.basket = b.number) && isPending r))) := by
        rw [he, hturned]
        rfl
      simp only [if_true]
      rw [removeDisplaced_eq hne hrs' he']
      rfl

end Sys2Proof.Machine
end


section
/-! The presentation of records (R124 to R127): which record goes to which desk, and what a presentation does. -/

namespace Sys2Proof.Machine

/-! ### The pass (R127) -/

/-- The pass over some lanes goes on from an effect one lane at a time. -/
theorem foldl_presentIfAble (ls : List Nat) (e : Effect) :
    ls.foldl (fun e l => e.andThen (presentIfAble l)) e = e.andThen (passLanes ls) := by
  induction ls generalizing e with
  | nil => simp only [List.foldl_nil, passLanes, nothing, Effect.andThen, List.append_nil]
  | cons l rest ih =>
    rw [List.foldl_cons, ih]
    simp only [passLanes, Effect.andThen, List.append_assoc]

theorem nothing_andThen (f : State → Effect) (s : State) : (nothing s).andThen f = f s := rfl

theorem presentationPass_eq_foldl (s : State) :
    presentationPass s = (List.range 16).foldl (fun e l => e.andThen (presentIfAble l)) { state := s, sent := [] } := by
  rw [foldl_presentIfAble]
  exact (nothing_andThen (passLanes allLanes) s).symm

theorem presentIfAble_of_none {l : Nat} {s : State} (h : canPresent l s = none) : presentIfAble l s = nothing s := by
  unfold presentIfAble
  rw [h]
  cases s.router.routes[l]? <;> rfl

theorem presentIfAble_of_some {l d : Nat} {q : Route} {r : OverrideRecord} {s : State}
    (hq : s.router.routes[l]? = some q) (h : canPresent l s = some (r, d)) : presentIfAble l s = presentOn l q r d s := by
  simp only [presentIfAble, hq, h]

/-! ### The record: the lowest keying number that waits (R124) -/

theorem lowestSeq_eq_none {rs : List OverrideRecord} (h : lowestSeq rs = none) : rs = [] := by
  cases rs with
  | nil => rfl
  | cons r rest =>
    unfold lowestSeq at h
    split at h
    · cases h
    · split at h <;> cases h

theorem lowestSeq_le {rs : List OverrideRecord} {r : OverrideRecord} (h : lowestSeq rs = some r) :
    ∀ o ∈ rs, r.seq ≤ o.seq := by
  induction rs generalizing r with
  | nil => cases h
  | cons x rest ih =>
    unfold lowestSeq at h
    refine List.forall_mem_cons.2 ?_
    split at h
    · rename_i hnone
      cases h
      rw [lowestSeq_eq_none hnone]
      exact ⟨Nat.le_refl _, fun o ho => by cases ho⟩
    · rename_i q hq
      have hrest := ih hq
      split at h <;> cases h
      · exact ⟨by omega, hrest⟩
      · exact ⟨Nat.le_refl _, fun o ho => by have := hrest o ho; omega⟩

theorem mem_waiting {n : Nat} {s : State} {r : OverrideRecord} :
    r ∈ (basketRecords n s).filter isWaiting ↔ r ∈ s.overrides ∧ r.basket = n ∧ isWaiting r = true := by
  rw [List.mem_filter, basketRecords, List.mem_filter, decide_eq_true_eq, and_assoc]

/-! ### The desk: the named one, or the least busy (R125) -/

theorem deskAvailable_iff {k : Desk} : deskAvailable k = true ↔ k.onDuty = true ∧ k.openCount < 8 := by
  rw [deskAvailable, Bool.and_eq_true, decide_eq_true_eq]
  rfl

theorem leastBusy_eq_none {xs : List (Nat × Desk)} (h : leastBusy xs = none) : ∀ x ∈ xs, ¬ deskAvailable x.2 = true := by
  induction xs with
  | nil => exact fun x hx => by cases hx
  | cons y rest ih =>
    obtain ⟨i, d⟩ := y
    unfold leastBusy at h
    split at h
    · split at h
      · cases h
      · split at h <;> cases h
    · rename_i hd
      exact List.forall_mem_cons.2 ⟨hd, ih h⟩

/-- Among desks in ascending number the least busy is the first with the fewest open notices. -/
theorem leastBusy_le {xs : List (Nat × Desk)} (hsorted : xs.Pairwise fun x y => x.1 < y.1) {x : Nat × Desk}
    (h : leastBusy xs = some x) : ∀ y ∈ xs, deskAvailable y.2 = true →
      x.2.openCount < y.2.openCount ∨ x.2.openCount = y.2.openCount ∧ x.1 ≤ y.1 := by
  induction xs generalizing x with
  | nil => cases h
  | cons y rest ih =>
    obtain ⟨i, d⟩ := y
    obtain ⟨hhead, hrest⟩ := List.pairwise_cons.1 hsorted
    unfold leastBusy at h
    refine List.forall_mem_cons.2 ?_
    split at h
    · split at h
      · rename_i hnone
        cases h
        exact ⟨fun _ => .inr ⟨rfl, Nat.le_refl _⟩, fun y hy havail => absurd havail (leastBusy_eq_none hnone y hy)⟩
      · rename_i j e hle
        have hfew := ih hrest hle
        split at h <;> cases h
        · rename_i hlt
          exact ⟨fun _ => .inl hlt, hfew⟩
        · rename_i hlt
          refine ⟨fun _ => .inr ⟨rfl, Nat.le_refl _⟩, fun y hy havail => ?_⟩
          have hnum := hhead y hy
          have hcount := hfew y hy havail
          simp only at hlt hnum hcount ⊢
          omega
    · rename_i hd
      exact ⟨fun havail => absurd havail hd, ih hrest h⟩

theorem numberedDesks_sorted (s : State) : (numberedDesks s).Pairwise fun x y => x.1 < y.1 := by
  refine List.Pairwise.filterMap _ (fun i j hlt x hx y hy => ?_) List.pairwise_lt_range
  obtain ⟨_, _, rfl⟩ := Option.map_eq_some_iff.1 hx
  obtain ⟨_, _, rfl⟩ := Option.map_eq_some_iff.1 hy
  exact hlt

/-- No desk for a route means that none it may use is available. -/
theorem targetDesk_eq_none {q : Route} {s : State} (h : targetDesk q s = none) {d : Nat} {k : Desk}
    (hd : q.desk = none ∨ q.desk = some d) (hk : s.router.desks[d]? = some k) : ¬ deskAvailable k = true := by
  unfold targetDesk at h
  rcases hd with hd | hd
  · rw [hd] at h
    exact leastBusy_eq_none (Option.map_eq_none_iff.1 h) (d, k) (mem_numberedDesks.2 hk)
  · simp only [hd, hk] at h
    exact fun havail => Option.some_ne_none d ((if_pos havail).symm.trans h)

theorem targetDesk_named {q : Route} {s : State} {d e : Nat} (h : targetDesk q s = some d) (he : q.desk = some e) :
    e = d := by
  simp only [targetDesk, he] at h
  split at h
  · split at h
    · exact Option.some.inj h
    · cases h
  · cases h

/-- A route for any desk goes to the least busy, the lowest-numbered among equals. -/
theorem targetDesk_any {q : Route} {s : State} {d e : Nat} {k m : Desk} (h : targetDesk q s = some d) (hany : q.desk = none)
    (hk : s.router.desks[d]? = some k) (hm : s.router.desks[e]? = some m) (havail : deskAvailable m = true) :
    k.openCount < m.openCount ∨ k.openCount = m.openCount ∧ d ≤ e := by
  simp only [targetDesk, hany] at h
  obtain ⟨⟨j, k'⟩, hleast, rfl⟩ := Option.map_eq_some_iff.1 h
  have hk' := mem_numberedDesks.1 (leastBusy_mem hleast).1
  obtain rfl : k' = k := Option.some.inj (hk'.symm.trans hk)
  exact leastBusy_le (numberedDesks_sorted s) hleast (e, m) (mem_numberedDesks.2 hm) havail

/-! ### When a route presents, and what -/

/-- Nothing is presented exactly when no record waits that an available desk of the route could take. -/
theorem canPresent_eq_none {l : Nat} {s : State} : canPresent l s = none ↔
    ∀ (q : Route) (b : Basket) (d : Nat) (k : Desk), s.router.routes[l]? = some q → q.masked = false →
      q.presented = none → activeBasket l s = some b → (q.desk = none ∨ q.desk = some d) →
      s.router.desks[d]? = some k → k.onDuty = true → k.openCount < 8 →
      ∀ r ∈ s.overrides, r.basket = b.number → isWaiting r = false := by
  refine ⟨fun hnone q b d k hq hmask hpres hb hd hk hduty hroom r hr hbasket => ?_, fun hall => ?_⟩
  · refine Bool.eq_false_iff.2 fun hwait => ?_
    have hwaiting := mem_waiting.2 ⟨hr, hbasket, hwait⟩
    cases hlow : lowestSeq ((basketRecords b.number s).filter isWaiting) with
    | none =>
      rw [lowestSeq_eq_none hlow] at hwaiting
      cases hwaiting
    | some low =>
      cases htarget : targetDesk q s with
      | none => exact targetDesk_eq_none htarget hd hk (deskAvailable_iff.2 ⟨hduty, hroom⟩)
      | some e =>
        cases hnone.symm.trans (canPresent_eq_some.2 ⟨q, b, hq, hmask, hpres, hb, hlow, htarget⟩)
  · refine Option.eq_none_iff_forall_ne_some.2 fun rd hsome => ?_
    obtain ⟨r, d⟩ := rd
    obtain ⟨q, b, hq, hmask, hpres, hb, hlow, htarget⟩ := canPresent_eq_some.1 hsome
    obtain ⟨k, hk, havail⟩ := targetDesk_available htarget
    obtain ⟨hduty, hroom⟩ := deskAvailable_iff.1 havail
    obtain ⟨hr, hbasket, hwait⟩ := mem_waiting.1 (lowestSeq_mem hlow)
    have hd : q.desk = none ∨ q.desk = some d := by
      cases he : q.desk with
      | none => exact .inl rfl
      | some e => exact .inr (congrArg some (targetDesk_named htarget he))
    exact Bool.false_ne_true ((hall q b d k hq hmask hpres hb hd hk hduty hroom r hr hbasket).symm.trans hwait)

/-- A presentation on the route, at the desk and in the record, and its notice (R117, R126). -/
theorem presentOn_eq {l d : Nat} {q : Route} {k : Desk} {r : OverrideRecord} {s : State} {x : Line}
    (hq : s.router.routes[l]? = some q) (hk : s.router.desks[d]? = some k) (hx : recordLine r s = some x) :
    presentOn l q r d s = {
      state := (s.withRouter
        { routes := s.router.routes.setIfInBounds l { q with
            tag := q.tag + 1
            presented := some { basket := r.basket, line := r.line, seq := r.seq, desk := d
                                timer := 1000 * s.tables.limits.noticeLimit } }
          desks := s.router.desks.setIfInBounds d { k with
            openCount := k.openCount + 1, presentedTotal := k.presentedTotal + 1 } }).withOverrides
        (s.overrides.map fun o => if o.basket = r.basket ∧ o.line = r.line then
          { o with state := .pending (min (presentationCount o + 1) 255) true } else o)
      sent := [noticeTo .deskNotice (some l) (.deskNotice
        { desk := d, tag := q.tag + 1, code := q.code, line := r.line, basket := r.basket, seq := r.seq
          item := x.item, quantity := x.quantity, shelfPrice := x.price, price := r.price
          reason := r.reason, count := min (presentationCount r + 1) 255, reduction := r.reduction })] } := by
  have hq' : (mapRecord r.basket r.line markPresented s).router.routes[l]? = some q := hq
  have hx' : recordLine (markPresented r) s = some x := hx
  rw [presentOn, mapRoute_of_route _ hq', mapDesk_of_desk (k := k), deskNoticeMessage, hx']
  · rfl
  · exact hk

/-- Settles O32: the pass is a fold over the lanes, and a route presents the first waiting record to its desk. -/
theorem presentationRule : Obligations.PresentationRule := by
  refine ⟨presentationPass_eq_foldl, fun l s h => presentIfAble_of_none h, fun l s => canPresent_eq_none,
    fun l d s r h => ?_⟩
  obtain ⟨q, b, hq, -, -, hb, hlow, htarget⟩ := canPresent_eq_some.1 h
  obtain ⟨k, hk, havail⟩ := targetDesk_available htarget
  obtain ⟨hduty, hroom⟩ := deskAvailable_iff.1 havail
  obtain ⟨hr, hbasket, hwait⟩ := mem_waiting.1 (lowestSeq_mem hlow)
  refine ⟨q, b, k, hq, hb, hk, hr, hbasket, hwait,
    fun o ho hob how => lowestSeq_le hlow o (mem_waiting.2 ⟨ho, hob, how⟩), hduty, hroom,
    fun e he => targetDesk_named htarget he, fun hany e m hm hon => ?_,
    fun x hx => (presentIfAble_of_some hq h).trans (presentOn_eq hq hk hx)⟩
  by_cases hfull : m.openCount < 8
  · exact targetDesk_any htarget hany hk hm (deskAvailable_iff.2 ⟨hon, hfull⟩)
  · exact .inl (by omega)

end Sys2Proof.Machine
end


section
/-! CANCEL (R4, R21, R131): what the cancellation of a basket leaves of the machine, and the order of its messages. -/

namespace Sys2Proof.Machine

/-- What CANCEL takes back before the basket goes: the notice, if one is presented, of its own lane's route. -/
def cancelBack (b : Basket) (s : State) : Effect :=
  (b.lane.bind fun l => (presentationOf l s).map fun p => (l, p)).elim (nothing s)
    fun x => takeBack x.1 b.number x.2.line s

/-- A taken CANCEL, with the cancelled state named. -/
theorem cancelTaken_eq (h : Header) {b : Basket} {s ended : State} {back : Effect} (hback : cancelBack b s = back)
    (hended : cancelBasket b .host (cancelEvaluation b.number back.state) = ended) :
    cancelTaken h b s =
      let done := if back.sent = [] then nothing ended else presentationPass ended
      { state := done.state
        sent := totalReply .cancelled .none b ++ [replyTo .cancel h .ok .none] ++ back.sent ++ done.sent
          ++ journalWaitingNotice done.state } := by
  subst hback hended
  unfold cancelTaken cancelBack
  cases b.lane.bind fun l => (presentationOf l s).map fun p => (l, p) <;> rfl

section back

variable {b : Basket} {s : State}

theorem cancelBack_of_notPresented (hp : ∀ l p, b.lane = some l → presentationOf l s = some p → p.basket ≠ b.number) :
    cancelBack b s = nothing s := by
  unfold cancelBack
  cases hlp : b.lane.bind fun l => (presentationOf l s).map fun p => (l, p) with
  | none => rfl
  | some x =>
    obtain ⟨l, hl, hmap⟩ := Option.bind_eq_some_iff.1 hlp
    obtain ⟨p, hpres, rfl⟩ := Option.map_eq_some_iff.1 hmap
    refine takeBack_of_notPresented fun p' hp' hkey => hp l p hl hpres ?_
    obtain rfl : p = p' := Option.some.inj (hpres.symm.trans hp')
    exact hkey.1

theorem cancelBack_of_presented {l : Nat} {q : Route} {p : Presentation} {k : Desk} (hl : b.lane = some l)
    (hq : s.router.routes[l]? = some q) (hp : q.presented = some p) (hn : p.basket = b.number)
    (hk : s.router.desks[p.desk]? = some k) :
    cancelBack b s = {
      state := s.withRouter
        { routes := s.router.routes.setIfInBounds l { q with presented := none }
          desks := s.router.desks.setIfInBounds p.desk { k with openCount := k.openCount - 1 } }
      sent := [noticeTo .noticeWithdrawn (some l) (.noticeWithdrawn p.desk q.tag p.line .lane b.number)] } := by
  simp only [cancelBack, hl, Option.bind_some, (presentationOf_of_route hq).trans hp, Option.map_some, Option.elim_some]
  exact takeBack_of_presented hq hp hn rfl hk

end back

theorem state_eq_of_blocks {s t : State} (hlink : s.link = t.link) (htable : s.basketTable = t.basketTable)
    (heval : s.evaluator = t.evaluator) (hstore : s.store = t.store) (hcal : s.calendar = t.calendar)
    (htab : s.tables = t.tables) (hover : s.overrides = t.overrides) (hrouter : s.router = t.router)
    (hacc : s.accounts = t.accounts) (hset : s.settlement = t.settlement) (hpend : s.pending = t.pending) : s = t := by
  cases s
  cases t
  subst hlink htable heval hstore hcal htab hover hrouter hacc hset hpend
  rfl

/-- The state that the cancellation of a basket leaves, block by block. -/
theorem cancelBasket_host_eq {b : Basket} {s : State} {accounts : AccountTable}
    (haccounts : (dropAccount b (removeRecords b.number (cancelEvaluation b.number s))).accounts = accounts) :
    cancelBasket b .host (cancelEvaluation b.number s) = { s with
      link := { s.link with
        mode := if s.link.mode = .quiescing ∧
            (s.basketTable.baskets.filter fun x => decide (x.number ≠ b.number)) = [] then .maintenance
          else s.link.mode }
      basketTable := { s.basketTable with
        baskets := s.basketTable.baskets.filter fun x => decide (x.number ≠ b.number)
        lanes := s.basketTable.lanes.map fun r => if r.active = some b.number then { r with active := none } else r
        parkList := s.basketTable.parkList.filter fun m => decide (m ≠ b.number) }
      evaluator :=
        { queue := s.evaluator.queue.filter fun m => decide (m ≠ b.number)
          units := s.evaluator.units.map fun u =>
            u.map fun r => if r.basket = b.number then { r with discard := true } else r }
      overrides := s.overrides.filter fun r => decide (r.basket ≠ b.number)
      accounts := accounts
      settlement := { s.settlement with
        journal := s.settlement.journal ++ [.cancelled
          { identity := s.tables.identity.getD 0, basket := b.number
            lane := b.lane.bind fun l => (s.basketTable.lanes[l]?).map fun r => (l, r.laneClass)
            account := b.account, stamp := s.calendar.now, cause := .host, parkTime := none }] } } :=
  state_eq_of_blocks (cancelBasket_link ..) (cancelBasket_basketTable ..) (cancelBasket_evaluator ..)
    (cancelBasket_store ..) (cancelBasket_calendar ..) (cancelBasket_tables ..) (cancelBasket_overrides ..)
    (cancelBasket_router ..) ((cancelBasket_accounts ..).trans haccounts) (cancelBasket_settlement ..)
    (cancelBasket_pending ..)

/-- CANCEL outside MAINTENANCE for a basket of its lane, or a parked one. -/
theorem cancel_of_basket {h : Header} {n : Nat} {b : Basket} {s : State} (hm : s.link.mode ≠ .maintenance)
    (hb : findBasket n s = some b) (hlane : b.state = .parked ∨ b.lane = laneOf h) :
    cancel h n s = if 128 ≤ s.settlement.journal.length then refuse .cancel h .journalFull s else cancelTaken h b s := by
  have hown : ¬ (b.state ≠ .parked ∧ laneOf h ≠ b.lane) := fun hother =>
    hlane.elim hother.1 fun heq => hother.2 heq.symm
  simp only [cancel, if_neg hm, hb, if_neg hown, journalFull_iff]

/-- Settles O29: the checks, then the taking back, the blocks that the basket leaves and the messages in order. -/
theorem cancelRule : Obligations.CancelRule := by
  intro h n s c hc hu
  subst hc
  refine ⟨fun hm => refuses_of_refuse hu rfl (if_pos hm), fun hm hnone => refuses_of_refuse hu rfl ?noBasket,
    fun b hm hb => ⟨fun hparked hother => refuses_of_refuse hu rfl ?otherLane, fun hlane => ?_⟩⟩
  case noBasket =>
    have hnone' : findBasket n (leaveQueue (.cancel h n) s) = none := hnone
    refine (if_neg hm).trans ?_
    simp only [hnone']
  case otherLane =>
    have hb' : findBasket n (leaveQueue (.cancel h n) s) = some b := hb
    refine (if_neg hm).trans ?_
    simp only [hb']
    exact if_pos ⟨hparked, fun heq => hother heq.symm⟩
  have hrun : runOf (.cancel h n) (leaveQueue (.cancel h n) s) = _ :=
    cancel_of_basket (s := leaveQueue (.cancel h n) s) hm hb hlane
  refine ⟨fun hfull => refuses_of_refuse hu rfl (hrun.trans (if_pos hfull)), ?_⟩
  intro totals waiting back accounts remaining ended hroom htotals hwaiting hback haccounts hremaining hended
  obtain rfl : b.number = n := findBasket_number hb
  obtain ⟨router, hbackState, hbackEq⟩ : ∃ router, back.state = (leaveQueue (.cancel h b.number) s).withRouter router
      ∧ cancelBack b (leaveQueue (.cancel h b.number) s) = back := by
    rcases hback with ⟨hnone, rfl⟩ | ⟨l, q, p, k, hl, hq, hp, hn, hk, rfl⟩
    · exact ⟨s.router, rfl, cancelBack_of_notPresented hnone⟩
    · exact ⟨_, rfl, cancelBack_of_presented hl hq hp hn hk⟩
  have haccountsEq : (dropAccount b (removeRecords b.number (cancelEvaluation b.number
      ((leaveQueue (.cancel h b.number) s).withRouter router)))).accounts = accounts := by
    rcases haccounts with ⟨hnone, rfl⟩ | ⟨a, e, ha, he, rfl⟩
    · rw [dropAccount_of_none hnone]
      rfl
    · exact dropAccount_of_entry ha he
  have hendedEq : cancelBasket b .host (cancelEvaluation b.number back.state) = ended := by
    rw [hended, hremaining, hbackState, cancelBasket_host_eq haccountsEq]
    rfl
  have htaken := hrun.trans ((if_neg (Nat.not_le.2 hroom)).trans (cancelTaken_eq h hbackEq hendedEq))
  obtain ⟨r, hsettlement⟩ : ∃ r : JournalRecord,
      ended.settlement = { s.settlement with journal := s.settlement.journal ++ [r] } :=
    ⟨_, congrArg State.settlement hended⟩
  have htables : ended.tables = s.tables := by
    rw [hended, hbackState]
    rfl
  have hnotice (t : State) (hset : t.settlement = ended.settlement) (htab : t.tables = ended.tables) :
      journalWaitingNotice t = waiting := by
    rw [hwaiting]
    exact journalWaitingNotice_of_append (hset.trans hsettlement) (htab.trans htables)
  have htotalsEq : totalReply .cancelled .none b = totals := by
    rw [htotals]
    rfl
  refine ⟨fun hsilent => takes_of_effect hu rfl (htaken.trans ?_), fun f hsent hf => takes_of_effect hu rfl (htaken.trans ?_)⟩
  · simp only [hsilent, if_true, nothing_state, nothing_sent, hnotice ended rfl rfl, htotalsEq, List.append_nil,
      List.append_assoc, List.singleton_append]
  · have hlast := hnotice f.state (by rw [hf, presentationPass_settlement]) (by rw [hf, presentationPass_tables])
    simp only [if_neg hsent, ← hf, hlast, htotalsEq, List.append_assoc, List.cons_append, List.nil_append]

end Sys2Proof.Machine
end


section
/-! A lane action on a presented record (R109, R112, R113, R131): the notice taken back, the record gone, and one pass
at the end of the event. -/

namespace Sys2Proof.Machine

section

variable {n line l : Nat} {s : State} {q : Route} {p : Presentation} {k : Desk}

/-- A record that a desk holds goes with its notice, and a pass follows. -/
theorem withdrawRecord_of_presented {e : Effect} (hq : s.router.routes[l]? = some q) (hp : q.presented = some p)
    (hn : p.basket = n) (hline : p.line = line) (hk : s.router.desks[p.desk]? = some k)
    (he : e = presentationPass ((s.withRouter
        { routes := s.router.routes.setIfInBounds l { q with presented := none }
          desks := s.router.desks.setIfInBounds p.desk { k with openCount := k.openCount - 1 } }).withOverrides
      (s.overrides.filter fun r => decide (¬ (r.basket = n ∧ r.line = line))))) :
    withdrawRecord l n line s = {
      state := e.state
      sent := noticeTo .noticeWithdrawn (some l) (.noticeWithdrawn p.desk q.tag line .lane n) :: e.sent } := by
  rw [withdrawRecord, takeBack_of_presented hq hp hn hline hk]
  simp only [reduceCtorEq, if_false, removeRecord_eq]
  rw [he]
  rfl

/-- A record keyed past the lane-grant test in the place of a presented one: the pass runs. -/
theorem keyTaken_granted {h : Header} {price : Nat} {b : Basket} {x : Line} {why : Reason} {back e : Effect}
    (hgrant : laneGrantTest l b.number x.number why price ((x.price - price) * x.quantity) s = true)
    (hback : takeBack l b.number x.number s = back) (hsent : back.sent ≠ [])
    (he : e = presentationPass (keyRecord (newRecord b.number x b.keyingCount price why true) back.state)) :
    keyTaken h l b x price why s =
      e.after (keyedReply h .granted b.keyingCount ((x.price - price) * x.quantity) :: back.sent) := by
  rw [keyTaken_of_grant hgrant, hback]
  simp only [if_neg hsent, ← he]

end

/-- Settles O31: each request ends the presentation in the state it leaves, and its pass comes last. -/
theorem laneActionTakesNoticeBack : Obligations.LaneActionTakesNoticeBack := by
  intro h n line l b q p k ended withdrawn s hs hq hp hn hline hk hended hwithdrawn
  refine ⟨fun c r hc hu hr e he => ?withdraw, fun c hc hu hx e he => ?void, ?key⟩
  case withdraw =>
    subst hc
    refine takes_of_effect hu rfl ?_
    have hr' : recordOf n line (leaveQueue (.overrideWithdraw h n line) s) = some r := hr
    have hwith := withdrawRecord_of_presented (s := ownChange n (leaveQueue (.overrideWithdraw h n line) s)) (e := e)
      hq hp hn hline hk (by rw [he, hended]; rfl)
    show overrideWithdraw h n line _ = _
    rw [overrideWithdraw, onServed_of_served (served_leaveQueue _ hs)]
    simp only [hr']
    rw [hwith, hwithdrawn]
    rfl
  case void =>
    subst hc
    refine takes_of_effect hu rfl ?_
    obtain ⟨x, hx, hxline⟩ := hx
    obtain ⟨y, hy⟩ : ∃ y, findLine line b = some y :=
      Option.isSome_iff_exists.1 (List.find?_isSome.2 ⟨x, hx, decide_eq_true hxline⟩)
    have hwith (bs : List Basket) (hbs : e = presentationPass (ended ((leaveQueue (.lineVoid h n line) s).withBaskets bs))) :=
      withdrawRecord_of_presented (s := (leaveQueue (.lineVoid h n line) s).withBaskets bs) (e := e) hq hp hn hline hk
        (by rw [hbs, hended]; rfl)
    show lineVoid h n line _ = _
    rw [lineVoid, onServed_of_served (served_leaveQueue _ hs)]
    simp only [hy]
    rw [ownChange_mapBasket, hwith _, hwithdrawn]
    · rfl
    · exact he
    · exact fun _ => rfl
  case key =>
    intro c price reason why x lane cut lanePart grants keyed hc hu hwhy hprice hx hless hcount hrec hlane hcut hpart
      hgrants hkeyed
    subst hc hcut
    have hrun := overrideKey_taken (h := h) (served_leaveQueue (.overrideKey h n line price reason) hs) hwhy hprice hx
      hless hcount fun hnone => absurd hnone hrec
    obtain ⟨_, _, hb, _, _⟩ := hs
    obtain rfl : b.number = n := findBasket_number hb
    obtain rfl : x.number = line := by simpa using List.find?_some hx
    have hback := takeBack_of_presented (s := leaveQueue (.overrideKey h b.number x.number price reason) s) hq hp hn hline hk
    have htest : laneGrantTest l b.number x.number why price ((x.price - price) * x.quantity)
        (leaveQueue (.overrideKey h b.number x.number price reason) s) = true ↔ grants := by
      have hiff := laneGrantTest_iff (n := b.number) (line := x.number) (price := price)
        (cut := (x.price - price) * x.quantity) (why := why)
        (s := leaveQueue (.overrideKey h b.number x.number price reason) s) hlane
      rw [laneGrantTotal_eq] at hiff
      rw [hiff, hgrants, hpart]
      rfl
    have hkeyedEq (who : Bool) : keyed (if who then .granted .lane ((x.price - price) * x.quantity) else .pending 0 false)
        = keyRecord (newRecord b.number x b.keyingCount price why who)
          (takeBack l b.number x.number (leaveQueue (.overrideKey h b.number x.number price reason) s)).state := by
      rw [hkeyed, hback, hended]
      cases who <;> rfl
    have hl : l < 16 := (Vector.getElem?_eq_some_iff.1 hq).1
    refine ⟨fun hyes e he => takes_of_effect hu rfl (hrun.trans ?granted), fun hno e he => ⟨fun hkeep => ?pending,
      fun hmode hnot => ?declined⟩⟩
    case granted =>
      have heq := keyTaken_granted (h := h) (e := e) (htest.2 hyes) rfl (by rw [hback]; exact List.cons_ne_nil _ _)
        (he.trans (congrArg presentationPass (hkeyedEq true)))
      rw [heq, hback, hwithdrawn]
      rfl
    case pending =>
      have heq := keyTaken_pending (h := h) (e := e) (q := { q with presented := none }) (mt htest.1 hno) rfl
        (by rw [hback]; exact Vector.getElem?_setIfInBounds_self_of_lt hl)
        (he.trans (congrArg presentationPass (hkeyedEq false))) hkeep
      refine takes_of_effect hu rfl (hrun.trans (heq.trans ?_))
      rw [hback, hwithdrawn]
      rfl
    case declined =>
      have heq := keyTaken_declined (h := h) (e := e) (q := { q with presented := none }) (mt htest.1 hno) rfl
        (by rw [hback]; exact Vector.getElem?_setIfInBounds_self_of_lt hl)
        (he.trans (congrArg presentationPass (hkeyedEq false))) hmode hnot
      refine takes_of_effect hu rfl (hrun.trans (heq.trans ?_))
      rw [hback, hwithdrawn, removeRecord_eq]
      rfl

end Sys2Proof.Machine
end
